-- ==== Sys2Proof/Word.lean ====
section
/-! DEFINITION. The word and the fixed-width names every other file uses (02 R15, R18, R21). -/

namespace Sys2Proof

/-- A word: 36 bits; the manual's bit 0 is the most significant one (00 R2, 02 R15). -/
abbrev Word := BitVec 36

/-- An instruction parcel (02 R17). -/
abbrev Parcel := BitVec 18

/-- A byte of an outside interface or of the image store (16 R391). -/
abbrev Octet := BitVec 8

/-- A vector register (08 R182). -/
abbrev VReg := BitVec 144

/-- A decimal accumulator: 71 digits, then the sign nibble, in 8 words (02 R25). -/
abbrev Acc := BitVec 288

/-- Core numbers: 0 to 63 the ledger cores, 64 the steward (00 glossary, 17 Table 17-2 SRC). -/
abbrev CoreId := Fin 65

end Sys2Proof
end

