-- ==== Sys2Proof/Syntax.lean ====
section
/-! DEFINITION. The commands of the block: one constructor of Instr per row of the opcode table, with
the operand fields of the spec's instruction formats (03 Tables 03-1, 03-2) and of the events' rules. -/

namespace Sys2Proof

/-- Format SR (03 Table 03-1). -/
structure SR where
  rd : BitVec 5
  rs : BitVec 5
  deriving DecidableEq, Repr

/-- Format SI. -/
structure SI where
  rd : BitVec 5
  imm : BitVec 8
  deriving DecidableEq, Repr

/-- Format SH. -/
structure SH where
  rd : BitVec 5
  cnt : BitVec 6
  deriving DecidableEq, Repr

/-- Format SM; `h` is the S/H bit's free part: the half of the half-word forms. -/
structure SM where
  rd : BitVec 5
  rb : BitVec 5
  db : BitVec 2
  h : BitVec 1
  deriving DecidableEq, Repr

/-- Format SB. -/
structure SB where
  cond : BitVec 4
  disp : BitVec 9
  deriving DecidableEq, Repr

/-- Format SL. -/
structure SL where
  rc : BitVec 5
  endp : BitVec 8
  deriving DecidableEq, Repr

/-- Format SX. -/
structure SX where
  ra : BitVec 5
  deriving DecidableEq, Repr

/-- Format SC. -/
structure SC where
  ra : BitVec 5
  spr : BitVec 8
  deriving DecidableEq, Repr

/-- Format SD. -/
structure SD where
  dd : BitVec 2
  ds : BitVec 2
  rg : BitVec 5
  deriving DecidableEq, Repr

/-- Format SV. -/
structure SV where
  vd : BitVec 4
  vs : BitVec 4
  deriving DecidableEq, Repr

/-- Format LM (03 Table 03-2). -/
structure LM where
  rd : BitVec 5
  rb : BitVec 5
  disp : BitVec 18
  deriving DecidableEq, Repr

/-- Format LH. -/
structure LH where
  rd : BitVec 5
  rb : BitVec 5
  disp : BitVec 17
  h : BitVec 1
  deriving DecidableEq, Repr

/-- Format LX. -/
structure LX where
  rd : BitVec 5
  rb : BitVec 5
  cx : BitVec 4
  disp : BitVec 14
  deriving DecidableEq, Repr

/-- Format LP; `z` is the field [18:35] that must be zero. -/
structure LP where
  rd : BitVec 5
  rb : BitVec 5
  z : BitVec 18
  deriving DecidableEq, Repr

/-- Format LI. -/
structure LI where
  rd : BitVec 5
  imm : BitVec 22
  deriving DecidableEq, Repr

/-- Format LB; `z` is bit [35], which must be zero. -/
structure LB where
  cond : BitVec 4
  rl : BitVec 5
  off : BitVec 16
  par : BitVec 1
  z : BitVec 1
  deriving DecidableEq, Repr

/-- BAL's operands, and whether the instruction in its delay slot has two parcels (log entry 10). -/
structure LBSlot where
  b : LB
  long : Bool
  deriving DecidableEq, Repr

/-- LOOP's operands, and whether the last instruction of the body has two parcels (log entry 10). -/
structure SLEnd where
  l : SL
  long : Bool
  deriving DecidableEq, Repr

/-- A core, and whether the instruction it is to issue has two parcels (log entry 10). -/
structure CoreAt where
  core : CoreId
  long : Bool
  deriving DecidableEq, Repr

/-- Format LR; `z` is [15:17], which must be zero. -/
structure LR where
  ra : BitVec 5
  rb : BitVec 5
  z : BitVec 3
  rc : BitVec 5
  mod : BitVec 5
  deriving DecidableEq, Repr

/-- Format LV. -/
structure LV where
  vd : BitVec 4
  rb : BitVec 5
  ri : BitVec 5
  disp : BitVec 13
  deriving DecidableEq, Repr

/-- Format LA without SLOT and OPC, which the mnemonic fixes (14 Table 14-5). -/
structure LA where
  ra : BitVec 5
  rb : BitVec 5
  rc : BitVec 5
  mod : BitVec 5
  deriving DecidableEq, Repr

/-- ADD and CMP: register, short immediate and long immediate forms (04 Table 04-1). -/
inductive Alu3 where
  | sr (o : SR)
  | si (o : SI)
  | li (o : LI)
  deriving DecidableEq, Repr

/-- AND, OR, XOR, TST: register and long immediate forms (03 R54). -/
inductive Alu2 where
  | sr (o : SR)
  | li (o : LI)
  deriving DecidableEq, Repr

/-- Shifts and rotates: count from a register or a constant (04 R85). -/
inductive ShiftForm where
  | sr (o : SR)
  | sh (o : SH)
  deriving DecidableEq, Repr

/-- LI: short and long immediate (03 R54). -/
inductive LiForm where
  | si (o : SI)
  | li (o : LI)
  deriving DecidableEq, Repr

/-- Short and long memory forms (03 R57, R58). -/
inductive MemForm where
  | sm (o : SM)
  | lm (o : LM)
  deriving DecidableEq, Repr

/-- Half-word memory forms (03 R57, R58). -/
inductive HalfForm where
  | sm (o : SM)
  | lh (o : LH)
  deriving DecidableEq, Repr

/-- BC: short and long (03 R59). -/
inductive BranchForm where
  | sb (o : SB)
  | lb (o : LB)
  deriving DecidableEq, Repr

/-- The two moves of a special register (03 majors 0o14, 0o15). -/
inductive SprMove where
  | toG (o : SC)
  | toS (o : SC)
  deriving DecidableEq, Repr

/-- The six conversions of FCVT, destination format first (03 Table 03-4). -/
inductive Cvt where
  | sw | ws | dw | wd | sd | ds
  deriving DecidableEq, Repr

/-- The element view of VCMP (08 Table 08-2). -/
inductive VView where
  | c | h | w
  deriving DecidableEq, Repr

/-- Who writes a control page (17 Table 17-2 SRC). -/
inductive Writer where
  | core (c : CoreId)
  | host
  | smbus
  | relay
  deriving DecidableEq, Repr

/-- A flit as it arrives, its type named by the command (15 Table 15-2). -/
structure Flit where
  ftype : BitVec 8
  ccls : BitVec 3
  ccnt : BitVec 5
  w0 : Word
  w1 : Word
  w2 : Word
  w3 : Word
  seq : BitVec 16
  deriving DecidableEq, Repr

/-- A ticket (13 Table 13-1). -/
structure Ticket where
  key : Word
  tflags : Word
  ptrA : Word
  ptrB : Word
  deriving DecidableEq, Repr

/-- What the twins exchange in VERIFY beside the PARAM flit (15 R382): the positions and SEQ of the
peer's last records, latest first, its ARCHIVE_POS and APPEND_POS.
The manual gives no flit layout for them. -/
structure PeerJournal where
  records : List (Word × Word × Word)
  archive : Word
  append : Word
  deriving DecidableEq, Repr

/-- The content of a cluster message after its routing word (15 R371). The manual lays out neither the
queue number of a shipped ticket nor the messages of directories, bucket moves and notices: they are named
here (log entry 14). -/
inductive MsgBody where
  | ticket (queue : BitVec 14) (t : Ticket) (attached : List Word)
  | ack (seq : BitVec 14)
  | dirUpdate (bucket : BitVec 16) (entry : Word)
  | directory (first : Bool) (version : Word) (vmix : Bool) (entries : List (Nat × Word))
  | fence (src : BitVec 5) (queue : BitVec 14)
  | frameLine (frame : BitVec 29) (line : Nat) (words : List (Word × Bool))
  | stage (n : Nat) (src dst : Word) (devs : List Nat)
  | stageEnd (n code : Nat)
  | notice (handover : Bool)
  | piece (number off : Nat) (bytes : List Octet)
  | pieceEnd (number code : Nat)
  | joined (dev : BitVec 5) (version : Word)
  | cluster (vmix : Bool) (versions : List (Nat × Word))
  | moveNote (stage : Nat) (failed : Bool) (src dst : Word) (devs : List Nat)
  | journal (p : PeerJournal)
  deriving DecidableEq, Repr

/-- A cluster message (15 R371). -/
structure Msg where
  dst : BitVec 5
  src : BitVec 5
  seq : BitVec 14
  hops : Nat
  body : MsgBody
  deriving DecidableEq, Repr

/-- A message as it arrives on a link port: for each of its flits, head first, the credits returned (CCLS, CCNT) and
the link sequence number (15 R367, R371). -/
structure Arrival where
  port : Fin 8
  msg : Msg
  links : List (BitVec 3 × BitVec 5 × BitVec 16)
  deriving DecidableEq, Repr

/-- The straps (15 R364, 18 Table 18-10). -/
structure Straps where
  devid : BitVec 5
  role : BitVec 2
  twin : Bool
  smba : BitVec 3
  deriving DecidableEq, Repr

/-- A host access to a slot of BAR0: a write with its 64 bits, or a read (17 R419; 19 R459, R460; log entry 22). -/
inductive HostAccess where
  | write (v : BitVec 64)
  | read
  deriving DecidableEq, Repr

/-- A host access to a slot of the aperture: a read, a write of the whole slot, or a write shorter than it or not aligned
to it (19 R460). -/
inductive SlotAccess where
  | load | store | part
  deriving DecidableEq, Repr

/-- What the SPD and the training of the DIMMs give (19 R455, R456, Table 19-1). -/
structure DramPop where
  pass : Bool
  dimms : BitVec 4
  ranks : BitVec 4
  gib : BitVec 12
  t1 : Word
  t2 : Word
  t3 : Word
  deriving DecidableEq, Repr

/-- A switched domain with a wake of its own (18 Table 18-4). -/
inductive Domain where
  | core (n : Fin 64)
  | subBank (cluster : Fin 8) (bank : Fin 4)
  | fabric (cluster : Fin 8)
  | dram (n : Fin 8)
  | pcie
  | kilnLane (n : Fin 4)
  | cellar
  | queueHalf (n : Fin 2)
  | maltster
  deriving DecidableEq, Repr

/-- What the reading of a line found (02 R40, 12 Table 10-7 classes 1 and 2). -/
inductive LineCheck where
  | good | corrected | uncorrectable
  deriving DecidableEq, Repr

/-- The registers JTAG debug reads and writes on a halted core, a word at a time: words of C, DA and V registers count
from their first (18 R453, 19 R468). -/
inductive DbgReg where
  | g (r : BitVec 5)
  | c (r : BitVec 4) (second : Bool)
  | da (r : BitVec 2) (word : BitVec 3)
  | v (r : BitVec 4) (word : BitVec 2)
  | pc
  | npc
  | spr (n : BitVec 8)
  deriving DecidableEq, Repr

/-- The commands: one constructor per row of the opcode table, in its order. `stop` of a control-store
instruction is the interruption that reaches the core after that many units (10 R244). -/
inductive Instr where
  | wait (c : CoreId) (o : SX)
  | sync (c : CoreId) (o : SX)
  | iflush (c : CoreId) (o : SX)
  | fbar (c : CoreId) (o : SX)
  | reti (c : CoreId) (o : SX)
  | enter (c : CoreId) (o : SX)
  | leave (c : CoreId) (o : SX)
  | trap (c : CoreId) (o : SX)
  | tlbw (c : CoreId) (o : SX)
  | tlbi (c : CoreId) (o : SX)
  | kinv (c : CoreId) (o : SX)
  | jr (c : CoreId) (o : SX)
  | bc (c : CoreId) (o : BranchForm)
  | bal (c : CoreId) (o : LBSlot)
  | loop (c : CoreId) (o : SLEnd)
  | add (c : CoreId) (o : Alu3)
  | addc (c : CoreId) (o : SR)
  | sub (c : CoreId) (o : SR)
  | subc (c : CoreId) (o : SR)
  | addv (c : CoreId) (o : SR)
  | subv (c : CoreId) (o : SR)
  | and (c : CoreId) (o : Alu2)
  | or (c : CoreId) (o : Alu2)
  | xor (c : CoreId) (o : Alu2)
  | not (c : CoreId) (o : SR)
  | neg (c : CoreId) (o : SR)
  | cmp (c : CoreId) (o : Alu3)
  | tst (c : CoreId) (o : Alu2)
  | mov (c : CoreId) (o : SR)
  | sprMove (c : CoreId) (o : SprMove)
  | mul (c : CoreId) (o : SR)
  | mulw (c : CoreId) (o : SR)
  | mulwu (c : CoreId) (o : SR)
  | div (c : CoreId) (o : SR)
  | divu (c : CoreId) (o : SR)
  | shl (c : CoreId) (o : ShiftForm)
  | shr (c : CoreId) (o : ShiftForm)
  | sha (c : CoreId) (o : ShiftForm)
  | rot (c : CoreId) (o : ShiftForm)
  | li (c : CoreId) (o : LiForm)
  | liH (c : CoreId) (o : LI)
  | ld (c : CoreId) (o : MemForm)
  | ld2 (c : CoreId) (o : LM)
  | ld4 (c : CoreId) (o : LM)
  | ldh (c : CoreId) (o : HalfForm)
  | ldc (c : CoreId) (o : MemForm)
  | ldp (c : CoreId) (o : LP)
  | xld (c : CoreId) (o : LX)
  | cld (c : CoreId) (o : LM)
  | st (c : CoreId) (o : MemForm)
  | st2 (c : CoreId) (o : LM)
  | st4 (c : CoreId) (o : LM)
  | sth (c : CoreId) (o : HalfForm)
  | stc (c : CoreId) (o : MemForm)
  | cst (c : CoreId) (o : LM)
  | xst (c : CoreId) (o : LX)
  | stk (c : CoreId) (o : LM)
  | storeDrain (c : CoreId) (ue : Bool)
  | lineFill (c : CoreId) (instrSide : Bool) (line : BitVec 36) (check : LineCheck)
  | keyRecordRead (cluster : Fin 8) (frame : BitVec 29)
  | fadd (c : CoreId) (d : Bool) (o : SR)
  | fsub (c : CoreId) (d : Bool) (o : SR)
  | fmul (c : CoreId) (d : Bool) (o : SR)
  | fdiv (c : CoreId) (d : Bool) (o : SR)
  | fsqrt (c : CoreId) (d : Bool) (o : SR)
  | fcmp (c : CoreId) (d : Bool) (o : SR)
  | fcvt (c : CoreId) (k : Cvt) (o : SR)
  | fma (c : CoreId) (d : Bool) (o : LR)
  | floatingCompletion (c : CoreId) (idx : Nat)
  | dadd (c : CoreId) (o : SD)
  | dsub (c : CoreId) (o : SD)
  | dmul (c : CoreId) (o : SD) (stop : Bool)
  | ddiv (c : CoreId) (o : SD) (stop : Bool)
  | dcmp (c : CoreId) (o : SD)
  | dshf (c : CoreId) (o : SD)
  | drnd (c : CoreId) (o : SD)
  | dcvb (c : CoreId) (o : SD) (stop : Bool)
  | dcvd (c : CoreId) (o : SD) (stop : Bool)
  | dld (c : CoreId) (o : LR) (stop : Bool)
  | dst (c : CoreId) (o : LR) (stop : Bool)
  | daddm (c : CoreId) (o : LR) (stop : Bool)
  | dsubm (c : CoreId) (o : LR) (stop : Bool)
  | dmulm (c : CoreId) (o : LR) (stop : Bool)
  | dcmpm (c : CoreId) (o : LR) (stop : Bool)
  | zpk (c : CoreId) (o : LR) (stop : Bool)
  | pkz (c : CoreId) (o : LR) (stop : Bool)
  | ckd (c : CoreId) (o : LR) (stop : Bool)
  | mvs (c : CoreId) (o : LR) (stop : Option Nat)
  | mvsr (c : CoreId) (o : LR) (stop : Option Nat)
  | cms (c : CoreId) (o : LR) (stop : Option Nat)
  | scs (c : CoreId) (o : LR) (stop : Option Nat)
  | trs (c : CoreId) (o : LR) (stop : Option Nat)
  | fill (c : CoreId) (o : LR) (stop : Option Nat)
  | edit (c : CoreId) (o : LR) (stop : Option Nat)
  | edmk (c : CoreId) (o : LR) (stop : Option Nat)
  | post (c : CoreId) (o : LR) (stop : Option Nat)
  | prep (c : CoreId) (o : LR) (stop : Option Nat)
  | conf (c : CoreId) (o : LR)
  | abrt (c : CoreId) (o : LR)
  | jrd (c : CoreId) (o : LR) (stop : Option Nat)
  | lockWaitEnd (c : CoreId)
  | admission (c : CoreId)
  | recordDurable
  | lone (c : CoreId)
  | tailScan
  | mramFailure
  | archivePos (w : Writer) (v : Word)
  | cmov (c : CoreId) (o : LR)
  | cnarrow (c : CoreId) (o : LR)
  | cseal (c : CoreId) (o : LR)
  | cunseal (c : CoreId) (o : LR)
  | ctest (c : CoreId) (o : LR)
  | take (c : CoreId) (o : SX)
  | give (c : CoreId) (o : SX)
  | qack (c : CoreId) (o : SX)
  | vdadd (c : CoreId) (o : SV)
  | vdsub (c : CoreId) (o : SV)
  | vcmp (c : CoreId) (view : VView) (o : SV)
  | vmrg (c : CoreId) (o : SV)
  | vclr (c : CoreId) (o : SV)
  | vmov (c : CoreId) (o : SV)
  | vadd (c : CoreId) (w : Bool) (o : SV)
  | vsub (c : CoreId) (w : Bool) (o : SV)
  | vand (c : CoreId) (o : SV)
  | vor (c : CoreId) (o : SV)
  | vxor (c : CoreId) (o : SV)
  | vnot (c : CoreId) (o : SV)
  | vld (c : CoreId) (o : LV)
  | vst (c : CoreId) (o : LV)
  | vgc (c : CoreId) (o : LV) (stop : Option Nat)
  | vgcf (c : CoreId) (o : LV) (stop : Option Nat)
  | vgw (c : CoreId) (o : LV) (stop : Option Nat)
  | vgwf (c : CoreId) (o : LV) (stop : Option Nat)
  | vsc (c : CoreId) (o : LV) (stop : Option Nat)
  | vcls (c : CoreId) (o : LV)
  | vtr (c : CoreId) (o : LV)
  | vectorUnitGate (c : CoreId)
  | vectorUnitWake (c : CoreId)
  | vgate (w : Writer) (n : Fin 64) (v : Word)
  | aese (c : CoreId) (o : LA)
  | aesd (c : CoreId) (o : LA)
  | gcms (c : CoreId) (o : LA)
  | gcmo (c : CoreId) (o : LA)
  | sign (c : CoreId) (o : LA)
  | verp256 (c : CoreId) (o : LA)
  | verp384 (c : CoreId) (o : LA)
  | vered (c : CoreId) (o : LA)
  | kload (c : CoreId) (o : LA)
  | kgen (c : CoreId) (o : LA)
  | kclr (c : CoreId) (o : LA)
  | kpub (c : CoreId) (o : LA)
  | sha256 (c : CoreId) (o : LA)
  | sha384 (c : CoreId) (o : LA)
  | sha512 (c : CoreId) (o : LA)
  | sha3x256 (c : CoreId) (o : LA)
  | sha3x384 (c : CoreId) (o : LA)
  | sha3x512 (c : CoreId) (o : LA)
  | hmacSha256 (c : CoreId) (o : LA)
  | hmacSha384 (c : CoreId) (o : LA)
  | hmacSha512 (c : CoreId) (o : LA)
  | crc32 (c : CoreId) (o : LA)
  | crc32c (c : CoreId) (o : LA)
  | rand (c : CoreId) (o : LA)
  | reseed (c : CoreId) (o : LA)
  | kilnRequestCompletion (c : CoreId)
  | ax (c : CoreId) (slot : Fin 4) (opc : BitVec 8) (o : LA)
  | arsp (f : Flit)
  | aint (f : Flit)
  | adjunctTimeout (c : CoreId)
  | fullEntry (c : CoreAt)
  | holdEnd (c : CoreId)
  | machineCheck (c : CoreId) (cls : Fin 7) (detail : BitVec 10)
  | breakpoint (c : CoreAt)
  | doorbell (fn : BitVec 7) (q : BitVec 14) (w3 : Word)
  | retireWord (fn : BitVec 7) (q : BitVec 14) (v : Word)
  | intakeRouting (q : BitVec 14)
  | shippedTicket (m : Arrival)
  | ticketRackTimeout (q : BitVec 14)
  | qCtl (w : Writer) (v : Word)
  | qrel (w : Writer) (v : Word)
  | ring (w : Writer)
  | dirEnt (w : Writer) (v : Word)
  | directoryUpdate (m : Arrival)
  | wholeDirectory (m : Arrival)
  | epochEnd
  | frameMove
  | homeChange (frame : BitVec 29) (good : Bool)
  | place (w : Writer)
  | evict (w : Writer)
  | bmove (w : Writer)
  | fence (m : Arrival)
  | drain
  | copy (good : Bool)
  | ship (room : Bool)
  | flipOut
  | babort (w : Writer)
  | bforce (w : Writer)
  | thr (w : Writer)
  | evq (w : Writer)
  | commitApply (page : Fin 100) (group : BitVec 6)
  | window (w : Writer)
  | format (w : Writer)
  | init (w : Writer)
  | reseal (w : Writer)
  | release (w : Writer)
  | kekload (w : Writer)
  | kilnCommandCompletion
  | groupRefresh (group : BitVec 13)
  | healthTestFailure
  | tamperMesh (pair : Fin 4)
  | meshPatternChange
  | voltageDetector (vbat : Bool)
  | clockDetector (refclk : Bool)
  | temperatureDetector
  | zeroizeN
  | tampCtl (w : Writer) (v : Word)
  | portCtl (w : Writer) (p : Fin 8) (v : Word)
  | farEndDetection (p : Fin 9)
  | clockRecovery (p : Fin 9) (lanes : BitVec 8)
  | blockSync (p : Fin 9)
  | blockSyncLoss (p : Fin 9)
  | idle (p : Fin 9) (f : Flit)
  | ack (p : Fin 9) (f : Flit)
  | nak (p : Fin 9) (f : Flit)
  | param (p : Fin 9) (f : Flit) (peer : PeerJournal)
  | hbeat (f : Flit)
  | heartbeatSend
  | heartbeatMiss
  | rackedRecord (h : Flit) (d : List Flit)
  | racka (f : Flit)
  | arch (f : Flit)
  | ticketEntry (f g : Flit)
  | newRet (f : Flit)
  | qrackAcknowledgement (f : Flit)
  | streamStart (f : Flit)
  | preparedLeg (f : Flit)
  | durableQueueContext (f : Flit)
  | streamEnd (f : Flit)
  | resynchronise (f : Flit)
  | endToEndAcknowledgement (m : Arrival)
  | messageResend (dst : BitVec 5)
  | unreachable (dst : BitVec 5)
  | settleTime
  | handoverNotice
  | detachNotice
  | twWaitExpiry
  | attach (w : Writer)
  | detach (w : Writer)
  | handover (w : Writer)
  | twTake (w : Writer)
  | accept (w : Writer)
  | resync (w : Writer)
  | twinCommandCompletion (code : BitVec 9)
  | mbSubmit (v : Word)
  | relayedPiece (m : Arrival)
  | build
  | activate (w : Writer)
  | engineTableSwitch
  | confirm (w : Writer)
  | abort (w : Writer)
  | revert (w : Writer)
  | relay (w : Writer)
  | lapse
  | powerOnReset (straps : Straps) (selfTest copyA copyB : Bool)
  | dramTraining (pop : DramPop)
  | pcieLinkTraining (gen : BitVec 4) (width : BitVec 5)
  | ready
  | svStart (v : Word)
  | warmrstN
  | rstCmd (w : Writer) (v : Word)
  | warmReset (selfTest copyA copyB : Bool)
  | reset (w : Writer) (n : Fin 64) (v : Word)
  | coreRelease (n : Fin 64)
  | pitch (w : Writer) (n : Fin 64)
  | pitchCompletion (n : Fin 64)
  | ici (w : Writer) (n : Fin 64)
  | taskArea (w : Writer) (c : CoreId) (v : Word)
  | tgroup (w : Writer) (c : CoreId) (v : Word)
  | perstN (low : Bool)
  | pwrGood
  | pwrFailN
  | pwrFailNRelease
  | srLgasp (w : Writer) (v : Word)
  | clPwr (w : Writer) (n : Fin 8) (v : Word)
  | ioPwr (w : Writer) (v : Word)
  | domainWake (d : Domain)
  | clFreq (w : Writer) (n : Fin 8)
  | frequencySwitch (n : Fin 8)
  | dramClk (w : Writer)
  | adjClk (w : Writer)
  | coreTiming (w : Writer) (n : Fin 8)
  | turnTiming (w : Writer) (n : Fin 8)
  | refTiming (w : Writer) (n : Fin 8)
  | scrubTiming (w : Writer) (n : Fin 8)
  | patrolScrub (line : BitVec 36) (check : LineCheck)
  | voltageSample (mv : List Nat)
  | cluUnfence (w : Writer) (n : Fin 8) (v : Word)
  | gradientStep (degc : List Int)
  | throttleStep (degc : List Int)
  | prochotN (low : Bool)
  | thermtrip
  | lockstepMismatch
  | timerExpiry (n : Fin 8)
  | watchdog
  | wdogKick (w : Writer) (v : Word)
  | wdogCtl (w : Writer) (v : Word)
  | dmaPtr (w : Writer) (n : Fin 4) (v : Word)
  | dmaDescriptor (n : Fin 4) (host : List Octet) (answered : Nat)
  | aperture (how : SlotAccess) (index : Nat) (v : BitVec 64)
  | hostDb (c : CoreId) (v : Word)
  | setWindowPointer (page off : Octet) (pecGood : Bool)
  | windowRead
  | windowWrite (bytes : List Octet) (pecGood : Bool)
  | readResult
  | pieceBufferWrite (off : Nat) (bytes : List Octet) (pecGood : Bool)
  | smbusSubmit (number : Nat) (pecGood : Bool)
  | alertResponse
  | bypass
  | idcode
  | samplePreload
  | extest
  | extestPulse
  | extestTrain
  | clamp
  | highz
  | dbgSel (core : Octet)
  | halt
  | step
  | resume
  | readRegister (r : DbgReg)
  | writeRegister (r : DbgReg) (v : Word)
  | readMemory (ptr : Word)
  | writeMemory (ptr : Word) (v : Word)
  | readTrace
  | dbgCtl (w : Writer) (high : Bool) (v : Word)
  | brk (w : Writer) (n : Fin 64) (v : Word)
  | lock (w : Writer) (page : Fin 100) (v : Word)
  | mode (w : Writer) (page : Fin 100) (v : Word)
  | pageWrite (w : Writer) (page : Fin 100) (off : BitVec 8) (v : Word)
  | undefinedInstruction (c : CoreId) (p0 : Parcel) (p1 : Parcel)
  | flitCrcFailure (p : Fin 9)
  | protocolError (p : Fin 9) (f : Flit)
  | messageRouting (m : Arrival)
  | zeroizeNRelease
  | steepCommandCompletion (code : BitVec 9)
  | porstN
  | hostWrite (fn : BitVec 7) (off : Nat) (v : HostAccess) (size : Nat)
  deriving DecidableEq, Repr

end Sys2Proof
end

