-- ==== Sys2Proof/Machine/Bits.lean ====
section
/-! DEFINITION. Fields of words in the manual's numbering (bit 0 leftmost), pointers and pieces (02). -/

namespace Sys2Proof.Machine

/-- A word holding n mod 2^36. -/
def wd (n : Nat) : Word := BitVec.ofNat 36 n

/-- Bits [a:b] of a word as a number (00 R2). -/
def bits (w : Word) (a b : Nat) : Nat := w.toNat / 2 ^ (35 - b) % 2 ^ (b + 1 - a)

/-- Bit [i] of a word. -/
def bit (w : Word) (i : Nat) : Bool := decide (bits w i i = 1)

/-- The word with bits [a:b] replaced by v. -/
def setBits (w : Word) (a b v : Nat) : Word :=
  wd (w.toNat - bits w a b * 2 ^ (35 - b) + v % 2 ^ (b + 1 - a) * 2 ^ (35 - b))

/-- The word with bit [i] replaced. -/
def setBit (w : Word) (i : Nat) (v : Bool) : Word := setBits w i i v.toNat

/-- A word whose bits [a:b] hold v and whose others are zero. -/
def fld (a b v : Nat) : Word := setBits 0 a b v

/-- The number v, of n bits, read as two's complement. -/
def sgn (n v : Nat) : Int := if 2 ^ (n - 1) ≤ v then (v : Int) - 2 ^ n else v

/-- The word of an integer modulo 2^36. -/
def wdInt (i : Int) : Word := BitVec.ofInt 36 i

/-- A word as a signed integer (02 R28). -/
def sWord (w : Word) : Int := w.toInt

/-- The word address of a pointer (02 R18). -/
def ptrWord (p : Word) : Nat := bits p 0 31

/-- The index nibble of a pointer (02 R18). -/
def ptrNib (p : Word) : Nat := bits p 32 35

/-- A pointer from a word address, taken modulo 2^32, and a nibble. -/
def mkPtr (w nib : Nat) : Word := wd (w % 2 ^ 32 * 16 + nib % 16)

/-- Pointer p advanced by n pieces, k to the word (02 R19, R20). -/
def advance (p : Word) (n k : Nat) : Word :=
  let t := ptrNib p + n
  mkPtr (ptrWord p + t / k) (t % k)

/-- Pointer p moved by an integer number of pieces, k to the word, wrapping. -/
def advanceI (p : Word) (n : Int) (k : Nat) : Word :=
  let t : Int := (ptrWord p : Int) * k + ptrNib p + n
  let u := (t % ((2 : Int) ^ 32 * k)).toNat
  mkPtr (u / k) (u % k)

/-- The parcel after n parcels. -/
def parcelAfter (p : Word) (n : Nat) : Word := advance p n 2

/-- Character i of a word (02 Table 02-1). -/
def charOf (w : Word) (i : Nat) : Nat := bits w (9 * i) (9 * i + 8)

/-- The word with character i replaced. -/
def setChar (w : Word) (i v : Nat) : Word := setBits w (9 * i) (9 * i + 8) v

/-- Decimal digit i of a word. -/
def digitOf (w : Word) (i : Nat) : Nat := bits w (4 * i) (4 * i + 3)

/-- The word with digit i replaced. -/
def setDigit (w : Word) (i v : Nat) : Word := setBits w (4 * i) (4 * i + 3) v

/-- Half h of a word, zero-extended. -/
def halfOf (w : Word) (h : Nat) : Nat := bits w (18 * h) (18 * h + 17)

/-- The word with half h replaced. -/
def setHalf (w : Word) (h v : Nat) : Word := setBits w (18 * h) (18 * h + 17) v

/-- A word with the characters of `new` where the mask bit (leftmost first) is set, `old` elsewhere
(12 R288). -/
def mergeChars (mask : BitVec 4) (new old : Word) : Word :=
  (List.range 4).foldl
    (fun w i => if mask.getMsbD i then setChar w i (charOf new i) else w) old

/-- The mask of a whole word. -/
def fullMask : BitVec 4 := 0b1111

/-- The mask of character i of a word. -/
def charMask (i : Nat) : BitVec 4 := BitVec.ofNat 4 (2 ^ (3 - i))

/-- The field of an operand record as a number. -/
def nat {n : Nat} (b : BitVec n) : Nat := b.toNat

/-- A number put into a list in ascending order without repeats. -/
def insertNat (n : Nat) : List Nat → List Nat
  | [] => [n]
  | m :: t => if n < m then n :: m :: t else if n = m then m :: t else m :: insertNat n t

/-- An element put before the first that it does not follow. -/
def insertBy {α : Type} (le : α → α → Bool) (x : α) : List α → List α
  | [] => [x]
  | y :: t => if le x y then x :: y :: t else y :: insertBy le x t

/-- A list in order; equals keep theirs. -/
def sortBy {α : Type} (le : α → α → Bool) (l : List α) : List α := l.foldr (insertBy le) []

end Sys2Proof.Machine
end

