-- ==== Sys2Proof/Machine/Crypto.lean ====
section
/-! DEFINITION. The named algorithms of the Kiln and of the image checks (14 R342, R343, R351, Table 14-5;
16 R397), on lists of octets, as the standards the manual names give them (log entry 8). -/

namespace Sys2Proof.Machine

/-- Octets as numbers, most significant first. -/
def beNat (l : List Nat) : Nat := l.foldl (fun r b => r * 256 + b) 0

/-- The number v as n octets, most significant first. -/
def beOctets (n v : Nat) : List Nat := (List.range n).map fun i => v / 256 ^ (n - 1 - i) % 256

/-- Octets as a number, least significant first. -/
def leNat (l : List Nat) : Nat := l.foldr (fun b r => r * 256 + b) 0

/-- The number v as n octets, least significant first. -/
def leOctets (n v : Nat) : List Nat := (List.range n).map fun i => v / 256 ^ i % 256

/-- Octet-wise exclusive or. -/
def xorOctets (a b : List Nat) : List Nat := List.zipWith Nat.xor a b

/-- A list cut into pieces of n. -/
def chunks {α : Type} (n : Nat) (l : List α) : List (List α) :=
  (List.range ((l.length + n - 1) / n)).map fun i => (l.drop (i * n)).take n

/-- The substitution box of FIPS 197. -/
def sboxTab : List Nat :=
  [0x63, 0x7c, 0x77, 0x7b, 0xf2, 0x6b, 0x6f, 0xc5, 0x30, 0x01, 0x67, 0x2b, 0xfe, 0xd7, 0xab, 0x76] ++
  [0xca, 0x82, 0xc9, 0x7d, 0xfa, 0x59, 0x47, 0xf0, 0xad, 0xd4, 0xa2, 0xaf, 0x9c, 0xa4, 0x72, 0xc0] ++
  [0xb7, 0xfd, 0x93, 0x26, 0x36, 0x3f, 0xf7, 0xcc, 0x34, 0xa5, 0xe5, 0xf1, 0x71, 0xd8, 0x31, 0x15] ++
  [0x04, 0xc7, 0x23, 0xc3, 0x18, 0x96, 0x05, 0x9a, 0x07, 0x12, 0x80, 0xe2, 0xeb, 0x27, 0xb2, 0x75] ++
  [0x09, 0x83, 0x2c, 0x1a, 0x1b, 0x6e, 0x5a, 0xa0, 0x52, 0x3b, 0xd6, 0xb3, 0x29, 0xe3, 0x2f, 0x84] ++
  [0x53, 0xd1, 0x00, 0xed, 0x20, 0xfc, 0xb1, 0x5b, 0x6a, 0xcb, 0xbe, 0x39, 0x4a, 0x4c, 0x58, 0xcf] ++
  [0xd0, 0xef, 0xaa, 0xfb, 0x43, 0x4d, 0x33, 0x85, 0x45, 0xf9, 0x02, 0x7f, 0x50, 0x3c, 0x9f, 0xa8] ++
  [0x51, 0xa3, 0x40, 0x8f, 0x92, 0x9d, 0x38, 0xf5, 0xbc, 0xb6, 0xda, 0x21, 0x10, 0xff, 0xf3, 0xd2] ++
  [0xcd, 0x0c, 0x13, 0xec, 0x5f, 0x97, 0x44, 0x17, 0xc4, 0xa7, 0x7e, 0x3d, 0x64, 0x5d, 0x19, 0x73] ++
  [0x60, 0x81, 0x4f, 0xdc, 0x22, 0x2a, 0x90, 0x88, 0x46, 0xee, 0xb8, 0x14, 0xde, 0x5e, 0x0b, 0xdb] ++
  [0xe0, 0x32, 0x3a, 0x0a, 0x49, 0x06, 0x24, 0x5c, 0xc2, 0xd3, 0xac, 0x62, 0x91, 0x95, 0xe4, 0x79] ++
  [0xe7, 0xc8, 0x37, 0x6d, 0x8d, 0xd5, 0x4e, 0xa9, 0x6c, 0x56, 0xf4, 0xea, 0x65, 0x7a, 0xae, 0x08] ++
  [0xba, 0x78, 0x25, 0x2e, 0x1c, 0xa6, 0xb4, 0xc6, 0xe8, 0xdd, 0x74, 0x1f, 0x4b, 0xbd, 0x8b, 0x8a] ++
  [0x70, 0x3e, 0xb5, 0x66, 0x48, 0x03, 0xf6, 0x0e, 0x61, 0x35, 0x57, 0xb9, 0x86, 0xc1, 0x1d, 0x9e] ++
  [0xe1, 0xf8, 0x98, 0x11, 0x69, 0xd9, 0x8e, 0x94, 0x9b, 0x1e, 0x87, 0xe9, 0xce, 0x55, 0x28, 0xdf] ++
  [0x8c, 0xa1, 0x89, 0x0d, 0xbf, 0xe6, 0x42, 0x68, 0x41, 0x99, 0x2d, 0x0f, 0xb0, 0x54, 0xbb, 0x16]

/-- The inverse substitution box of FIPS 197. -/
def invSboxTab : List Nat :=
  [0x52, 0x09, 0x6a, 0xd5, 0x30, 0x36, 0xa5, 0x38, 0xbf, 0x40, 0xa3, 0x9e, 0x81, 0xf3, 0xd7, 0xfb] ++
  [0x7c, 0xe3, 0x39, 0x82, 0x9b, 0x2f, 0xff, 0x87, 0x34, 0x8e, 0x43, 0x44, 0xc4, 0xde, 0xe9, 0xcb] ++
  [0x54, 0x7b, 0x94, 0x32, 0xa6, 0xc2, 0x23, 0x3d, 0xee, 0x4c, 0x95, 0x0b, 0x42, 0xfa, 0xc3, 0x4e] ++
  [0x08, 0x2e, 0xa1, 0x66, 0x28, 0xd9, 0x24, 0xb2, 0x76, 0x5b, 0xa2, 0x49, 0x6d, 0x8b, 0xd1, 0x25] ++
  [0x72, 0xf8, 0xf6, 0x64, 0x86, 0x68, 0x98, 0x16, 0xd4, 0xa4, 0x5c, 0xcc, 0x5d, 0x65, 0xb6, 0x92] ++
  [0x6c, 0x70, 0x48, 0x50, 0xfd, 0xed, 0xb9, 0xda, 0x5e, 0x15, 0x46, 0x57, 0xa7, 0x8d, 0x9d, 0x84] ++
  [0x90, 0xd8, 0xab, 0x00, 0x8c, 0xbc, 0xd3, 0x0a, 0xf7, 0xe4, 0x58, 0x05, 0xb8, 0xb3, 0x45, 0x06] ++
  [0xd0, 0x2c, 0x1e, 0x8f, 0xca, 0x3f, 0x0f, 0x02, 0xc1, 0xaf, 0xbd, 0x03, 0x01, 0x13, 0x8a, 0x6b] ++
  [0x3a, 0x91, 0x11, 0x41, 0x4f, 0x67, 0xdc, 0xea, 0x97, 0xf2, 0xcf, 0xce, 0xf0, 0xb4, 0xe6, 0x73] ++
  [0x96, 0xac, 0x74, 0x22, 0xe7, 0xad, 0x35, 0x85, 0xe2, 0xf9, 0x37, 0xe8, 0x1c, 0x75, 0xdf, 0x6e] ++
  [0x47, 0xf1, 0x1a, 0x71, 0x1d, 0x29, 0xc5, 0x89, 0x6f, 0xb7, 0x62, 0x0e, 0xaa, 0x18, 0xbe, 0x1b] ++
  [0xfc, 0x56, 0x3e, 0x4b, 0xc6, 0xd2, 0x79, 0x20, 0x9a, 0xdb, 0xc0, 0xfe, 0x78, 0xcd, 0x5a, 0xf4] ++
  [0x1f, 0xdd, 0xa8, 0x33, 0x88, 0x07, 0xc7, 0x31, 0xb1, 0x12, 0x10, 0x59, 0x27, 0x80, 0xec, 0x5f] ++
  [0x60, 0x51, 0x7f, 0xa9, 0x19, 0xb5, 0x4a, 0x0d, 0x2d, 0xe5, 0x7a, 0x9f, 0x93, 0xc9, 0x9c, 0xef] ++
  [0xa0, 0xe0, 0x3b, 0x4d, 0xae, 0x2a, 0xf5, 0xb0, 0xc8, 0xeb, 0xbb, 0x3c, 0x83, 0x53, 0x99, 0x61] ++
  [0x17, 0x2b, 0x04, 0x7e, 0xba, 0x77, 0xd6, 0x26, 0xe1, 0x69, 0x14, 0x63, 0x55, 0x21, 0x0c, 0x7d]

/-- Round constants of SHA-256 (FIPS 180-4). -/
def k256Tab : List (BitVec 32) :=
  [0x428a2f98, 0x71374491, 0xb5c0fbcf, 0xe9b5dba5, 0x3956c25b, 0x59f111f1, 0x923f82a4, 0xab1c5ed5] ++
  [0xd807aa98, 0x12835b01, 0x243185be, 0x550c7dc3, 0x72be5d74, 0x80deb1fe, 0x9bdc06a7, 0xc19bf174] ++
  [0xe49b69c1, 0xefbe4786, 0x0fc19dc6, 0x240ca1cc, 0x2de92c6f, 0x4a7484aa, 0x5cb0a9dc, 0x76f988da] ++
  [0x983e5152, 0xa831c66d, 0xb00327c8, 0xbf597fc7, 0xc6e00bf3, 0xd5a79147, 0x06ca6351, 0x14292967] ++
  [0x27b70a85, 0x2e1b2138, 0x4d2c6dfc, 0x53380d13, 0x650a7354, 0x766a0abb, 0x81c2c92e, 0x92722c85] ++
  [0xa2bfe8a1, 0xa81a664b, 0xc24b8b70, 0xc76c51a3, 0xd192e819, 0xd6990624, 0xf40e3585, 0x106aa070] ++
  [0x19a4c116, 0x1e376c08, 0x2748774c, 0x34b0bcb5, 0x391c0cb3, 0x4ed8aa4a, 0x5b9cca4f, 0x682e6ff3] ++
  [0x748f82ee, 0x78a5636f, 0x84c87814, 0x8cc70208, 0x90befffa, 0xa4506ceb, 0xbef9a3f7, 0xc67178f2]

/-- Round constants of SHA-384 and SHA-512 (FIPS 180-4). -/
def k512Tab : List (BitVec 64) :=
  [0x428a2f98d728ae22, 0x7137449123ef65cd, 0xb5c0fbcfec4d3b2f, 0xe9b5dba58189dbbc] ++
  [0x3956c25bf348b538, 0x59f111f1b605d019, 0x923f82a4af194f9b, 0xab1c5ed5da6d8118] ++
  [0xd807aa98a3030242, 0x12835b0145706fbe, 0x243185be4ee4b28c, 0x550c7dc3d5ffb4e2] ++
  [0x72be5d74f27b896f, 0x80deb1fe3b1696b1, 0x9bdc06a725c71235, 0xc19bf174cf692694] ++
  [0xe49b69c19ef14ad2, 0xefbe4786384f25e3, 0x0fc19dc68b8cd5b5, 0x240ca1cc77ac9c65] ++
  [0x2de92c6f592b0275, 0x4a7484aa6ea6e483, 0x5cb0a9dcbd41fbd4, 0x76f988da831153b5] ++
  [0x983e5152ee66dfab, 0xa831c66d2db43210, 0xb00327c898fb213f, 0xbf597fc7beef0ee4] ++
  [0xc6e00bf33da88fc2, 0xd5a79147930aa725, 0x06ca6351e003826f, 0x142929670a0e6e70] ++
  [0x27b70a8546d22ffc, 0x2e1b21385c26c926, 0x4d2c6dfc5ac42aed, 0x53380d139d95b3df] ++
  [0x650a73548baf63de, 0x766a0abb3c77b2a8, 0x81c2c92e47edaee6, 0x92722c851482353b] ++
  [0xa2bfe8a14cf10364, 0xa81a664bbc423001, 0xc24b8b70d0f89791, 0xc76c51a30654be30] ++
  [0xd192e819d6ef5218, 0xd69906245565a910, 0xf40e35855771202a, 0x106aa07032bbd1b8] ++
  [0x19a4c116b8d2d0c8, 0x1e376c085141ab53, 0x2748774cdf8eeb99, 0x34b0bcb5e19b48a8] ++
  [0x391c0cb3c5c95a63, 0x4ed8aa4ae3418acb, 0x5b9cca4f7763e373, 0x682e6ff3d6b2b8a3] ++
  [0x748f82ee5defb2fc, 0x78a5636f43172f60, 0x84c87814a1f0ab72, 0x8cc702081a6439ec] ++
  [0x90befffa23631e28, 0xa4506cebde82bde9, 0xbef9a3f7b2c67915, 0xc67178f2e372532b] ++
  [0xca273eceea26619c, 0xd186b8c721c0c207, 0xeada7dd6cde0eb1e, 0xf57d4f7fee6ed178] ++
  [0x06f067aa72176fba, 0x0a637dc5a2c898a6, 0x113f9804bef90dae, 0x1b710b35131c471b] ++
  [0x28db77f523047d84, 0x32caab7b40c72493, 0x3c9ebe0a15c9bebc, 0x431d67c49c100d4c] ++
  [0x4cc5d4becb3e42b6, 0x597f299cfc657e2a, 0x5fcb6fab3ad6faec, 0x6c44198c4a475817]

/-- Initial value of SHA-256. -/
def iv256 : List (BitVec 32) :=
  [0x6a09e667, 0xbb67ae85, 0x3c6ef372, 0xa54ff53a, 0x510e527f, 0x9b05688c, 0x1f83d9ab, 0x5be0cd19]

/-- Initial value of SHA-384. -/
def iv384 : List (BitVec 64) :=
  [0xcbbb9d5dc1059ed8, 0x629a292a367cd507, 0x9159015a3070dd17, 0x152fecd8f70e5939] ++
  [0x67332667ffc00b31, 0x8eb44a8768581511, 0xdb0c2e0d64f98fa7, 0x47b5481dbefa4fa4]

/-- Initial value of SHA-512. -/
def iv512 : List (BitVec 64) :=
  [0x6a09e667f3bcc908, 0xbb67ae8584caa73b, 0x3c6ef372fe94f82b, 0xa54ff53a5f1d36f1] ++
  [0x510e527fade682d1, 0x9b05688c2b3e6c1f, 0x1f83d9abfb41bd6b, 0x5be0cd19137e2179]

/-- Round constants of Keccak (FIPS 202). -/
def keccakRc : List (BitVec 64) :=
  [0x0000000000000001, 0x0000000000008082, 0x800000000000808a, 0x8000000080008000] ++
  [0x000000000000808b, 0x0000000080000001, 0x8000000080008081, 0x8000000000008009] ++
  [0x000000000000008a, 0x0000000000000088, 0x0000000080008009, 0x000000008000000a] ++
  [0x000000008000808b, 0x800000000000008b, 0x8000000000008089, 0x8000000000008003] ++
  [0x8000000000008002, 0x8000000000000080, 0x000000000000800a, 0x800000008000000a] ++
  [0x8000000080008081, 0x8000000000008080, 0x0000000080000001, 0x8000000080008008]

/-- Rotation offsets of Keccak, lane x + 5y. -/
def keccakRot : List Nat :=
  [0, 1, 62, 28, 27, 36, 44, 6, 55, 20, 3, 10, 43, 25, 39, 41, 45, 15, 21, 8, 18, 2, 61, 56, 14]


/-- Doubling in the field of AES. -/
def xtime (a : Nat) : Nat := if a * 2 ≥ 256 then Nat.xor (a * 2) 0x11b else a * 2

/-- Multiplication in the field of AES. -/
def gmul (a b : Nat) : Nat :=
  ((List.range 8).foldl
    (fun (r : Nat × Nat) i => (if b.testBit i then Nat.xor r.1 r.2 else r.1, xtime r.2)) (0, a)).1

/-- The words of the AES key schedule, each 4 octets, for a key of nk words. -/
def aesSchedule (key : List Nat) : List (List Nat) :=
  let nk := key.length / 4
  let start := chunks 4 key
  ((List.range (4 * (nk + 7) - nk)).foldl
    (fun (st : List (List Nat) × Nat) j =>
      let i := j + nk
      let prev := st.1.getLastD []
      let base := st.1.getD (i - nk) []
      let t :=
        if i % nk = 0 then
          xorOctets ((prev.drop 1 ++ prev.take 1).map (fun b => sboxTab.getD b 0)) [st.2, 0, 0, 0]
        else if nk > 6 ∧ i % nk = 4 then prev.map (fun b => sboxTab.getD b 0)
        else prev
      (st.1 ++ [xorOctets base t], if i % nk = 0 then xtime st.2 else st.2))
    (start, 1)).1

/-- Round key r of a schedule. -/
def roundKey (ks : List (List Nat)) (r : Nat) : List Nat := ((ks.drop (4 * r)).take 4).flatten

/-- The rows of a block shifted (left for enciphering, right for deciphering). -/
def shiftRows (inv : Bool) (b : List Nat) : List Nat :=
  (List.range 16).map fun i =>
    let r := i % 4
    let c := i / 4
    b.getD (r + 4 * ((c + (if inv then 4 - r else r)) % 4)) 0

/-- The columns of a block mixed with the given first matrix row. -/
def mixColumns (row : List Nat) (b : List Nat) : List Nat :=
  (List.range 16).map fun i =>
    (List.range 4).foldl
      (fun x k => Nat.xor x (gmul (b.getD (4 * (i / 4) + k) 0) (row.getD ((k + 4 - i % 4) % 4) 0))) 0

/-- AES encipherment of one block (FIPS 197). -/
def aesEnc (key block : List Nat) : List Nat :=
  let ks := aesSchedule key
  let nr := key.length / 4 + 6
  let mid := (List.range (nr - 1)).foldl
    (fun b r =>
      xorOctets (mixColumns [2, 3, 1, 1] (shiftRows false (b.map (fun x => sboxTab.getD x 0))))
        (roundKey ks (r + 1)))
    (xorOctets block (roundKey ks 0))
  xorOctets (shiftRows false (mid.map (fun x => sboxTab.getD x 0))) (roundKey ks nr)

/-- AES decipherment of one block (FIPS 197). -/
def aesDec (key block : List Nat) : List Nat :=
  let ks := aesSchedule key
  let nr := key.length / 4 + 6
  let mid := (List.range (nr - 1)).foldl
    (fun b r =>
      mixColumns [14, 11, 13, 9]
        (xorOctets ((shiftRows true b).map (fun x => invSboxTab.getD x 0)) (roundKey ks (nr - 1 - r))))
    (xorOctets block (roundKey ks nr))
  xorOctets ((shiftRows true mid).map (fun x => invSboxTab.getD x 0)) (roundKey ks 0)

/-- The tweak of XTS multiplied by the primitive element j times (IEEE 1619). -/
def xtsTweak (t : List Nat) (j : Nat) : List Nat :=
  leOctets 16 ((List.range j).foldl
    (fun v _ => if v * 2 ≥ 2 ^ 128 then Nat.xor (v * 2 % 2 ^ 128) 0x87 else v * 2) (leNat t))

/-- One XTS block under tweak t. -/
def xtsBlock (dec : Bool) (k1 t b : List Nat) : List Nat :=
  let x := xorOctets b t
  xorOctets (if dec then aesDec k1 x else aesEnc k1 x) t

/-- AES-XTS encipherment of a data unit of at least 16 octets, with ciphertext stealing (14 R342). -/
def xtsEnc (k1 k2 : List Nat) (unit : Nat) (p : List Nat) : List Nat :=
  let t := aesEnc k2 (leOctets 16 unit)
  let m := p.length / 16
  let rest := p.drop (16 * m)
  let full := (List.range m).map fun j => xtsBlock false k1 (xtsTweak t j) ((p.drop (16 * j)).take 16)
  if rest.isEmpty then full.flatten
  else
    let c := full.getLastD []
    let last := xtsBlock false k1 (xtsTweak t m) (rest ++ c.drop rest.length)
    (full.dropLast).flatten ++ last ++ c.take rest.length

/-- AES-XTS decipherment of a data unit of at least 16 octets, with ciphertext stealing (14 R342). -/
def xtsDec (k1 k2 : List Nat) (unit : Nat) (c : List Nat) : List Nat :=
  let t := aesEnc k2 (leOctets 16 unit)
  let m := c.length / 16
  let rest := c.drop (16 * m)
  if rest.isEmpty then
    ((List.range m).map fun j => xtsBlock true k1 (xtsTweak t j) ((c.drop (16 * j)).take 16)).flatten
  else
    let front := (List.range (m - 1)).map fun j =>
      xtsBlock true k1 (xtsTweak t j) ((c.drop (16 * j)).take 16)
    let pp := xtsBlock true k1 (xtsTweak t m) ((c.drop (16 * (m - 1))).take 16)
    let before := xtsBlock true k1 (xtsTweak t (m - 1)) (rest ++ pp.drop rest.length)
    front.flatten ++ before ++ pp.take rest.length

/-- Doubling of a block in CMAC. -/
def cmacDouble (b : List Nat) : List Nat :=
  let v := beNat b * 2
  beOctets 16 (if v ≥ 2 ^ 128 then Nat.xor (v % 2 ^ 128) 0x87 else v)

/-- AES-CMAC (SP 800-38B). -/
def cmac (key msg : List Nat) : List Nat :=
  let k1 := cmacDouble (aesEnc key (List.replicate 16 0))
  let k2 := cmacDouble k1
  let n := if msg.length = 0 then 1 else (msg.length + 15) / 16
  let last := msg.drop (16 * (n - 1))
  let lastB :=
    if last.length = 16 then xorOctets last k1
    else xorOctets (last ++ [0x80] ++ List.replicate (15 - last.length) 0) k2
  let x := (chunks 16 (msg.take (16 * (n - 1)))).foldl (fun x b => aesEnc key (xorOctets x b))
    (List.replicate 16 0)
  aesEnc key (xorOctets x lastB)

/-- Multiplication in the field of GCM (SP 800-38D), blocks as 128-bit numbers, leftmost bit first. -/
def ghashMul (x y : Nat) : Nat :=
  ((List.range 128).foldl
    (fun (r : Nat × Nat) i =>
      (if x.testBit (127 - i) then Nat.xor r.1 r.2 else r.1,
        if r.2.testBit 0 then Nat.xor (r.2 / 2) (0xE1 * 2 ^ 120) else r.2 / 2)) (0, y)).1

/-- Octets padded with zeros to whole blocks. -/
def padBlock (l : List Nat) : List Nat := l ++ List.replicate ((16 - l.length % 16) % 16) 0

/-- GHASH over associated data and ciphertext. -/
def ghash (h : Nat) (aad c : List Nat) : Nat :=
  (chunks 16 (padBlock aad ++ padBlock c ++ beOctets 8 (8 * aad.length) ++ beOctets 8 (8 * c.length))).foldl
    (fun y b => ghashMul (Nat.xor y (beNat b)) h) 0

/-- The key stream of GCM from counter 2, exclusive-ored onto the data, for a 12-octet IV. -/
def gcmStream (key iv data : List Nat) : List Nat :=
  ((chunks 16 data).mapIdx fun i b => xorOctets b (aesEnc key (iv ++ beOctets 4 (i + 2)))).flatten

/-- The GCM tag of a ciphertext. -/
def gcmTag (key iv aad c : List Nat) : List Nat :=
  xorOctets (aesEnc key (iv ++ [0, 0, 0, 1])) (beOctets 16 (ghash (beNat (aesEnc key (List.replicate 16 0))) aad c))

/-- AES key wrap (SP 800-38F, 14 R351). -/
def kwWrap (kek p : List Nat) : List Nat :=
  let n := p.length / 8
  let r := (List.range (6 * n)).foldl
    (fun (st : List Nat × List (List Nat)) t =>
      let i := t % n
      let b := aesEnc kek (st.1 ++ st.2.getD i [])
      (xorOctets (b.take 8) (beOctets 8 (t + 1)), st.2.set i (b.drop 8)))
    (List.replicate 8 0xA6, chunks 8 p)
  r.1 ++ r.2.flatten

/-- AES key unwrap: the key, or none where the integrity check fails. -/
def kwUnwrap (kek c : List Nat) : Option (List Nat) :=
  let n := c.length / 8 - 1
  let r := (List.range (6 * n)).foldl
    (fun (st : List Nat × List (List Nat)) j =>
      let t := 6 * n - 1 - j
      let i := t % n
      let b := aesDec kek (xorOctets st.1 (beOctets 8 (t + 1)) ++ st.2.getD i [])
      (b.take 8, st.2.set i (b.drop 8)))
    (c.take 8, chunks 8 (c.drop 8))
  if r.1 = List.replicate 8 0xA6 then some r.2.flatten else none

/-- A message padded for a hash of blocks of bs octets with a length field of ls octets. -/
def shaPad (bs ls : Nat) (m : List Nat) : List Nat :=
  m ++ [0x80] ++ List.replicate ((2 * bs - 1 - ls - m.length % bs) % bs) 0 ++ beOctets ls (8 * m.length)

/-- The compression loop of SHA-2 at width w: rotations of the big and small sigmas as given. -/
def sha2Block {w : Nat} (ks : List (BitVec w)) (big0 big1 : Nat × Nat × Nat) (sm0 sm1 : Nat × Nat × Nat)
    (h : List (BitVec w)) (block : List Nat) : List (BitVec w) :=
  let s (r : Nat × Nat × Nat) (x : BitVec w) :=
    x.rotateRight r.1 ^^^ x.rotateRight r.2.1 ^^^ x.rotateRight r.2.2
  let q (r : Nat × Nat × Nat) (x : BitVec w) := x.rotateRight r.1 ^^^ x.rotateRight r.2.1 ^^^ (x >>> r.2.2)
  let w0 := (chunks (w / 8) block).map fun b => BitVec.ofNat w (beNat b)
  let ws := (List.range (ks.length - 16)).foldl
    (fun (l : List (BitVec w)) i =>
      l ++ [q sm1 (l.getD (i + 14) 0) + l.getD (i + 9) 0 + q sm0 (l.getD (i + 1) 0) + l.getD i 0]) w0
  let r := (List.zip ks ws).foldl
    (fun (v : List (BitVec w)) kw =>
      match v with
      | [a, b, c, d, e, f, g, hh] =>
        let t1 := hh + s big1 e + ((e &&& f) ^^^ (~~~e &&& g)) + kw.1 + kw.2
        let t2 := s big0 a + ((a &&& b) ^^^ (a &&& c) ^^^ (b &&& c))
        [t1 + t2, a, b, c, d + t1, e, f, g]
      | _ => v) h
  List.zipWith (· + ·) h r

/-- SHA-256 (FIPS 180-4). -/
def sha256 (m : List Nat) : List Nat :=
  ((chunks 64 (shaPad 64 8 m)).foldl
    (sha2Block k256Tab (2, 13, 22) (6, 11, 25) (7, 18, 3) (17, 19, 10)) iv256).flatMap
    fun x => beOctets 4 x.toNat

/-- SHA-384 and SHA-512 before truncation (FIPS 180-4). -/
def sha512From (iv : List (BitVec 64)) (m : List Nat) : List Nat :=
  ((chunks 128 (shaPad 128 16 m)).foldl
    (sha2Block k512Tab (28, 34, 39) (14, 18, 41) (1, 8, 7) (19, 61, 6)) iv).flatMap
    fun x => beOctets 8 x.toNat

/-- SHA-384. -/
def sha384 (m : List Nat) : List Nat := (sha512From iv384 m).take 48

/-- SHA-512. -/
def sha512 (m : List Nat) : List Nat := sha512From iv512 m

/-- One round of Keccak-f[1600] on 25 lanes. -/
def keccakRound (a : List (BitVec 64)) (rc : BitVec 64) : List (BitVec 64) :=
  let l (v : List (BitVec 64)) (x y : Nat) := v.getD (x % 5 + 5 * (y % 5)) 0
  let c := (List.range 5).map fun x => l a x 0 ^^^ l a x 1 ^^^ l a x 2 ^^^ l a x 3 ^^^ l a x 4
  let d := (List.range 5).map fun x => c.getD ((x + 4) % 5) 0 ^^^ (c.getD ((x + 1) % 5) 0).rotateLeft 1
  let t := (List.range 25).map fun i => a.getD i 0 ^^^ d.getD (i % 5) 0
  let b := (List.range 25).map fun i =>
    let y := i % 5
    let x := (3 * (i / 5) + y) % 5
    (l t x y).rotateLeft (keccakRot.getD (x + 5 * y) 0)
  (List.range 25).map fun i =>
    let x := i % 5
    let y := i / 5
    (l b x y ^^^ (~~~(l b (x + 1) y) &&& l b (x + 2) y)) ^^^ (if i = 0 then rc else 0)

/-- SHA3 with a digest of n octets (FIPS 202). -/
def sha3 (n : Nat) (m : List Nat) : List Nat :=
  let rate := 200 - 2 * n
  let padLen := rate - m.length % rate
  let pad := if padLen = 1 then [0x86] else [0x06] ++ List.replicate (padLen - 2) 0 ++ [0x80]
  let st := (chunks rate (m ++ pad)).foldl
    (fun (a : List (BitVec 64)) blk =>
      let x := (chunks 8 blk).map fun b => BitVec.ofNat 64 (leNat b)
      keccakRc.foldl keccakRound ((List.range 25).map fun i => a.getD i 0 ^^^ x.getD i 0))
    (List.replicate 25 0)
  (st.flatMap fun x => leOctets 8 x.toNat).take n

/-- HMAC over a hash of blocks of bs octets (FIPS 198-1). -/
def hmac (hash : List Nat → List Nat) (bs : Nat) (key m : List Nat) : List Nat :=
  let k0 := if key.length > bs then hash key else key
  let k := k0 ++ List.replicate (bs - k0.length) 0
  hash (k.map (Nat.xor 0x5C) ++ hash (k.map (Nat.xor 0x36) ++ m))

/-- A reflected 32-bit CRC, initial value and final exclusive-or all ones. -/
def crcRefl (poly : Nat) (m : List Nat) : Nat :=
  Nat.xor (m.foldl
    (fun c b => (List.range 8).foldl (fun x _ => if x % 2 = 1 then Nat.xor (x / 2) poly else x / 2)
      (Nat.xor c b)) 0xFFFFFFFF) 0xFFFFFFFF

/-- b to the power e modulo m. -/
def powMod (m b e : Nat) : Nat :=
  (List.range (e.log2 + 1)).reverse.foldl
    (fun r i => if e.testBit i then r * r % m * b % m else r * r % m) (1 % m)

/-- The inverse modulo a prime. -/
def invMod (p a : Nat) : Nat := powMod p (a % p) (p - 2)

/-- A short Weierstrass curve with a = -3 (FIPS 186-5). -/
structure Curve where
  p : Nat
  b : Nat
  gx : Nat
  gy : Nat
  n : Nat
  octets : Nat
  deriving DecidableEq, Repr

/-- P-256. -/
def p256 : Curve :=
  { p := 2 ^ 256 - 2 ^ 224 + 2 ^ 192 + 2 ^ 96 - 1,
    b := 0x5ac635d8aa3a93e7b3ebbd55769886bc651d06b0cc53b0f63bce3c3e27d2604b,
    gx := 0x6b17d1f2e12c4247f8bce6e563a440f277037d812deb33a0f4a13945d898c296,
    gy := 0x4fe342e2fe1a7f9b8ee7eb4a7c0f9e162bce33576b315ececbb6406837bf51f5,
    n := 0xffffffff00000000ffffffffffffffffbce6faada7179e84f3b9cac2fc632551, octets := 32 }

/-- P-384. -/
def p384 : Curve :=
  { p := 2 ^ 384 - 2 ^ 128 - 2 ^ 96 + 2 ^ 32 - 1,
    b := 0xb3312fa7e23ee7e4988e056be3f82d19181d9c6efe8141120314088f5013875ac656398d8a2ed19d2a85c8edd3ec2aef,
    gx := 0xaa87ca22be8b05378eb1c71ef320ad746e1d3b628ba79b9859f741e082542a385502f25dbf55296c3a545e3872760ab7,
    gy := 0x3617de4a96262c6f5d9e98bf9292dc29f8f41dbd289a147ce9da3113b5f0b8c00a60b1ce1d7e819d7a431d7c90ea0e5f,
    n := 0xffffffffffffffffffffffffffffffffffffffffffffffffc7634d81f4372ddf581a0db248b0a77aecec196accc52973,
    octets := 48 }

/-- Addition on a Weierstrass curve; none is the point at infinity. -/
def ecAdd (c : Curve) : Option (Nat × Nat) → Option (Nat × Nat) → Option (Nat × Nat)
  | none, q => q
  | p, none => p
  | some (x1, y1), some (x2, y2) =>
    if x1 = x2 ∧ (y1 + y2) % c.p = 0 then none
    else
      let l :=
        if x1 = x2 then (3 * x1 * x1 + c.p - 3) * invMod c.p (2 * y1) % c.p
        else (y2 + c.p - y1) * invMod c.p (x2 + c.p - x1) % c.p
      let x3 := (l * l + 2 * c.p - x1 - x2) % c.p
      some (x3, (l * (x1 + c.p - x3) + c.p - y1) % c.p)

/-- A multiple of a point. -/
def ecMul (c : Curve) (k : Nat) (p : Option (Nat × Nat)) : Option (Nat × Nat) :=
  (List.range (k.log2 + 1)).reverse.foldl
    (fun r i => let d := ecAdd c r r; if k.testBit i then ecAdd c d p else d) none

/-- A point lies on the curve. -/
def onCurve (c : Curve) (x y : Nat) : Bool :=
  decide (x < c.p) && decide (y < c.p) && decide (y * y % c.p = (x * x * x + (c.p - 3) * x + c.b) % c.p)

/-- The ECDSA signature of a digest number z under nonce k; none where the nonce must be drawn again. -/
def ecdsaSign (c : Curve) (d z k : Nat) : Option (Nat × Nat) :=
  match ecMul c k (some (c.gx, c.gy)) with
  | none => none
  | some (x, _) =>
    let r := x % c.n
    let s := invMod c.n k * ((z + r * d) % c.n) % c.n
    if k % c.n = 0 ∨ r = 0 ∨ s = 0 then none else some (r, s)

/-- ECDSA verification. -/
def ecdsaVerify (c : Curve) (qx qy z r s : Nat) : Bool :=
  if onCurve c qx qy ∧ 0 < r ∧ r < c.n ∧ 0 < s ∧ s < c.n then
    let w := invMod c.n s
    match ecAdd c (ecMul c (z * w % c.n) (some (c.gx, c.gy))) (ecMul c (r * w % c.n) (some (qx, qy))) with
    | none => false
    | some (x, _) => decide (x % c.n = r)
  else false

/-- The prime of Ed25519 (RFC 8032). -/
def edP : Nat := 2 ^ 255 - 19

/-- The order of the base point of Ed25519. -/
def edL : Nat := 2 ^ 252 + 27742317777372353535851937790883648493

/-- The curve constant d of Ed25519. -/
def edD : Nat := (edP - 121665) * invMod edP 121666 % edP

/-- Addition on edwards25519. -/
def edAdd (a b : Nat × Nat) : Nat × Nat :=
  let t := edD * (a.1 * b.1 % edP) % edP * (a.2 * b.2 % edP) % edP
  ((a.1 * b.2 + b.1 * a.2) % edP * invMod edP (1 + t) % edP,
    (a.2 * b.2 + a.1 * b.1) % edP * invMod edP (1 + edP - t) % edP)

/-- A multiple of a point of edwards25519. -/
def edMul (k : Nat) (p : Nat × Nat) : Nat × Nat :=
  (List.range (k.log2 + 1)).reverse.foldl
    (fun r i => let d := edAdd r r; if k.testBit i then edAdd d p else d) (0, 1)

/-- The x coordinate of a point from y and the sign bit. -/
def edX (y : Nat) (sign : Bool) : Option Nat :=
  let u := (y * y + edP - 1) % edP
  let v := (edD * (y * y % edP) + 1) % edP
  let w := u * invMod edP v % edP
  let x0 := powMod edP w ((edP + 3) / 8)
  let x1 := if x0 * x0 % edP = w then x0 else x0 * powMod edP 2 ((edP - 1) / 4) % edP
  if y < edP ∧ x1 * x1 % edP = w ∧ ¬(x1 = 0 ∧ sign = true) then
    some (if x1.testBit 0 = sign then x1 else (edP - x1) % edP)
  else none

/-- The base point of Ed25519. -/
def edB : Nat × Nat := let y := 4 * invMod edP 5 % edP; ((edX y false).getD 0, y)

/-- The encoding of a point. -/
def edEncode (a : Nat × Nat) : List Nat := leOctets 32 (a.2 + (a.1 % 2) * 2 ^ 255)

/-- A point from its encoding. -/
def edDecode (l : List Nat) : Option (Nat × Nat) :=
  let v := leNat l
  (edX (v % 2 ^ 255) (v.testBit 255)).map fun x => (x, v % 2 ^ 255)

/-- The secret scalar of an Ed25519 seed. -/
def edScalar (seed : List Nat) : Nat :=
  let h := leNat ((sha512 seed).take 32)
  h % 2 ^ 254 / 8 * 8 + 2 ^ 254

/-- The public key of an Ed25519 seed. -/
def edPublic (seed : List Nat) : List Nat := edEncode (edMul (edScalar seed) edB)

/-- The Ed25519 signature of a message. -/
def edSign (seed m : List Nat) : List Nat :=
  let a := edPublic seed
  let r := leNat (sha512 ((sha512 seed).drop 32 ++ m)) % edL
  let rr := edEncode (edMul r edB)
  let k := leNat (sha512 (rr ++ a ++ m)) % edL
  rr ++ leOctets 32 ((r + k * edScalar seed) % edL)

/-- Ed25519 verification. -/
def edVerify (pub sig m : List Nat) : Bool :=
  match edDecode pub, edDecode (sig.take 32) with
  | some a, some r =>
    let s := leNat (sig.drop 32)
    let k := leNat (sha512 (sig.take 32 ++ pub ++ m)) % edL
    decide (s < edL) && decide (edMul s edB = edAdd r (edMul k a))
  | _, _ => false

end Sys2Proof.Machine
end

