-- ==== Sys2Proof/Machine/MsgFlits.lean ====
section
/-! DEFINITION. Flits and the cluster messages they carry (15 R366-R368, R371; 19 R469; log entry 14). -/

namespace Sys2Proof

open Machine

/-- The number of a kind of message; the manual numbers the acknowledgement alone (15 R371, R373; log entry 14). -/
def MsgBody.kind : MsgBody → Nat
  | .ack _ => 0
  | .ticket _ _ _ => 1
  | .dirUpdate _ _ => 2
  | .directory _ _ _ _ => 3
  | .fence _ _ => 4
  | .frameLine _ _ _ => 5
  | .stage _ _ _ _ => 6
  | .stageEnd _ _ => 7
  | .notice _ => 8
  | .piece _ _ _ => 9
  | .pieceEnd _ _ => 10
  | .joined _ _ => 11
  | .cluster _ _ => 12
  | .moveNote _ _ _ _ _ => 13
  | .journal _ => 14

/-- Devices as CL_MEMBERS shows them (15 Table 15-8). -/
def devMask (ds : List Nat) : Word := ds.foldl (fun w d => w ||| fld (4 + d) (4 + d) 1) 0

/-- Bytes as a string of bits cut into words, the last filled with zeros. -/
def byteWords (bs : List Octet) : List Word :=
  let n := (bs.length * 8 + 35) / 36
  let v := bs.foldl (fun v b => v * 256 + b.toNat) 0 * 2 ^ (36 * n - 8 * bs.length)
  (List.range n).map fun i => wd (v / 2 ^ (36 * (n - 1 - i)))

/-- The content of a message, word by word (15 R371; log entry 14). -/
def MsgBody.words : MsgBody → List Word
  | .ack last => [fld 22 35 last.toNat]
  | .ticket q t att => [t.key, t.tflags, t.ptrA, t.ptrB] ++ att ++ [fld 22 35 q.toNat]
  | .dirUpdate b e => [wd b.toNat, e]
  | .directory first v x es =>
    [fld 0 0 first.toNat ||| fld 1 1 x.toNat ||| fld 20 35 es.length, v] ++ es.flatMap fun e => [wd e.1, e.2]
  | .fence d q => [fld 0 4 d.toNat ||| fld 5 18 q.toNat]
  | .frameLine f line ws =>
    [wd f.toNat, wd line] ++ ws.map (·.1) ++ [(ws.zipIdx.filter fun e => e.1.2).foldl (fun w e => w ||| fld e.2 e.2 1) 0]
  | .stage n src dst ds => [wd n, src, dst, devMask ds]
  | .stageEnd n code => [wd n, wd code]
  | .notice h => [wd h.toNat]
  | .piece n off bs => [wd n, wd off] ++ byteWords bs
  | .pieceEnd n code => [wd n, wd code]
  | .joined d v => [wd d.toNat, v]
  | .cluster x vs => [fld 0 0 x.toNat ||| fld 20 35 vs.length] ++ vs.flatMap fun e => [wd e.1, e.2]
  | .moveNote n bad src dst ds => [fld 0 0 bad.toNat ||| fld 20 35 n, src, dst, devMask ds]
  | .journal p => [wd p.records.length, p.archive, p.append] ++ p.records.flatMap fun r => [r.1, r.2.1, r.2.2]

end Sys2Proof

namespace Sys2Proof.Machine

/-- A flit with the given type and payload. -/
def mkFlit (ft : Nat) (w0 w1 w2 w3 : Word) : Flit :=
  { ftype := BitVec.ofNat 8 ft, ccls := 7, ccnt := 0, w0, w1, w2, w3, seq := 0 }

/-- Words four to a flit, the last filled with zero (15 R371, R378). -/
def dataFlits (ft : Nat) (ws : List Word) : List Flit :=
  (chunks 4 ws).map fun l => mkFlit ft (l.getD 0 0) (l.getD 1 0) (l.getD 2 0) (l.getD 3 0)

/-- The MSGH flit of a message and the MSGD flits behind it (15 R371). -/
def msgFlits (m : Msg) : List Flit :=
  let ws := m.body.words
  let rest := dataFlits 0o011 (ws.drop 3)
  mkFlit 0o010
    (fld 0 4 m.dst.toNat ||| fld 5 9 m.src.toNat ||| fld 10 15 m.body.kind ||| fld 16 21 rest.length |||
      fld 22 35 m.seq.toNat)
    (ws.getD 0 0) (ws.getD 1 0) (ws.getD 2 0) :: rest

/-- The flits of a message as they arrive. -/
def arrivalFlits (a : Arrival) : List Flit :=
  List.zipWith (fun f l => { f with ccls := l.1, ccnt := l.2.1, seq := l.2.2 }) (msgFlits a.msg) a.links

/-- The class of a hop: the hops the message has already taken (15 R371). -/
def hopClass (m : Msg) : Nat := min m.hops 4

/-- A flit type that is replayed (15 Table 15-3; 19 Table 19-7 for the Adjunct). -/
def replayed (ft : Nat) : Bool := decide (8 ≤ ft)

/-- A flit that passes its CRC and yet is a protocol error on port p: an unlisted FTYPE, a CCLS of 6, a reserved QE or CK
(15 R368, Tables 15-3, 15-5a, 15-5b; 19 R469). -/
def badFlit (p : Nat) (f : Flit) : Bool :=
  let ft := f.ftype.toNat
  let listed := if p = 8 then [0, 1, 2, 3, 0o030, 0o031, 0o032]
    else [0, 1, 2, 3, 4, 0o010, 0o011, 0o020, 0o021, 0o022, 0o023, 0o024, 0o025]
  let k := bits f.w0 0 3
  !listed.contains ft || decide (f.ccls = 6) || (decide (ft = 0o023) && !decide (1 ≤ k ∧ k ≤ 4)) ||
    (decide (ft = 0o025) && !decide (1 ≤ k ∧ k ≤ 5))

end Sys2Proof.Machine
end

