-- ==== Sys2Proof/Config.lean ====
section
/-! DEFINITION. What an implementation or the world fixes and the manual leaves open: free values with no
body, so that nothing proved about the machine can rest on one (log entry 3). -/

namespace Sys2Proof.Config

/-- The n-th value drawn where the manual leaves a value open or random: K_TREE, SALT, RAND and KGEN
octets, the mesh pattern, signature nonces (14 R344, R347, R353, R358, R359). -/
opaque free : Nat → Nat

/-- The public key that mask ROM holds under a KEYID, as the two coordinates of a P-384 point
(16 R397): the manual gives no key. -/
opaque imageKey : Nat → Nat × Nat

/-- The bit rate grade fixed in fuses: true for the JR3664-14E (00 Table 00-1, 18 Table 18-10). -/
opaque gradeE : Bool

/-- VPP_FUSE is present at the n-th time it is asked for (16 R406). -/
opaque vppFuse : Nat → Bool

/-- The rail of cluster n in millivolts as measured when nothing has been sampled (18 R441, R454). -/
opaque railMv : Nat → Nat

/-- CYCLES of core n when it is read: the model does not time instructions (17 Table 17-6; log entry 7). The arguments
are what it has of the moment of the reading. -/
opaque cycles (n retired tb free : Nat) : Word

/-- The temperature of cluster n in degrees when nothing has been sampled (18 Table 18-8). -/
opaque tempC : Nat → Int

end Sys2Proof.Config
end

