-- ==== Sys2Proof/Machine/PageReset.lean ====
section
/-! DEFINITION. The control page registers: writable, write-1-to-clear and read-only bits, reset value, commit
group (07 Table 07-12; 08 Table 08-8; 09, 10, 11; 13 Tables 13-3, 13-5, 13-10; 14 Table 14-1; 15 Tables 15-7,
15-8; 16 Table 16-8; 17 Tables 17-2, 17-6 to 17-8; 18 Tables 18-6 to 18-10; 19 Tables 19-1, 19-3, 19-8). -/

namespace Sys2Proof.Machine

/-- A register: bits a write reaches, write-1-to-clear bits, read-only bits that are not reserved, reset value,
commit group (0 none). Every other bit is reserved and must be written zero (17 R420). -/
structure Reg where
  wr : List (Nat × Nat)
  w1 : List (Nat × Nat)
  ro : List (Nat × Nat)
  rst : Nat
  grp : Nat
  deriving DecidableEq, Repr

/-- The word with ones in the named bit ranges. -/
def maskOf (l : List (Nat × Nat)) : Word := l.foldl (fun m f => m ||| fld f.1 f.2 (2 ^ 36 - 1)) 0

/-- A register of writable fields. -/
def rw (wr : List (Nat × Nat)) (rst : Nat := 0) : Option Reg := some { wr, w1 := [], ro := [], rst, grp := 0 }

/-- A read-only register. -/
def ro (ro : List (Nat × Nat)) (rst : Nat := 0) : Option Reg := some { wr := [], w1 := [], ro, rst, grp := 0 }

/-- A register of a commit group. -/
def cg (grp : Nat) (wr : List (Nat × Nat)) (rst : Nat := 0) : Option Reg := some { wr, w1 := [], ro := [], rst, grp }

/-- A write-1-to-clear register. -/
def w1c (w1 : List (Nat × Nat)) : Option Reg := some { wr := [], w1, ro := [], rst := 0, grp := 0 }

/-- A register of writable and read-only fields. -/
def mix (wr w1 ro : List (Nat × Nat)) (rst : Nat := 0) : Option Reg := some { wr, w1, ro, rst, grp := 0 }

/-- All 36 bits. -/
def whole : List (Nat × Nat) := [(0, 35)]

/-- Core page registers (17 Table 17-6; 18 R439 CORE_CTL.RESET at 1). -/
def coreReg (off : Nat) : Option Reg :=
  match off with
  | 0o020 => ro [(30, 35)]
  | 0o021 => rw [(34, 35)] 2
  | 0o022 => ro [(16, 26)]
  | 0o023 => rw [(0, 32)]
  | 0o024 => rw [(0, 14)]
  | 0o025 => rw [(0, 30)]
  | 0o026 => mix [(24, 27), (32, 35)] [] [(28, 31)]
  | 0o027 => ro [(0, 25)]
  | 0o030 => rw [(24, 35)]
  | 0o031 => mix [(17, 35)] [] [(16, 16)] 0o200000
  | 0o032 => rw [(20, 35)]
  | 0o033 => ro whole
  | 0o034 => rw [(35, 35)]
  | 0o035 => ro [(4, 35)]
  | 0o036 | 0o037 | 0o040 | 0o041 => ro whole
  | 0o042 => rw [(0, 34)]
  | 0o043 => ro [(33, 35)]
  | _ => none

/-- Cluster page registers (18 Table 18-8). -/
def clusterReg (off : Nat) : Option Reg :=
  match off with
  | 0o020 => ro [(33, 35)]
  | 0o021 => ro [(24, 35)]
  | 0o022 => ro [(27, 35)]
  | 0o023 => rw [(35, 35)]
  | 0o024 => ro [(14, 35)]
  | _ => none

/-- DRAM controller page registers (19 Table 19-1). -/
def dramReg (off : Nat) : Option Reg :=
  match off with
  | 0o020 => ro [(30, 35)] 1
  | 0o021 => ro [(16, 35)]
  | 0o022 => cg 1 whole
  | 0o023 => cg 2 [(12, 35)]
  | 0o024 => cg 3 [(0, 27)]
  | 0o025 => cg 4 [(26, 35)] 24
  | 0o026 | 0o027 | 0o030 => ro whole
  | _ => none

/-- Link port page registers (15 Table 15-7). -/
def portReg (off : Nat) : Option Reg :=
  match off with
  | 0o020 => ro [(20, 29), (33, 35)]
  | 0o021 => rw [(34, 35)]
  | 0o022 => ro whole
  | 0o023 | 0o024 | 0o025 | 0o026 | 0o027 | 0o030 => ro whole
  | _ => none

/-- PCI Express page registers (19 Table 19-3). -/
def pcieReg (off : Nat) : Option Reg :=
  match off with
  | 0o020 => ro [(24, 35)]
  | 0o021 => rw [(23, 35)] 1
  | 0o022 | 0o023 => ro whole
  | 0o024 | 0o026 | 0o030 | 0o032 => rw [(0, 33)]
  | 0o025 | 0o027 | 0o031 | 0o033 => mix [(0, 4), (21, 35)] [] [(6, 20)] (4 * 2 ^ 31)
  | _ => none

/-- Queue manager page registers (13 Table 13-3). -/
def queueReg (off : Nat) : Option Reg :=
  match off with
  | 0o020 => rw [(22, 35)]
  | 0o021 => cg 1 [(0, 33)]
  | 0o022 => cg 1 [(15, 35)]
  | 0o023 => ro [(2, 35)]
  | 0o024 => ro [(2, 8), (19, 35)]
  | 0o025 => mix [(0, 9), (13, 31)] [] [(10, 12)]
  | 0o026 => rw [(0, 31)]
  | 0o027 => rw [(0, 34)]
  | 0o030 => rw [(0, 31)]
  | 0o031 => rw [(0, 33)]
  | 0o032 => rw [(23, 35)]
  | 0o033 => rw [(22, 35)]
  | 0o034 => ro whole
  | 0o035 => rw [(30, 35)]
  | 0o036 => rw [(20, 35)]
  | 0o037 => mix [(0, 18)] [] [(19, 25)]
  | _ => none

/-- Maltster page registers (13 Table 13-10). -/
def malReg (off : Nat) : Option Reg :=
  match off with
  | 0o020 => rw [(32, 34)]
  | 0o021 => cg 1 [(4, 35)] (16 * 2 ^ 24 + 24 * 2 ^ 16 + 8 * 2 ^ 8 + 64)
  | 0o022 => cg 1 [(20, 35)] (8 * 2 ^ 8 + 4)
  | 0o043 | 0o047 => ro whole
  | 0o044 => cg 2 [(0, 33)]
  | 0o045 => cg 2 [(31, 35)]
  | 0o046 => mix [(2, 18)] [] [(19, 35)]
  | 0o050 => rw [(33, 35)]
  | 0o051 | 0o052 | 0o053 => rw whole
  | 0o054 => ro whole
  | _ =>
    if 0o023 ≤ off ∧ off ≤ 0o032 then rw [(26, 35)] 512
    else if 0o033 ≤ off ∧ off ≤ 0o042 then ro [(16, 35)]
    else none

/-- Kiln page registers (14 Table 14-1). -/
def kilnReg (off : Nat) : Option Reg :=
  match off with
  | 0o020 => ro [(30, 35)]
  | 0o021 => cg 1 [(7, 35)]
  | 0o022 => cg 1 [(13, 35)]
  | 0o023 => cg 1 [(7, 35)]
  | 0o024 => rw [(33, 35)]
  | 0o025 | 0o026 => rw whole
  | 0o027 => ro whole
  | 0o030 => rw [(24, 35)]
  | 0o031 => ro whole
  | 0o032 => w1c [(31, 34)]
  | 0o033 => rw [(31, 34)]
  | 0o034 => ro [(0, 0), (23, 35)]
  | 0o035 => ro whole
  | 0o036 => rw [(28, 35)]
  | 0o037 => w1c [(27, 35)]
  | 0o040 => ro whole
  | _ => none

/-- Cellar page registers (07 Table 07-12). -/
def cellarReg (off : Nat) : Option Reg :=
  match off with
  | 0o020 => ro whole
  | 0o021 => rw [(34, 35)]
  | 0o022 => ro whole
  | 0o023 => rw whole
  | 0o024 => ro whole
  | 0o025 => rw whole
  | 0o032 => rw whole
  | _ => if 0o026 ≤ off ∧ off ≤ 0o040 then ro whole else none

/-- Steep page registers (16 Table 16-8). -/
def steepReg (off : Nat) : Option Reg :=
  match off with
  | 0o020 => ro whole
  | 0o021 => rw [(26, 35)] 30
  | 0o022 => rw [(33, 35)]
  | 0o035 => w1c [(30, 35)]
  | 0o036 => rw [(30, 35)]
  | 0o037 => rw [(31, 35)]
  | 0o054 => rw [(31, 35)]
  | _ => if 0o023 ≤ off ∧ off ≤ 0o053 then ro whole else none

/-- Power and clock page registers (18 Table 18-7; R446 for TLIM). -/
def powerReg (off : Nat) : Option Reg :=
  match off with
  | 0o030 => rw [(13, 29)] 0o37777700
  | 0o062 => cg 9 [(34, 35)]
  | 0o063 => cg 10 [(35, 35)]
  | 0o064 => rw [(27, 35)] (if Config.gradeE then 100 else 95)
  | 0o065 => mix [] [(34, 34)] [(33, 33), (35, 35)]
  | _ =>
    if 0o020 ≤ off ∧ off ≤ 0o027 then rw [(20, 32)] 0o177770
    else if 0o031 ≤ off ∧ off ≤ 0o041 then ro whole
    else if 0o042 ≤ off ∧ off ≤ 0o051 then cg (off - 0o041) [(30, 35)] 8
    else if 0o052 ≤ off ∧ off ≤ 0o061 then ro [(29, 35)]
    else none

/-- Steward/system page registers (17 Table 17-7; 18 Table 18-10). -/
def sysReg (off : Nat) : Option Reg :=
  match off with
  | 0o020 => rw [(7, 35)]
  | 0o037 => rw [(4, 35)]
  | 0o040 | 0o041 | 0o042 => ro whole
  | 0o043 => rw whole
  | 0o044 => rw [(0, 27)]
  | 0o045 => rw [(33, 35)]
  | 0o046 | 0o047 | 0o050 | 0o051 | 0o052 | 0o053 => coreReg (off - 0o023)
  | _ => if 0o021 ≤ off ∧ off ≤ 0o036 then rw [(24, 35)] else none

/-- Twin/cluster page registers (15 Table 15-8). -/
def twinReg (off : Nat) : Option Reg :=
  match off with
  | 0o020 => ro [(29, 35)]
  | 0o021 => rw [(20, 27), (35, 35)] (50 * 2 ^ 8)
  | 0o022 => rw [(33, 35)]
  | 0o032 => w1c [(29, 35)]
  | 0o033 => rw [(29, 35)]
  | 0o040 => rw [(35, 35)]
  | _ => if 0o023 ≤ off ∧ off ≤ 0o037 then ro whole else none

/-- Sticky record page registers (17 Table 17-8). -/
def stickyRow (off : Nat) : Option Reg :=
  match off with
  | 0o020 => w1c [(25, 35)]
  | 0o026 => mix [(6, 6)] [] [(0, 5)]
  | 0o027 => rw [(27, 35)]
  | 0o107 => w1c whole
  | 0o110 => w1c [(0, 27)]
  | _ => if 0o021 ≤ off ∧ off ≤ 0o111 then ro whole else none

/-- Timers page registers (18 Table 18-9). -/
def timerReg (off : Nat) : Option Reg :=
  match off with
  | 0o020 | 0o021 => ro whole
  | 0o052 => mix [(20, 27), (35, 35)] [(34, 34)] []
  | 0o053 => rw [(35, 35)]
  | _ =>
    if 0o022 ≤ off ∧ off < 0o052 then
      (match (off - 0o022) % 3 with
        | 0 => rw whole
        | 1 => ro whole
        | _ => rw [(27, 35)])
    else none

/-- Adjunct page registers (19 Table 19-8). -/
def adjReg (off : Nat) : Option Reg :=
  match off with
  | 0o020 => ro [(28, 31), (33, 35)]
  | 0o021 => rw [(35, 35)]
  | 0o022 | 0o023 => ro whole
  | _ => none

/-- The header's registers (17 Table 17-2). -/
def headReg (off : Nat) : Option Reg :=
  match off with
  | 0 | 1 | 2 | 4 => ro whole
  | 3 => w1c [(34, 35)]
  | 5 => rw [(30, 35)]
  | 6 => rw [(0, 0), (23, 35)]
  | 7 => rw [(35, 35)]
  | _ => none

/-- The register at an offset of a page; none where the word is reserved (17 R414). -/
def regAt (page off : Nat) : Option Reg :=
  if off < 16 then headReg off
  else if page < 64 then coreReg off
  else if page < 72 then clusterReg off
  else if page < 80 then dramReg off
  else if page < 88 then portReg off
  else
    match page with
    | 88 => pcieReg off
    | 89 => queueReg off
    | 90 => malReg off
    | 91 => kilnReg off
    | 92 => cellarReg off
    | 93 => steepReg off
    | 94 => powerReg off
    | 95 => sysReg off
    | 96 => twinReg off
    | 97 => stickyRow off
    | 98 => timerReg off
    | 99 => adjReg off
    | _ => none

/-- The reset value of the stored register at an offset of a page. -/
def pregReset (page off : Nat) : Word :=
  match regAt page off with
  | some r => wd r.rst
  | none => 0

/-- Reserved bits of a register (17 R420). -/
def Reg.reserved (r : Reg) : Word := ~~~(maskOf r.wr ||| maskOf r.w1 ||| maskOf r.ro)

/-- A register can be written at all (17 R420). -/
def Reg.writable (r : Reg) : Bool := !r.wr.isEmpty || !r.w1.isEmpty

/-- What a live write makes of the old value (17 R420). -/
def Reg.apply (r : Reg) (old v : Word) : Word :=
  let w := maskOf r.wr
  let c := maskOf r.w1
  ((old &&& ~~~w) ||| (v &&& w)) &&& ~~~(v &&& c)

end Sys2Proof.Machine
end

