-- ==== Sys2Proof/Machine/State.lean ====
section
/-! DEFINITION. The state of the device as plain data, the reasons a command stops, and the state
right after reset. Sparse tables list a key only where its value differs from the table's default. -/

namespace Sys2Proof.Machine

/-- A sparse table: strictly rising keys, no entry at the default (Machine/Sparse.lean reads and writes). -/
abbrev Tab (α : Type) := List (Nat × α)

/-- Why the machine faults. -/
inductive Fault where
  /-- A command that stands for no event of the manual: operand lists of lengths it does not have, or a defined
  instruction given as an undefined one (WellFormed refuses it); raised by the meanings that take such operands;
  safe, because the manual gives no such event. -/
  | malformedCommand
  deriving DecidableEq, Repr

/-- Why the machine refuses. -/
inductive Refusal where
  /-- No meaning yet; raised by an arm of exec only; safe. -/
  | notModelled (mnemonic : String)
  deriving DecidableEq, Repr

/-- A memory word with its tag (02 R33). -/
structure Cell where
  w : Word
  tag : Bool
  deriving DecidableEq, Repr

/-- A Uanar token register (02 R34). -/
structure Tok where
  a : Word
  b : Word
  tag : Bool
  deriving DecidableEq, Repr

/-- A TLB entry (11 R274, Tables 11-8 to 11-10). -/
structure TlbEntry where
  valid : Bool
  va : BitVec 32
  size : BitVec 2
  g : Bool
  asid : BitVec 12
  pfn : BitVec 29
  r : Bool
  w : Bool
  x : Bool
  u : Bool
  c : Bool
  dev : Bool
  wt : Bool
  deriving DecidableEq, Repr

/-- A change of a TLB that is not yet seen (03 R65, 11 Table 11-12). -/
inductive TlbChange where
  | write (idx : Nat) (e : TlbEntry)
  | invIndex (idx : Nat)
  | invAsid (asid : BitVec 12)
  | invAll
  | invAddr (asid : BitVec 12) (va : BitVec 32)
  deriving DecidableEq, Repr

/-- A store buffer entry (12 R288). -/
structure SbEntry where
  addr : Nat
  mask : BitVec 4
  data : Word
  tag : Bool
  dev : Bool
  cached : Bool
  wt : Bool
  deriving DecidableEq, Repr

/-- Floating operations in flight (04 R90). -/
inductive FOp where
  | add | sub | mul | div | sqrt | cvt (k : Cvt) | fma (np na : Bool)
  deriving DecidableEq, Repr

/-- A floating operation that has issued and not completed: sources as read at issue (04 R87), and the mode and the
enables (`en`, an FSR value) that governed it then (04 R89; 03 Table 03-7). -/
structure FpuOp where
  op : FOp
  dbl : Bool
  dst : Nat
  pair : Bool
  x : Nat
  y : Nat
  z : Nat
  rm : Nat
  ftz : Bool
  en : Word
  pc : Word
  deriving DecidableEq, Repr

/-- What an exposed distance covers (03 Table 03-7). -/
inductive Exposed where
  | psw
  | spr (n : Nat)
  | c0
  deriving DecidableEq, Repr

/-- A change that nearer instructions do not see: the old value and the parcels still to go (03 R65). -/
structure Shadow where
  what : Exposed
  old : Word
  oldTok : Tok
  left : Nat
  deriving DecidableEq, Repr

/-- The hidden registers of a refill or window trap (09 R207, R212). -/
structure Hidden where
  live : Bool
  under : Bool
  cause : Word
  pc : Word
  npc : Word
  psw : Word
  deriving DecidableEq, Repr

/-- The ring values of a bank (09 R204). -/
structure Ring where
  cwp : Nat
  old : Nat
  res : Nat
  deriving DecidableEq, Repr

/-- CORE_STAT.STATE, power aside (17 Table 17-6). -/
inductive RunState where
  | reset | running | waiting | halted
  deriving DecidableEq, Repr

/-- What an instruction waits for before its command can be given again. -/
inductive Why where
  | lineFill (line off : Nat)
  | keyRecord (cluster frame : Nat)
  | storeBuffer
  | busyRegister
  | frameLock (frame : Nat)
  | admission
  | commitPhase
  | kiln
  | adjunct
  | floating
  | vectorWake
  | microTrap
  | interrupt
  deriving DecidableEq, Repr

/-- A machine check not yet taken (10 R252). -/
structure MCheck where
  cls : Nat
  detail : Nat
  deriving DecidableEq, Repr

/-- The outstanding Kiln request of a core (14 R356): where it was issued, what it asks, whether its key slot has
emptied since (R362), and its status once it has completed. -/
structure KReq where
  pc : Word
  bank : Nat
  slot : Nat
  opc : Nat
  keySlot : Nat
  len : Nat
  inp : List Nat
  out : List Nat
  aux : List Nat
  fail : Option Nat
  lost : Bool
  status : Option Nat
  deriving DecidableEq, Repr

/-- The outstanding Adjunct request of a core and its response (19 R470). -/
structure AReq where
  pc : Word
  bank : Nat
  rsp : Option (Nat × Word × Word)
  late : Bool
  deriving DecidableEq, Repr

/-- What the hardware keeps beside a full frame: whether groups D and V are saved in it, whether it interrupted bank T
(09 R226), and whether an item of R234, or a trace, is tied to the point it returns to. -/
structure FrameMark where
  ds : Bool
  vs : Bool
  fromT : Bool
  after : Bool
  trace : Bool
  deriving DecidableEq, Repr

/-- One core: a ledger core or the steward (03, 08, 09, 10, 11, 12). `traceE` keeps a trace pending under bank E (10
R234), `seen` the length of the instruction at a parcel pointer as the core last met it (10 R239), `rested` that the
clean of Rest mode is done (12 R304). -/
structure Core where
  run : RunState
  wait : Option Why
  pc : Word
  npc : Option Word
  slot : Bool
  psw : Word
  regs : Tab Word
  c0T : Tok
  c0H : Tok
  c0F : Tok
  c0E : Tok
  c : Tab Tok
  da : Tab Acc
  v : Tab VReg
  fsr : Word
  dsr : Word
  lc : Word
  ls : Word
  le : Word
  prog : Word
  vfl : Word
  esp : Word
  badins : Word
  cause : Word
  fq : Word
  ib : Word
  ibHeld : Option Word
  db : Tab Word
  en : Tab Word
  tlbIndex : Word
  tlbTag : Word
  tlbData : Word
  kcIndex : Word
  kcData : Word
  shadow : List Shadow
  tRing : Ring
  hRing : Ring
  hidT : Hidden
  hidH : Hidden
  hidF : Hidden
  depth : Nat
  fresh : Bool
  frames : List FrameMark
  tabs : BitVec 4
  tdrt : BitVec 4
  itlb : Tab TlbEntry
  dtlb : Tab TlbEntry
  itlbNext : Nat
  dtlbNext : Nat
  itlbPend : List TlbChange
  dtlbPend : List (TlbChange × Nat)
  idI : Bool
  idD : Bool
  idIEnd : Bool
  idDEnd : Option Nat
  sb : List SbEntry
  dcache : List (Nat × Bool)
  icache : List Nat
  pred : Tab Nat
  hist : BitVec 10
  fpu : List FpuOp
  pend : BitVec 32
  mchk : List MCheck
  after : Option (Nat × Nat)
  trace : Bool
  traceE : Bool
  seen : Option (Word × Nat)
  rested : Bool
  holding : Bool
  csBad : Bool
  micro : List (BitVec 96)
  pitching : Bool
  releasing : Bool
  serv : Option (Nat × Nat)
  kreq : Option KReq
  areq : Option AReq
  vAwake : Bool
  vWaking : Bool
  dbgHalt : Bool
  dbgStep : Bool
  brkPass : Bool
  targets : List Word
  deriving DecidableEq, Repr

/-- A leg of a posting in progress: its record words, its balance field's physical words and the
new balance (07 R149, R152, R169). -/
structure Leg where
  acct : Word
  lflags : Word
  amt : List Word
  addrs : List Nat
  new : List Word
  deriving DecidableEq, Repr

/-- The posting instructions (07 R151, R164, R165). -/
inductive PKind where
  | post | prep | conf | abrt
  deriving DecidableEq, Repr

/-- Where a posting in progress stands (07 R152, R157, R160, R161). -/
inductive PStage where
  | lockWait | admission | durable | racking
  deriving DecidableEq, Repr

/-- A posting in progress on a core. -/
structure Posting where
  core : Nat
  kind : PKind
  stage : PStage
  legs : List Leg
  ref : Word
  dom : Nat
  frames : List Nat
  seq0 : Word
  seq1 : Word
  prep0 : Word
  prep1 : Word
  pos : Word
  len : Nat
  sync : Bool
  deriving DecidableEq, Repr

/-- Who holds a frame lock (07 R157). -/
inductive Holder where
  | core (n : Nat)
  | prepared (seq0 seq1 : Word)
  deriving DecidableEq, Repr

/-- A prepared table entry; `settled` that its confirm or abort record is durable (07 R164-R167). -/
structure Prepared where
  seq0 : Word
  seq1 : Word
  dom : Nat
  addrs : List Nat
  new : List (List Word)
  settled : Bool
  deriving DecidableEq, Repr

/-- A record that has been appended and whose first pair is not yet durable, with the RACK_MODE of its admission (07 R171,
R180). -/
structure Flying where
  pos : Word
  first0 : Word
  first1 : Word
  len : Nat
  core : Nat
  mode : Nat
  deriving DecidableEq, Repr

/-- CEL_STATE.STATE (07 Table 07-13). -/
inductive CelState where
  | off | scan | service | drain | fault
  deriving DecidableEq, Repr

/-- The Cellar (07). `lowMark` is LOW_MARK as the last admission applied it (R180); `recAddrs` keeps, by SEQ, the balance
addresses of the prepared records in the ring, which a catch-up sends (15 R378, R383; log entry 60). -/
structure Cellar where
  st : CelState
  ring : Tab Word
  append : Word
  archive : Word
  count : Nat
  term : Nat
  lapTotal : Nat
  posted : Nat
  refused : Nat
  lone : Nat
  unacked : List (Word × Word)
  flying : List Flying
  prepared : List Prepared
  posts : List Posting
  locks : List (Nat × Holder)
  ckpt : Word
  ckptTerm : Nat
  ckptCount : Nat
  last0 : Word
  last1 : Word
  lowMark : Nat
  recAddrs : List (Word × Word × List Nat)
  deriving DecidableEq, Repr

/-- A queue context (13 R311, Tables 13-3, 13-4): live ring group, its shadow, pointers, service. -/
structure QCtx where
  ring : Word
  shape : Word
  shRing : Word
  shShape : Word
  committed : Bool
  head : Nat
  tail : Nat
  ret : Nat
  inServ : List (Nat × Nat)
  released : List Nat
  deliver : Nat
  unracked : List Nat
  st : Nat
  ctl : Word
  link : Word
  att : Word
  attv : Word
  flist : Word
  flen : Word
  deriving DecidableEq, Repr

/-- A frame move of the Maltster (13 R330, R332): kind is the event TYPE of Table 13-12; 8 = DRAM. -/
structure Move where
  kind : Nat
  frame : Nat
  src : Nat
  dst : Nat
  other : Nat
  heat : Nat
  victim : Nat
  epoch : Nat
  deriving DecidableEq, Repr

/-- A candidate table entry (13 R329). -/
structure Cand where
  valid : Bool
  frame : Nat
  heats : List Nat
  deriving DecidableEq, Repr

/-- The Maltster (13 R328-R334). -/
structure Maltster where
  home : Tab Nat
  heat : Tab Nat
  cand : Tab Cand
  qheat : Tab Nat
  sample : Tab Nat
  fmoved : Tab Nat
  qmoved : Tab Nat
  plan : List Move
  running : List Move
  cmdOp : Option Nat
  deriving DecidableEq, Repr

/-- A bucket move as this device takes part in it (13 R337): its manager, the devices that take part, the stage,
the devices still to acknowledge it, the fences that have arrived, whether this stage's work has been sent, and the
command it runs under: 3 BMOVE, 5 BFORCE. -/
structure BMove where
  srcDev : Nat
  srcQ : Nat
  dstDev : Nat
  dstQ : Nat
  mgr : Nat
  devs : List Nat
  stage : Nat
  acks : List Nat
  fences : List Nat
  sent : Bool
  failed : Bool
  op : Nat
  deriving DecidableEq, Repr

/-- The queue manager and the bucket directory (13): the move in which this device takes part, and, at the twin of the
manager, the stage at which the manager has its move (15 R387). -/
structure Queues where
  q : Tab QCtx
  last : Tab Nat
  dir : Tab Word
  bmove : Option BMove
  mgrMove : Option BMove
  dbw : Tab Word
  deriving DecidableEq, Repr

/-- A key slot (14 R350). -/
structure KeySlot where
  st : Nat
  ktype : Nat
  octets : List Octet
  deriving DecidableEq, Repr

/-- A root entry of the counter tree (14 Table 14-2). -/
structure Root where
  fmt : Bool
  gctr : Nat
  salt : Nat
  deriving DecidableEq, Repr

/-- A verified frame node in the Kiln's node cache (14 R345). -/
structure FNode where
  frame : Nat
  maj : Nat
  dirty : Bool
  deriving DecidableEq, Repr

/-- A verified group node in the Kiln's node cache (14 R345). -/
structure GNode where
  group : Nat
  fctrs : Tab Nat
  dirty : Bool
  deriving DecidableEq, Repr

/-- The Kiln and the battery domain's key (14). -/
structure Kiln where
  kek : Option (List Octet)
  slots : Tab KeySlot
  ktree : List Octet
  battLost : Bool
  root : Tab Root
  fnodes : List FNode
  gnodes : List GNode
  cmd : Option (Nat × Word × Word)
  refresh : Option Nat
  drbgOk : Bool
  requests : Nat
  tstop : Bool
  mesh : Nat
  zLow : Bool
  deriving DecidableEq, Repr

/-- A link port or the Adjunct port (15 R366-R370): `waiting` holds flits without a credit or replay room with their
credit classes, `msgs` the messages put on the port, `crcBad` the CRC failures in a row. -/
structure Port where
  st : Nat
  lanes : BitVec 8
  credits : Tab Nat
  owed : Tab Nat
  sendSeq : Nat
  recvSeq : Nat
  replay : List Flit
  nakRun : Nat
  nakSeen : Nat
  nakSent : Bool
  sinceAck : Nat
  retrains : List Nat
  paramSent : Bool
  up : Bool
  crcBad : Nat
  waiting : List (Nat × Flit)
  tx : List Flit
  msgs : List Msg
  deriving DecidableEq, Repr

/-- End-to-end message transport (15 R371-R373): kept messages with the queue each ticket came from, contents that
wait behind 256 kept messages of their destination, messages in transit held for a route, and the manager, the
members' versions and VMIX (15 R387, R388). -/
structure Transport where
  sendSeq : Tab Nat
  recvSeq : Tab Nat
  unacked : List (Msg × Option Nat)
  unreach : List Nat
  backlog : List (Nat × MsgBody × Option Nat)
  held : List Msg
  mgr : Option Nat
  vers : List (Nat × Word)
  vmix : Bool
  deriving DecidableEq, Repr

/-- The twin machine (15 R374-R386): its state, the hold and the line as the twin reports it (log entry 18), the
holder's term and the greatest one seen, misses, whether it tries to take the hold, whether its start-up wait is over,
the running command, the orphans with the common point and its SEQ. -/
structure Twin where
  st : Nat
  hold : Bool
  lineLow : Bool
  vdiff : Bool
  peerTerm : Nat
  seenTerm : Nat
  misses : Nat
  check : Bool
  taking : Bool
  waited : Bool
  cmd : Option Nat
  orphans : List Word
  common : Word
  common0 : Word
  common1 : Word
  deriving DecidableEq, Repr

/-- STEEP_STATE.STATE (16 Table 16-8). -/
inductive SteepState where
  | idle | gather | apply | ready | provisional | confirm | failed
  deriving DecidableEq, Repr

/-- Field update: session, selector word, digests and lengths of the images, versions, fuses, piece buffers, and the
pieces of a relay still unanswered (16). -/
structure Steep where
  st : SteepState
  owner : Nat
  joined : BitVec 3
  have_ : List Nat
  tables : List Nat
  sig1040 : Bool
  fail : Nat
  idleUs : Nat
  cmd : Option Nat
  pausing : Bool
  reverting : Bool
  clearing : Bool
  sel : Nat
  starts : Nat
  cfm : Bool
  epend : Bool
  ept : Nat
  digConf : List Octet
  digSteep : List Octet
  lenConf : Nat
  lenSteep : Nat
  runVer : Word
  confVer : Word
  runEpoch : Nat
  runFrom : Nat
  fuseEpoch : Nat
  spent : Bool
  buf : Tab Octet
  relayed : List Nat
  relayDev : Nat
  engine : List (Nat × List Word)
  engineNext : List (Nat × List Word)
  deriving DecidableEq, Repr

/-- Pins and the supplies the manual's rules read (18, 19). -/
structure Pins where
  porstLow : Bool
  warmLow : Bool
  pwrGood : Bool
  pwrFailLow : Bool
  perstLow : Bool
  prochotLow : Bool
  prochotOut : Bool
  thermtripLow : Bool
  deriving DecidableEq, Repr

/-- SMBus and JTAG port state, and MB_STAT (19 R464, R467, R468): `out` is what SMBus last answered, `trace` the entry of
the branch trace that the next READ_TRACE returns. -/
structure Mgmt where
  page : Nat
  off : Nat
  result : Nat
  out : List Octet
  ir : Octet
  dr : Nat
  drBits : Nat
  sel : Nat
  trace : Nat
  mbDone : Bool
  mbCode : Nat
  deriving DecidableEq, Repr

/-- Clocks, sensors and power (18): domains off and waking, committed multipliers, caps, the last sample of the rails,
the neighbours that differed at it, temperatures, fenced clusters, neighbours under R445, fabric cycles and
microseconds, what is left of the watchdog's period, whether it has fired, a THERMTRIP. -/
structure Power where
  off : List Domain
  waking : List Domain
  mult : Tab Nat
  cap : Tab Nat
  rails : Tab Nat
  sampled : Bool
  overRuns : List Nat
  temps : List Int
  fenced : List Nat
  grad : List Nat
  tb : Nat
  us : Nat
  wdogLeft : Nat
  watch : Bool
  fatalTherm : Bool
  deriving DecidableEq, Repr

/-- The state of the whole device; `msix` lists the interrupts sent to the host (function, entry), `msixTab` the MSI-X
tables (byte 2^14 × function + offset), `hostOut` what the host or a port last read, `dmaOut` what DMA wrote to the host
(function, host address, bytes). -/
structure State where
  pending : List Instr
  free : Nat
  cores : List (Nat × Core)
  dram : Tab Cell
  clear : Tab Cell
  opened : List (Nat × Bool)
  kcache : List (Nat × Nat × Word)
  ktWritten : Bool
  installed : Nat
  spd : DramPop
  pregs : Tab Word
  shadows : Tab Word
  staged : List (Nat × Nat)
  stagedV : Tab Word
  cel : Cellar
  mal : Maltster
  que : Queues
  kiln : Kiln
  ports : Tab Port
  tr : Transport
  twin : Twin
  steep : Steep
  store : Tab Octet
  lgasp : Tab Word
  lgLast : Nat
  sys : Nat
  straps : Straps
  svStarted : Bool
  warmPend : Bool
  pins : Pins
  mgmt : Mgmt
  pwr : Power
  msix : List (Nat × Nat)
  msixTab : Tab Octet
  hostOut : Nat
  dmaOut : List (Nat × Nat × List Octet)
  deriving DecidableEq, Repr

/-- A cleared token register (02 R34). -/
def Tok.clear : Tok := { a := 0, b := 0, tag := false }

/-- The domain token that C0 of every bank holds at reset (11 Table 11-1). -/
def Tok.rootC0 : Tok := { a := 0o300100000000, b := 0, tag := true }

/-- No window trap or refill is live. -/
def Hidden.none : Hidden := { live := false, under := false, cause := 0, pc := 0, npc := 0, psw := 0 }

/-- A ledger core as a core reset leaves it (09 R203, 11 Table 11-1, 18 R433, R439). Register values
the manual does not state are 0 (log entry 1). PSW: PRI 15, RCV 1, BANK 1. -/
def Core.reset : Core :=
  { run := .reset, wait := none, pc := 0, npc := none, slot := false,
    psw := 0o000750200000, regs := [], c0T := .rootC0, c0H := .rootC0, c0F := .rootC0, c0E := .rootC0,
    c := [], da := [], v := [], fsr := 0, dsr := 0, lc := 0, ls := 0, le := 0,
    prog := 0, vfl := 0, esp := 0, badins := 0, cause := 0, fq := 0, ib := 0, ibHeld := none, db := [],
    en := [], tlbIndex := 0, tlbTag := 0, tlbData := 0, kcIndex := 0, kcData := 0, shadow := [],
    tRing := { cwp := 0, old := 0, res := 1 }, hRing := { cwp := 0, old := 0, res := 1 },
    hidT := .none, hidH := .none, hidF := .none, depth := 1, fresh := true, frames := [{ ds := false, vs := false, fromT := false, after := false, trace := false }],
    tabs := 0, tdrt := 0, itlb := [], dtlb := [], itlbNext := 0, dtlbNext := 0, itlbPend := [],
    dtlbPend := [], idI := true, idD := true, idIEnd := false, idDEnd := none, sb := [], dcache := [],
    icache := [], pred := [], hist := 0, fpu := [], pend := 0, mchk := [], after := none,
    trace := false, traceE := false, seen := none, rested := false, holding := false, csBad := false, micro := [], pitching := false, releasing := false,
    serv := none, kreq := none, areq := none, vAwake := false, vWaking := false, dbgHalt := false,
    dbgStep := false, brkPass := false, targets := [] }

/-- The steward as power-on reset leaves it: as a ledger core, running, with the root tokens
(11 Table 11-1, 18 R435). -/
def Core.steward : Core :=
  { Core.reset with
    run := .running,
    c := [(1, { a := 0o317740000000, b := 0, tag := true }),
          (2, { a := 0o016441700003, b := 0, tag := true }),
          (3, { a := 0o350440000000, b := 0, tag := true })] }

/-- The cores as power-on reset leaves them, by number: the default of `State.cores`. -/
def Core.initial (n : Nat) : Core := if n = 64 then Core.steward else Core.reset

/-- A queue context at reset: everything 0 but FN, which is 127 (13 Table 13-3). -/
def QCtx.reset : QCtx :=
  { ring := 0, shape := 0, shRing := 0, shShape := 0, committed := false, head := 0, tail := 0,
    ret := 0, inServ := [], released := [], deliver := 0, unracked := [], st := 0, ctl := 0,
    link := 0o000017700000, att := 0, attv := 0, flist := 0, flen := 0 }

/-- A port at reset: every class has its 32 buffers' credits (15 R369). -/
def Port.reset : Port :=
  { st := 0, lanes := 0, credits := [], owed := [], sendSeq := 0, recvSeq := 0, replay := [],
    nakRun := 0, nakSeen := 0, nakSent := false, sinceAck := 0, retrains := [], paramSent := false, up := false,
    crcBad := 0, waiting := [], tx := [], msgs := [] }

/-- The Cellar as power-on reset finds it with an empty ring (07 R173, log entry 4). -/
def Cellar.reset : Cellar :=
  { st := .scan, ring := [], append := 0, archive := 0, count := 0, term := 0, lapTotal := 0,
    posted := 0, refused := 0, lone := 0, unacked := [], flying := [], prepared := [], posts := [],
    locks := [], ckpt := 0, ckptTerm := 0, ckptCount := 0, last0 := 0, last1 := 0, lowMark := 0, recAddrs := [] }

/-- The Maltster at reset (13 R328-R333). -/
def Maltster.reset : Maltster :=
  { home := [], heat := [], cand := [], qheat := [], sample := [], fmoved := [], qmoved := [],
    plan := [], running := [], cmdOp := none }

/-- The queue manager at reset (13). -/
def Queues.reset : Queues :=
  { q := [], last := [], dir := [], bmove := none, mgrMove := none, dbw := [] }

/-- The Kiln at reset: no keys, no formatted group; K_TREE is drawn at the first start (14 R344, log entry 3). -/
def Kiln.reset : Kiln :=
  { kek := none, slots := [], ktree := List.replicate 32 0, battLost := false, root := [], fnodes := [], gnodes := [], cmd := none,
    refresh := none, drbgOk := true, requests := 0, tstop := false, mesh := 1, zLow := false }

/-- End-to-end transport at reset (15 R373). -/
def Transport.reset : Transport :=
  { sendSeq := [], recvSeq := [], unacked := [], unreach := [], backlog := [], held := [], mgr := none, vers := [],
    vmix := false }

/-- The twin machine at reset: ALONE (15 R377, R386). -/
def Twin.reset : Twin :=
  { st := 0, hold := false, lineLow := false, vdiff := false, peerTerm := 0, seenTerm := 0, misses := 0,
    check := false, taking := false, waited := false, cmd := none, orphans := [], common := 0, common0 := 0, common1 := 0 }

/-- The update machinery with no session; the store holds no image of the model's (log entry 5). -/
def Steep.reset : Steep :=
  { st := .idle, owner := 0, joined := 0, have_ := [], tables := [], sig1040 := false, fail := 0,
    idleUs := 0, cmd := none, pausing := false, reverting := false, clearing := false, sel := 0,
    starts := 0, cfm := false, epend := false, ept := 0, digConf := [], digSteep := [], lenConf := 0, lenSteep := 0, runVer := 0,
    confVer := 0, runEpoch := 0, runFrom := 0, fuseEpoch := 0, spent := false, buf := [],
    relayed := [], relayDev := 0, engine := [], engineNext := [] }

/-- Pins at rest with main power good (18 R432). -/
def Pins.reset : Pins :=
  { porstLow := false, warmLow := false, pwrGood := true, pwrFailLow := false, perstLow := false,
    prochotLow := false, prochotOut := false, thermtripLow := false }

/-- The management ports at reset (19 R467, R468). -/
def Mgmt.reset : Mgmt :=
  { page := 0, off := 0, result := 0, out := [], ir := 0x01, dr := 0x20E50B4B, drBits := 32, sel := 0, trace := 0,
    mbDone := true, mbCode := 0 }

/-- Power and clocks at reset: every domain on, MULT 8, no cap (18 Table 18-7). -/
def Power.reset : Power :=
  { off := [], waking := [], mult := [], cap := [], rails := [], sampled := false,
    overRuns := [], temps := [], fenced := [], grad := [], tb := 0, us := 0, wdogLeft := 0, watch := false,
    fatalTherm := false }

/-- No DIMMs trained. -/
def DramPop.none : Sys2Proof.DramPop :=
  { pass := false, dimms := 0, ranks := 0, gib := 0, t1 := 0, t2 := 0, t3 := 0 }

/-- The device right after power-on reset, before its start-up steps: SYS_STATE 1 (18 R435, Table
18-10), the ledger cores held in reset, the steward running, no DRAM installed until training, the
straps of a standalone device 0 (log entry 6), no command waiting. -/
def State.reset : State :=
  { pending := [], free := 2, cores := [], dram := [], clear := [], opened := [], kcache := [],
    ktWritten := false, installed := 0, spd := DramPop.none, pregs := [], shadows := [], staged := [], stagedV := [],
    cel := .reset, mal := .reset, que := .reset, kiln := .reset, ports := [], tr := .reset,
    twin := .reset, steep := .reset, store := [], lgasp := [], lgLast := 0, sys := 1,
    straps := { devid := 0, role := 2, twin := false, smba := 0 }, svStarted := false,
    warmPend := false, pins := .reset, mgmt := .reset, pwr := .reset, msix := [], msixTab := [], hostOut := 0,
    dmaOut := [] }

end Sys2Proof.Machine
end

