-- ==== Sys2Proof/Machine/Sparse.lean ====
section
/-! DEFINITION. Reading and writing the sparse tables of State: keys rise strictly and no entry holds the
table's default, so that equal tables are equal data. -/

namespace Sys2Proof.Machine

/-- The entry of a table at a key, or the default. -/
def tget {α : Type} (d : α) : Tab α → Nat → α
  | [], _ => d
  | (k, v) :: t, n => if k = n then v else tget d t n

/-- The table with its entry at a key removed. -/
def tdel {α : Type} : Tab α → Nat → Tab α
  | [], _ => []
  | (k, v) :: t, n => if k = n then tdel t n else (k, v) :: tdel t n

/-- The table with an entry put in its place in the order of keys. -/
def tput {α : Type} : Tab α → Nat → α → Tab α
  | [], n, x => [(n, x)]
  | (k, v) :: t, n, x =>
    if n < k then (n, x) :: (k, v) :: t
    else if n = k then (n, x) :: t
    else (k, v) :: tput t n x

/-- Write one entry, keeping the canonical form: writing the default removes the entry. -/
def tset {α : Type} [DecidableEq α] (d : α) (m : Tab α) (n : Nat) (x : α) : Tab α :=
  if x = d then tdel m n else tput m n x

/-- The canonical form of a table with default d. -/
def tabWf {α : Type} [DecidableEq α] (d : α) : Tab α → Bool
  | [] => true
  | [(_, v)] => decide (v ≠ d)
  | (k, v) :: (l, w) :: t => decide (v ≠ d) && decide (k < l) && tabWf d ((l, w) :: t)

/-- Memory cells no one has written (log entry 2). -/
def Cell.zero : Cell := { w := 0, tag := false }

/-- The canonical form of memory: addresses strictly rising, no entry equal to what an unlisted
address reads as (log entry 2). -/
abbrev Memory.wf (m : Tab Cell) : Bool := tabWf Cell.zero m

/-- The canonical form of everything held as a memory table (log entry 2): DRAM, the clear copies of
sealed lines, the journal ring, the image store. -/
def State.memWf (s : State) : Bool :=
  Memory.wf s.dram && Memory.wf s.clear && tabWf 0 s.cel.ring && tabWf 0 s.store

/-- Core n (0 to 63 ledger cores, 64 the steward). -/
def State.core (s : State) (n : Nat) : Core := tget (Core.initial n) s.cores n

/-- The state with core n replaced. -/
def State.setCore (s : State) (n : Nat) (c : Core) : State :=
  { s with cores := tset (Core.initial n) s.cores n c }

end Sys2Proof.Machine
end

