-- ==== Sys2Proof/Machine/Pages.lean ====
section
/-! DEFINITION. The registers of the control pages as storage, the counters among them, and the sticky error
record (17 R413-R430). -/

namespace Sys2Proof.Machine

/-- The stored value of the register at offset `off` of a page. -/
def State.preg (s : State) (page off : Nat) : Word := tget (pregReset page off) s.pregs (page * 256 + off)

/-- The state with the stored register replaced. -/
def State.setPreg (s : State) (page off : Nat) (w : Word) : State :=
  { s with pregs := tset (pregReset page off) s.pregs (page * 256 + off) w }

/-- The state with bits [a:b] of a stored register replaced. -/
def State.setPregF (s : State) (page off a b v : Nat) : State :=
  s.setPreg page off (setBits (s.preg page off) a b v)

/-- The shadow of a commit group register (17 R420). -/
def State.shadowReg (s : State) (page off : Nat) : Word := tget (pregReset page off) s.shadows (page * 256 + off)

/-- The state with the shadow replaced. -/
def State.setShadow (s : State) (page off : Nat) (w : Word) : State :=
  { s with shadows := tset (pregReset page off) s.shadows (page * 256 + off) w }

/-- A counter register advanced by n modulo 2^36. -/
def State.bump (s : State) (page off n : Nat) : State := s.setPreg page off (s.preg page off + wd n)

/-- Bits ORed into a stored register. -/
def State.orPreg (s : State) (page off : Nat) (w : Word) : State := s.setPreg page off (s.preg page off ||| w)

/-- Control page numbers (17 Table 17-1). -/
abbrev pgCluster (n : Nat) : Nat := 64 + n
abbrev pgDram (n : Nat) : Nat := 72 + n
abbrev pgPort (n : Nat) : Nat := 80 + n
abbrev pgPcie : Nat := 88
abbrev pgQueue : Nat := 89
abbrev pgMal : Nat := 90
abbrev pgKiln : Nat := 91
abbrev pgCellar : Nat := 92
abbrev pgSteep : Nat := 93
abbrev pgPower : Nat := 94
abbrev pgSys : Nat := 95
abbrev pgTwin : Nat := 96
abbrev pgSticky : Nat := 97
abbrev pgTimer : Nat := 98
abbrev pgAdj : Nat := 99

/-- The SR_SUM bit of a log entry's kind and class, if it has one (17 Table 17-8). -/
def sumBits (kind sub : Nat) : Word :=
  match kind with
  | 2 => fld 25 25 1
  | 3 => fld 26 26 1
  | 4 => fld 27 27 1
  | 5 => fld 28 28 1
  | 10 => fld 29 29 1
  | 1 => fld 30 30 1 ||| (if sub = 1 ∨ sub = 2 then fld 31 31 1 else 0)
  | 6 => fld 32 32 1
  | 7 => fld 33 33 1
  | 8 => fld 34 34 1
  | 9 => fld 35 35 1
  | _ => 0

/-- A log entry in the sticky record (17 R429, Table 17-9). -/
def State.log (s : State) (kind src sub arg : Nat) : State :=
  let n := bits (s.preg pgSticky 0o031) 0 35
  let o := 0o032 + 2 * (n % 16)
  let s := s.setPreg pgSticky o (fld 0 5 kind ||| fld 6 15 src ||| fld 16 19 sub ||| fld 20 35 arg)
  let s := s.setPreg pgSticky (o + 1) (wd s.pwr.us)
  let s := s.bump pgSticky 0o031 1
  s.orPreg pgSticky 0o020 (sumBits kind sub)

/-- Modify core n. -/
def State.modCore (s : State) (n : Nat) (f : Core → Core) : State := s.setCore n (f (s.core n))

/-- Make a vector pending at a core (17 Table 17-6 INT_PEND; 64 the steward). -/
def State.pendInt (s : State) (n v : Nat) : State :=
  s.modCore n fun k => { k with pend := k.pend ||| BitVec.ofNat 32 (2 ^ (31 - (v - 32))) }

/-- A machine check arrives at a core: it is recorded in the log and waits to be taken; those of classes
4 to 6 merge while one is pending (10 R252, R253). -/
def State.mcheck (s : State) (n cls detail : Nat) : State :=
  let src := if cls = 3 then detail else if n = 64 then pgSys else n
  let s := s.log 1 src cls n
  let s := if cls = 1 ∨ cls = 2 then s.bump pgSticky 0o102 1 else s
  s.modCore n fun k =>
    if 4 ≤ cls ∧ k.mchk.any (fun m => decide (4 ≤ m.cls)) then k
    else { k with mchk := k.mchk ++ [{ cls, detail }] }

/-- Uncorrectable data or a MAC failure met by an engine: a machine check of class 3 at the steward, counted in SR_UE
(10 R252; 14 R345; 17 Table 17-8). -/
def State.engineUe (s : State) (src : Nat) : State := (s.mcheck 64 3 src).bump pgSticky 0o102 1

/-- Draw one free value (log entry 3). -/
def State.draw (s : State) : Nat × State := (s.free, { s with free := s.free + 1 })

/-- Draw n free values, as the index of the first. -/
def State.drawN (s : State) (n : Nat) : Nat × State := (s.free, { s with free := s.free + n })

end Sys2Proof.Machine
end

