-- ==== Sys2Proof/Machine/KeyCache.lean ====
section
/-! DEFINITION. Physical words as their frames hold them, the frames' homes, the key table and the clusters' key caches
(02 R33, R42, R43; 11 R268, R270, R273; 12 R297; 14 R339). -/

namespace Sys2Proof.Machine

/-- The cluster of a ledger core; the steward belongs to none and uses a frame's home cluster (11 R268). -/
def clusterOf (n : Nat) : Nat := n / 8

/-- The cell of a physical word as its frame holds it inside the package: the open copy of a sealed line,
else the stored word. -/
def State.rd (s : State) (pa : Nat) : Cell :=
  if s.opened.any (fun e => e.1 == pa / 16) then tget Cell.zero s.clear pa else tget Cell.zero s.dram pa

/-- Write the cell of a physical word. -/
def State.wr (s : State) (pa : Nat) (c : Cell) : State :=
  if s.opened.any (fun e => e.1 == pa / 16) then
    { s with
      clear := tset Cell.zero s.clear pa c
      opened := s.opened.map fun e => if e.1 == pa / 16 then (e.1, true) else e }
  else { s with dram := tset Cell.zero s.dram pa c }

/-- The sealed window's first frame, its size and the first frame of the seal region (14 Table 14-1). -/
def State.swBase (s : State) : Nat := bits (s.preg pgKiln 0o021) 7 35
def State.swFrames (s : State) : Nat := bits (s.preg pgKiln 0o022) 13 35
def State.srBase (s : State) : Nat := bits (s.preg pgKiln 0o023) 7 35

/-- A frame lies in the sealed window (14 R339). -/
def State.inWindow (s : State) (f : Nat) : Bool := decide (s.swBase ≤ f) && decide (f < s.swBase + s.swFrames)

/-- The key record word of frame f in the key table (11 R268, R273). -/
def State.ktAddr (s : State) (f : Nat) : Nat := bits (s.preg pgSys 0o020) 7 35 * 2048 + f

/-- The cluster memory a frame is placed in: the table holds cluster times 512, plus slot, plus 1 (13 R332; 18
Table 18-4). -/
def State.placed (s : State) (f : Nat) : Option Nat :=
  match tget 0 s.mal.home f with
  | 0 => none
  | c + 1 => some (c / 512)

/-- The home cluster of a frame (12 R297). -/
def State.homeOf (s : State) (f : Nat) : Nat := (s.placed f).getD (f % 8)

/-- A physical word of DRAM that is populated, or held in a cluster memory. Before READY the steward's
ROM and stage two are taken as populated (log entry 9). -/
def State.populated (s : State) (n pa : Nat) : Bool :=
  decide (pa < s.installed) || (decide (pa < 2 ^ 39) && (s.placed (pa / 2048)).isSome) ||
    (decide (n = 64) && decide (s.sys < 6) && decide (pa < 2 ^ 32))

/-- The cluster whose key cache serves an agent (11 R268). -/
def State.kcCluster (s : State) (n f : Nat) : Nat := if n < 64 then clusterOf n else s.homeOf f

/-- A cached key record (11 R268). -/
def State.kcFind (s : State) (cl f : Nat) : Option Word :=
  (s.kcache.find? fun e => e.1 == cl && e.2.1 == f).map fun e => e.2.2

/-- REF and CHG of a record leaving a key cache are ORed into the key table word, whose tag clears (02 R33, R43). -/
def State.kcWriteBack (s : State) (f : Nat) (kr : Word) : State :=
  let pa := s.ktAddr f
  if s.ktWritten ∧ s.populated 64 pa then s.wr pa { w := (s.rd pa).w ||| (kr &&& fld 6 7 3), tag := false }
  else s

/-- Put a record into a key cache as the most recent: 16 ways in the set of the frame number mod 16. -/
def State.kcPut (s : State) (cl f : Nat) (kr : Word) : State :=
  let rest := s.kcache.filter fun e => !(e.1 == cl && e.2.1 == f)
  let set := rest.filter fun e => e.1 == cl && e.2.1 % 16 == f % 16
  if set.length < 16 then { s with kcache := (cl, f, kr) :: rest }
  else
    match set.getLast? with
    | some v =>
      ({ s with kcache := (cl, f, kr) :: rest.filter fun e => e != v }).kcWriteBack v.2.1 v.2.2
    | none => { s with kcache := (cl, f, kr) :: rest }

/-- Remove a frame's record from every key cache, writing back REF and CHG (11 R270). -/
def State.kcDrop (s : State) (f : Nat) : State :=
  let out := s.kcache.filter fun e => e.2.1 == f
  let s := { s with kcache := s.kcache.filter fun e => e.2.1 != f }
  out.foldl (fun s e => s.kcWriteBack f e.2.2) s

/-- A key record that R42 refuses: reserved bits, RDM 3, or SEAL outside the window. -/
def State.badRecord (s : State) (f : Nat) (kr : Word) : Bool :=
  decide (bits kr 21 35 ≠ 0) || decide (bits kr 4 5 = 3) ||
    (decide (bits kr 8 19 ≠ 0) && !s.inWindow f)

/-- The frame's SEAL: from the key cache of its home cluster, else as the key table holds it (11 R268, R273). -/
def State.sealFor (s : State) (f : Nat) : Nat :=
  if s.ktWritten then
    match s.kcFind (s.homeOf f) f with
    | some kr => bits kr 8 19
    | none => bits (s.rd (s.ktAddr f)).w 8 19
  else 0

/-- The SEAL under which core n's buffered store was checked (11 R268, 12 R288). -/
def State.sealSeen (s : State) (n f : Nat) : Nat :=
  if s.ktWritten && s.inWindow f then
    match s.kcFind (s.kcCluster n f) f with
    | some kr => bits kr 8 19
    | none => s.sealFor f
  else 0

/-- The slot of the line that an engine reaches, its frame's record read into the key cache of the home cluster; none
where no record can be read, which the steward learns by a class 3 machine check (11 R268). -/
def State.engineKey (s : State) (pa : Nat) : Option Nat × State :=
  let f := pa / 2048
  if s.ktWritten = false ∨ s.inWindow f = false then (some 0, s)
  else
    let cl := s.homeOf f
    match s.kcFind cl f with
    | some kr => (some (bits kr 8 19), s.kcPut cl f kr)
    | none =>
      if s.populated 64 (s.ktAddr f) then
        let kr := (s.rd (s.ktAddr f)).w
        (some (bits kr 8 19), if s.badRecord f kr then s else s.kcPut cl f kr)
      else (none, s.mcheck 64 3 1023)

end Sys2Proof.Machine
end

