-- ==== Sys2Proof/Machine/Sealing.lean ====
section
/-! DEFINITION. Sealed lines in DRAM, the counter tree and the node cache (14 R339-R349, R362). -/

namespace Sys2Proof.Machine

/-- The stored word of DRAM, as ciphertext where the line is sealed. -/
def State.rawW (s : State) (pa : Nat) : Word := (tget Cell.zero s.dram pa).w

/-- Write a stored word of DRAM with its tag clear. -/
def State.setRawW (s : State) (pa : Nat) (w : Word) : State :=
  { s with dram := tset Cell.zero s.dram pa { w, tag := false } }

/-- A string of `len` bits from bit `start` of the words at `base`, as a number (14 R340). -/
def State.strGet (s : State) (base start len : Nat) : Nat :=
  let a := start / 36
  let n := (start + len - 1) / 36 - a + 1
  let v := (List.range n).foldl (fun r i => r * 2 ^ 36 + (s.rawW (base + a + i)).toNat) 0
  v / 2 ^ (36 * (a + n) - (start + len)) % 2 ^ len

/-- Write a string of bits. -/
def State.strSet (s : State) (base start len v : Nat) : State :=
  (List.range len).foldl
    (fun s i =>
      let p := start + i
      let w := s.rawW (base + p / 36)
      s.setRawW (base + p / 36) (setBit w (p % 36) (v.testBit (len - 1 - i))))
    s

/-- The group of a window frame and its place there (14 R340). -/
def State.groupOf (s : State) (f : Nat) : Nat := (f - s.swBase) / 512
def State.groupPos (s : State) (f : Nat) : Nat := (f - s.swBase) % 512

/-- The seal region words of a window frame (14 R340). -/
def State.sealWords (s : State) (f : Nat) : Nat := s.srBase * 2048 + 256 * (f - s.swBase)

/-- The tree area frame of a group (14 R340). -/
def State.treeWords (s : State) (g : Nat) : Nat := (s.srBase + s.swFrames / 8 + g) * 2048

/-- The MAC and MIN of line j of a frame, and all MINs. -/
def State.lineMac (s : State) (f j : Nat) : Nat := s.strGet (s.sealWords f) (56 * j) 56
def State.lineMin (s : State) (f j : Nat) : Nat := s.strGet (s.sealWords f) (7168 + 16 * j) 16
def State.lineMins (s : State) (f : Nat) : List Nat := (List.range 128).map (s.lineMin f)

/-- The root entry of a group. -/
def Root.empty : Root := { fmt := false, gctr := 0, salt := 0 }
def State.rootOf (s : State) (g : Nat) : Root := tget Root.empty s.kiln.root g

/-- An empty key slot. -/
def KeySlot.empty : KeySlot := { st := 0, ktype := 0, octets := [] }
def State.slotOf (s : State) (n : Nat) : KeySlot := tget KeySlot.empty s.kiln.slots n

/-- The octets of a slot's key from a to b. -/
def KeySlot.part (k : KeySlot) (a n : Nat) : List Nat := ((k.octets.drop a).take n).map BitVec.toNat

/-- A slot that is not loaded (14 R267 step 3, R350). -/
def State.slotEmpty (s : State) (n : Nat) : Bool := decide ((s.slotOf n).st ≠ 1)

/-- n free octets from draw i on (log entry 3). -/
def freeOctets (i n : Nat) : List Octet := (List.range n).map fun k => BitVec.ofNat 8 (Config.free (i + k))

/-- The leftmost 56 bits of the CMAC under K_TREE of a message of `bits` bits, padded on the right with zeros to octets.
DESIGN CHOICE: a frame or group number is packed as 36 bits and every other field at its width, in the order of the table
(14 Table 14-2, as R343; log entry 63). -/
def State.treeMac (s : State) (bits v : Nat) : Nat :=
  let pad := (8 - bits % 8) % 8
  beNat ((cmac (s.kiln.ktree.map BitVec.toNat) (beOctets ((bits + pad) / 8) (v * 2 ^ pad))).take 7)

/-- FMAC of a frame node (14 Table 14-2). -/
def State.frameMac (s : State) (f maj : Nat) (mins : List Nat) (fctr salt : Nat) : Nat :=
  let head := f % 2 ^ 36 * 2 ^ 12 + maj
  let body := mins.foldl (fun r m => r * 2 ^ 16 + m) head
  s.treeMac 2160 ((body * 2 ^ 28 + fctr) * 2 ^ 36 + salt)

/-- GMAC of a group node (14 Table 14-2). -/
def State.groupMac (s : State) (g : Nat) (fctrs : List Nat) (gctr salt : Nat) : Nat :=
  let body := fctrs.foldl (fun r c => r * 2 ^ 28 + c) (g % 2 ^ 36)
  s.treeMac 14436 ((body * 2 ^ 28 + gctr) * 2 ^ 36 + salt)

/-- A cached group or frame node. -/
def State.gnode (s : State) (g : Nat) : Option GNode := s.kiln.gnodes.find? fun n => n.group == g
def State.fnode (s : State) (f : Nat) : Option FNode := s.kiln.fnodes.find? fun n => n.frame == f

/-- Keep a group node as the most recent. -/
def State.putG (s : State) (n : GNode) : State :=
  { s with kiln := { s.kiln with gnodes := n :: s.kiln.gnodes.filter (fun m => m.group != n.group) } }

/-- Keep a frame node as the most recent. -/
def State.putF (s : State) (n : FNode) : State :=
  { s with kiln := { s.kiln with fnodes := n :: s.kiln.fnodes.filter (fun m => m.frame != n.frame) } }

/-- A kiln event and its vector 38 where enabled (14 Table 14-1 KEV, KEV_EN). -/
def State.kev (s : State) (b : Nat) : State :=
  let s := s.orPreg pgKiln 0o032 (fld b b 1)
  if bit (s.preg pgKiln 0o033) b then s.pendInt 64 38 else s

/-- A counter is exhausted: a refresh of the group begins, or waits for the one running (14 R347). -/
def State.needRefresh (s : State) (g : Nat) : State :=
  if s.kiln.refresh.isSome then s else { s with kiln := { s.kiln with refresh := some g } }.kev 32

/-- MACFAIL advances (14 R345). -/
def State.macFail (s : State) : State := s.bump pgKiln 0o035 1

/-- Write a group node back: its parent's counter advances at that write (14 R345), and its last 8 bits
and the rest of the frame are zero (R340); where GCTR is exhausted the node stays cached for the refresh (R347). -/
def State.writeG (s : State) (n : GNode) : State :=
  let r := s.rootOf n.group
  if r.gctr + 1 ≥ 2 ^ 28 then (s.putG n).needRefresh n.group
  else
    let r := { r with gctr := r.gctr + 1 }
    let s := { s with kiln := { s.kiln with root := tset Root.empty s.kiln.root n.group r } }
    let fs := (List.range 512).map (tget 0 n.fctrs)
    let base := s.treeWords n.group
    let s := (List.range 512).foldl (fun s k => s.strSet (base + 1024) (28 * k) 28 (tget 0 n.fctrs k)) s
    let s := s.strSet (base + 1024) 14336 56 (s.groupMac n.group fs r.gctr r.salt)
    (List.range 624).foldl (fun s i => s.setRawW (base + 1424 + i) 0) (s.strSet (base + 1024) 14392 8 0)

/-- Room in the node cache of 64 group nodes for that of group g: the oldest is evicted (14 R345). -/
def State.roomG (s : State) (g : Nat) : State :=
  if (s.gnode g).isSome ∨ s.kiln.gnodes.length < 64 then s
  else
    match s.kiln.gnodes.getLast? with
    | some v =>
      let s := { s with kiln := { s.kiln with gnodes := s.kiln.gnodes.dropLast } }
      if v.dirty then s.writeG v else s
    | none => s

/-- The FCTRs stored in the tree area for a group. -/
def State.storedFctrs (s : State) (g : Nat) : List Nat :=
  (List.range 512).map fun k => s.strGet (s.treeWords g + 1024) (28 * k) 28

/-- Bring a group node into the node cache of 64, verified against the root; none where the check fails. -/
def State.fetchG (s : State) (g : Nat) : Option State :=
  match s.gnode g with
  | some n => some (s.putG n)
  | none =>
    let r := s.rootOf g
    let fs := s.storedFctrs g
    if s.strGet (s.treeWords g + 1024) 14336 56 = s.groupMac g fs r.gctr r.salt then
      let tab := (List.range 512).foldl (fun t k => tset 0 t k (fs.getD k 0)) []
      some ((s.roomG g).putG { group := g, fctrs := tab, dirty := false })
    else none

/-- FCTR of a frame as its cached group node holds it. -/
def State.fctrOf (s : State) (f : Nat) : Nat :=
  match s.gnode (s.groupOf f) with
  | some n => tget 0 n.fctrs (s.groupPos f)
  | none => 0

/-- Write a frame node back: FCTR in the group node advances at that write (14 R345); where FCTR is exhausted the node
stays cached for the refresh (R347). Where the group node fails its check that is a failed check of the Kiln's own read,
and the node is lost. -/
def State.writeF (s : State) (n : FNode) : State :=
  match s.fetchG (s.groupOf n.frame) with
  | none => s.macFail.engineUe pgKiln
  | some s =>
    let g := s.groupOf n.frame
    let k := s.groupPos n.frame
    let c := s.fctrOf n.frame + 1
    if c ≥ 2 ^ 28 then (s.putF n).needRefresh g
    else
      let s :=
        match s.gnode g with
        | some gn => s.putG { gn with fctrs := tset 0 gn.fctrs k c, dirty := true }
        | none => s
      let mac := s.frameMac n.frame n.maj (s.lineMins n.frame) c (s.rootOf g).salt
      let base := s.treeWords g + 2 * k
      ((s.strSet base 0 12 n.maj).strSet base 12 56 mac).strSet base 68 4 0

/-- Room in the node cache of 1,024 frame nodes for that of frame f: the oldest is evicted (14 R345). -/
def State.roomF (s : State) (f : Nat) : State :=
  if (s.fnode f).isSome ∨ s.kiln.fnodes.length < 1024 then s
  else
    match s.kiln.fnodes.getLast? with
    | some v =>
      let s := { s with kiln := { s.kiln with fnodes := s.kiln.fnodes.dropLast } }
      if v.dirty then s.writeF v else s
    | none => s

/-- Bring a frame node and its group node into the node cache, each verified against its parent. -/
def State.fetchF (s : State) (f : Nat) : Option State :=
  match s.fetchG (s.groupOf f) with
  | none => none
  | some s =>
    match s.fnode f with
    | some n => some (s.putF n)
    | none =>
      let g := s.groupOf f
      let base := s.treeWords g + 2 * s.groupPos f
      let maj := s.strGet base 0 12
      if s.strGet base 12 56 =
          s.frameMac f maj (s.lineMins f) (s.fctrOf f) (s.rootOf g).salt then
        some ((s.roomF f).putF { frame := f, maj, dirty := false })
      else none

/-- MAJ of a frame as its cached node holds it. -/
def State.majOf (s : State) (f : Nat) : Nat := ((s.fnode f).map FNode.maj).getD 0

/-- The 576 data bits and the 16 tag bits of a line as cells (14 R342). -/
def cellsNat (l : List Cell) : Nat := l.foldl (fun r c => r * 2 ^ 36 + c.w.toNat) 0
def cellsTags (l : List Cell) : Nat := l.foldl (fun r c => r * 2 + c.tag.toNat) 0

/-- A line's MAC (14 R343): ciphertext and tags as numbers. -/
def lineMacOf (k : KeySlot) (line ctr salt ct tags : Nat) : Nat :=
  let v := ((((line % 2 ^ 36 * 2 ^ 28 + ctr) * 2 ^ 36 + salt) * 2 ^ 576 + ct) * 2 ^ 16 + tags) * 2 ^ 12
  beNat ((cmac (k.part 64 32) (beOctets 88 v)).take 7)

/-- The stored cells of a line. -/
def State.rawLine (s : State) (line : Nat) : List Cell :=
  (List.range 16).map fun i => tget Cell.zero s.dram (line * 16 + i)

/-- The seal counter of a line whose frame node is cached (14 R343). -/
def State.lineCtr (s : State) (f j : Nat) : Nat := s.majOf f * 2 ^ 16 + s.lineMin f j

/-- What the opening of a sealed line found. -/
inductive Opening where
  | opened (s : State)
  | keyFault
  | checkFailed (s : State)
  deriving Repr

/-- Read a line of a sealed frame into the package (14 R345): slot `sl` is its frame's. -/
def State.kilnOpen (s : State) (line sl : Nat) : Opening :=
  let f := line / 128
  let j := line % 128
  let g := s.groupOf f
  if (s.rootOf g).fmt = false ∨ s.slotEmpty sl then .keyFault
  else
    match s.fetchF f with
    | none => .checkFailed s.macFail
    | some s =>
      let raw := s.rawLine line
      let k := s.slotOf sl
      let ct := cellsNat raw
      if lineMacOf k line (s.lineCtr f j) (s.rootOf g).salt ct (cellsTags raw) = s.lineMac f j then
        let p := beNat (xtsDec (k.part 0 32) (k.part 32 32) line (beOctets 72 ct))
        let clear := (List.range 16).foldl
          (fun t i =>
            tset Cell.zero t (line * 16 + i)
              { w := wd (p / 2 ^ (36 * (15 - i))), tag := (raw.getD i Cell.zero).tag }) s.clear
        .opened { s with clear, opened := s.opened ++ [(line, false)] }
      else .checkFailed s.macFail

/-- Recompute the MAC of a line from its stored ciphertext under its present counter. -/
def State.remac (s : State) (f j sl : Nat) : State :=
  let line := f * 128 + j
  let raw := s.rawLine line
  let m := lineMacOf (s.slotOf sl) line (s.lineCtr f j) (s.rootOf (s.groupOf f)).salt (cellsNat raw)
    (cellsTags raw)
  s.strSet (s.sealWords f) (56 * j) 56 m

/-- A line of a frame that was given its SEAL while the package held the line in clear: it stands open as it is, to be
sealed where it is `dirty` (01 R9, 14 R349). -/
def State.takeOpen (s : State) (line : Nat) (dirty : Bool) : State :=
  if s.opened.any fun e => e.1 == line then s
  else
    let clear := (List.range 16).foldl
      (fun t i => tset Cell.zero t (line * 16 + i) (tget Cell.zero s.dram (line * 16 + i))) s.clear
    { s with clear, opened := s.opened ++ [(line, dirty)] }

/-- The open cells of a line, dropped from the package. -/
def State.dropOpen (s : State) (line : Nat) : State :=
  { s with
    opened := s.opened.filter fun e => e.1 != line
    clear := s.clear.filter fun e => e.1 / 16 != line }

/-- An open line that now equals what DRAM holds. -/
def State.cleanOpen (s : State) (line : Nat) : State :=
  { s with opened := s.opened.map fun e => if e.1 == line then (line, false) else e }

/-- The lines of a frame whose MAC verifies under the present counters. -/
def State.goodLines (s : State) (f sl : Nat) : List Nat :=
  (List.range 128).filter fun j =>
    let raw := s.rawLine (f * 128 + j)
    decide (lineMacOf (s.slotOf sl) (f * 128 + j) (s.lineCtr f j) (s.rootOf (s.groupOf f)).salt (cellsNat raw)
      (cellsTags raw) = s.lineMac f j)

/-- The MINs of a frame set to zero in the seal region. -/
def State.clearMins (s : State) (f : Nat) : State :=
  (List.range 128).foldl (fun s i => s.strSet (s.sealWords f) (7168 + 16 * i) 16 0) s

/-- Every MIN of a frame zero, with its MAJ. -/
def State.zeroMins (s : State) (f maj : Nat) : State :=
  ((s.roomF f).putF { frame := f, maj, dirty := true }).clearMins f

/-- MIN of a line advanced; where it would wrap, MAJ advances, every MIN is 0, the frame is re-MACed and then the line's
MIN is 1; none where that exhausts MAJ (14 R345, Table 14-3). A line whose MAC did not verify keeps it. -/
def State.advanceMin (s : State) (f j sl : Nat) : Option State :=
  let m := s.lineMin f j
  if m + 1 < 2 ^ 16 then some (s.strSet (s.sealWords f) (7168 + 16 * j) 16 (m + 1))
  else if s.majOf f + 1 < 2 ^ 12 then
    let good := s.goodLines f sl
    let s := good.foldl (fun s i => s.remac f i sl) (s.zeroMins f (s.majOf f + 1))
    some (s.strSet (s.sealWords f) (7168 + 16 * j) 16 1)
  else none

/-- One frame of a group as its refresh finds it: none where its node does not verify, else its slot, with the lines of
a sealed frame that verify. -/
def State.refreshFrame (s : State) (f : Nat) : Option (Nat × List Nat) × State :=
  match s.fetchF f with
  | none => (none, s.macFail.engineUe pgKiln)
  | some s =>
    let sl := s.sealFor f
    (some (sl, if s.slotEmpty sl then [] else s.goodLines f sl), s)

/-- A frame's counters become 0 under the new SALT and its lines are re-MACed; of a frame whose node did not verify the
node keeps its FMAC, so that it goes on failing (14 R345, R347). -/
def State.renewFrame (s : State) (f : Nat) : Option (Nat × List Nat) → State
  | some (sl, js) => js.foldl (fun s j => s.remac f j sl) (s.zeroMins f 0)
  | none => (s.clearMins f).strSet (s.treeWords (s.groupOf f) + 2 * s.groupPos f) 0 12 0

/-- Group refresh (14 Table 14-3): a new SALT, every counter of the group 0, every line of every sealed frame that
verifies under the old SALT re-MACed under the new one, in ascending order. -/
def State.groupRefresh (s : State) (g : Nat) : State :=
  match s.fetchG g with
  | none => s.macFail.engineUe pgKiln
  | some s =>
    let (fs, s) := (List.range 512).foldl
      (fun r k =>
        let f := r.2.swBase + 512 * g + k
        let (x, s) := r.2.refreshFrame f
        (r.1 ++ [(f, x)], s)) (([] : List (Nat × Option (Nat × List Nat))), s)
    let (i, s) := s.draw
    let s := { s with
      kiln := { s.kiln with
        root := tset Root.empty s.kiln.root g { fmt := (s.rootOf g).fmt, gctr := 0, salt := Config.free i % 2 ^ 36 }
        fnodes := s.kiln.fnodes.filter fun (n : FNode) => s.groupOf n.frame != g } }
    let s := s.putG { group := g, fctrs := [], dirty := true }
    fs.foldl (fun s e => s.renewFrame e.1 e.2) s

/-- A dirty line that cannot be sealed any more is discarded (14 R362). -/
def State.discardLine (s : State) (line sl : Nat) : State :=
  let s := (s.dropOpen line).kev 34
  (s.log 8 pgKiln 0 sl).bump pgSticky 0o106 1

/-- A line sealed and written under slot sl with the present counters, its frame node in the node cache (14 R342, R343,
R345). -/
def State.sealLine (s : State) (line sl : Nat) (cells : List Cell) : State :=
  let f := line / 128
  let k := s.slotOf sl
  let ct := beNat (xtsEnc (k.part 0 32) (k.part 32 32) line (beOctets 72 (cellsNat cells)))
  let dram := (List.range 16).foldl
    (fun t i =>
      tset Cell.zero t (line * 16 + i)
        { w := wd (ct / 2 ^ (36 * (15 - i))), tag := (cells.getD i Cell.zero).tag }) s.dram
  let s := { s with dram }
  let s :=
    match s.fnode f with
    | some n => s.putF { n with dirty := true }
    | none => s
  s.remac f (line % 128) sl

/-- A dirty open line is written to DRAM: sealed, kept open where its counters are exhausted until the refresh ends,
plain where its frame is no longer sealed, or discarded where its slot has emptied or its group is no longer formatted
(14 R345, R347, R349, R362). `keep` tells that the package keeps it in clear. -/
def State.kilnWrite (s : State) (line : Nat) (keep : Bool) : State :=
  match s.opened.find? fun e => e.1 == line with
  | none => s
  | some (_, false) => if keep then s else s.dropOpen line
  | some (_, true) =>
    let f := line / 128
    let sl := s.sealFor f
    let cells := (List.range 16).map fun i => tget Cell.zero s.clear (line * 16 + i)
    if sl = 0 then cells.zipIdx.foldl (fun s ci => s.wr (line * 16 + ci.2) ci.1) (s.dropOpen line)
    else if s.slotEmpty sl ∨ (s.rootOf (s.groupOf f)).fmt = false then s.discardLine line sl
    else
      match s.fetchF f with
      | none => (s.macFail.engineUe pgKiln).discardLine line sl
      | some s =>
        match s.advanceMin f (line % 128) sl with
        | none => s.needRefresh (s.groupOf f)
        | some s => (if keep then s.cleanOpen line else s.dropOpen line).sealLine line sl cells

/-- An open line leaves the package. -/
def State.kilnClose (s : State) (line : Nat) : State := s.kilnWrite line false

end Sys2Proof.Machine
end

