-- ==== Sys2Proof/Machine/Regs.lean ====
section
/-! DEFINITION. The registers of one core: banks, windows, tokens, PSW, exposed distances (03 R50, R61, R65;
09 R200-R206; 11 R256). -/

namespace Sys2Proof.Machine

/-- PSW.BANK and PSW.CWP (09 Table 09-2). -/
def Core.bank (k : Core) : Nat := bits k.psw 18 19
def Core.cwp (k : Core) : Nat := bits k.psw 20 23

/-- The core runs in a trap window (09 Table 09-1). -/
def Core.inTrap (k : Core) : Bool :=
  (decide (k.bank = 0) && decide (k.cwp = 11)) || (decide (k.bank = 1) && decide (k.cwp = 3))

/-- The ring of the current bank and its size. -/
def Core.ring (k : Core) : Ring := if k.bank = 0 then k.tRing else k.hRing
def Core.ringSize (k : Core) : Nat := if k.bank = 0 then 11 else 3

/-- The victim window of a live window trap (09 R207). -/
def Core.victim (k : Core) : Nat :=
  let h := if k.bank = 0 then k.hidT else k.hidH
  if h.under then (k.ring.cwp + k.ringSize - 1) % k.ringSize else k.ring.old

/-- The place in the register table of general register r of the current bank; none where the bank has no
such register (09 R200, R204, R207; 03 R50). -/
def Core.loc (k : Core) (r : Nat) : Option Nat :=
  match k.bank with
  | 0 =>
    if r < 8 then some r
    else if k.cwp = 11 then some (if r < 24 then 64 + 16 * k.victim + (r - 8) else 32 + (r - 24))
    else some (if r < 24 then 64 + 16 * k.cwp + (r - 8) else 64 + 16 * ((k.cwp + 1) % 11) + (r - 24))
  | 1 =>
    if r < 8 then some (8 + r)
    else if k.cwp = 3 then some (if r < 24 then 256 + 16 * k.victim + (r - 8) else 40 + (r - 24))
    else some (if r < 24 then 256 + 16 * k.cwp + (r - 8) else 256 + 16 * ((k.cwp + 1) % 3) + (r - 24))
  | 2 => if r < 8 then some (16 + r) else none
  | _ => if r < 8 then some (24 + r) else none

/-- G0 of banks T and H reads zero and discards writes (03 R50). -/
def Core.isZero (k : Core) (r : Nat) : Bool := decide (r = 0) && decide (k.bank ≤ 1)

/-- General register r as the current bank names it. -/
def Core.g (k : Core) (r : Nat) : Word :=
  if k.isZero r then 0
  else
    match k.loc r with
    | some l => tget 0 k.regs l
    | none => 0

/-- The dirty bit of a task group set by a write in bank T: 8 W, 4 D, 2 V, 1 C (09 R228). -/
def Core.touch (k : Core) (grp : BitVec 4) : Core :=
  if k.bank = 0 then { k with tdrt := k.tdrt ||| grp } else k

/-- Write general register r of the current bank. -/
def Core.setG (k : Core) (r : Nat) (v : Word) : Core :=
  if k.isZero r then k
  else
    match k.loc r with
    | some l => { (k.touch 8) with regs := tset 0 k.regs l v }
    | none => k

/-- C0 of the current bank (09 R201). -/
def Core.c0 (k : Core) : Tok :=
  match k.bank with
  | 0 => k.c0T
  | 1 => k.c0H
  | 2 => k.c0F
  | _ => k.c0E

/-- Token register n; 0 names the current bank's C0. -/
def Core.tok (k : Core) (n : Nat) : Tok := if n = 0 then k.c0 else tget Tok.clear k.c n

/-- The access key of a token (02 Table 02-8). -/
def Tok.key (t : Tok) : Nat := bits t.a 13 16

/-- The domain ID of a domain token, which is also its ASID (11 R256). -/
def Tok.dom (t : Tok) : Nat := bits t.a 24 35

/-- The SYSTEM right (02 Table 02-8). -/
def Tok.system (t : Tok) : Bool := bit t.a 11

/-- PSW with KEY mirroring the C0 of the bank it names (09 R201). -/
def Core.mirrorKey (k : Core) : Core := { k with psw := setBits k.psw 4 7 k.c0.key }

/-- Put a token into the C0 of the current bank. -/
def Core.setC0 (k : Core) (t : Tok) : Core :=
  (match k.bank with
    | 0 => { k with c0T := t }
    | 1 => { k with c0H := t }
    | 2 => { k with c0F := t }
    | _ => { k with c0E := t }).mirrorKey

/-- Write token register n of C1 to C15. -/
def Core.setTok (k : Core) (n : Nat) (t : Tok) : Core :=
  { (k.touch 1) with c := tset Tok.clear k.c n t }

/-- The oldest value still seen of something an exposed distance covers (03 R65). -/
def Core.shadowOf (k : Core) (e : Exposed) : Option Shadow :=
  k.shadow.find? fun x => decide (x.what = e) && decide (0 < x.left)

/-- PSW as the next instruction sees it (03 Table 03-7). -/
def Core.seenPsw (k : Core) : Word :=
  match k.shadowOf .psw with
  | some x => x.old
  | none => k.psw

/-- The domain token in force for the next instruction (03 Table 03-7, 11 R256). -/
def Core.domTok (k : Core) : Tok :=
  match k.shadowOf .c0 with
  | some x => x.oldTok
  | none => k.c0

/-- A change is committed and stays unseen for `left` parcels, its own included (03 R65, R66). -/
def Core.expose (k : Core) (what : Exposed) (old : Word) (oldTok : Tok) (left : Nat) : Core :=
  { k with shadow := k.shadow ++ [{ what, old, oldTok, left }] }

/-- Set a field of PSW at once, for every instruction that follows. -/
def Core.setPsw (k : Core) (a b v : Nat) : Core :=
  { k with
    psw := setBits k.psw a b v
    shadow := k.shadow.map fun (x : Shadow) => if x.what = .psw then { x with old := setBits x.old a b v } else x }

/-- A data-side change of the TLB applied (11 R276, R278). -/
def tlbSpan (size : BitVec 2) : Nat := match size.toNat with | 0 => 11 | 1 => 17 | _ => 23

/-- An entry covers a virtual word under an ASID (11 R275). -/
def TlbEntry.hits (e : TlbEntry) (va asid : Nat) : Bool :=
  e.valid && (e.g || decide (e.asid.toNat = asid)) &&
    decide (va / 2 ^ tlbSpan e.size = e.va.toNat / 2 ^ tlbSpan e.size)

/-- An entry that is not valid. -/
def TlbEntry.none : TlbEntry :=
  { valid := false, va := 0, size := 0, g := false, asid := 0, pfn := 0, r := false, w := false,
    x := false, u := false, c := false, dev := false, wt := false }

/-- Two entries overlap and could match the same ASID (11 R276). -/
def TlbEntry.overlaps (e f : TlbEntry) : Bool :=
  let n := max (tlbSpan e.size) (tlbSpan f.size)
  e.valid && (e.g || f.g || decide (e.asid = f.asid)) && decide (e.va.toNat / 2 ^ n = f.va.toNat / 2 ^ n)

/-- One change applied to the entries of a side. -/
def tlbApply (t : Tab TlbEntry) (c : TlbChange) : Tab TlbEntry :=
  match c with
  | .write idx e => tset TlbEntry.none (t.filter fun x => !x.2.overlaps e) idx e
  | .invIndex idx => tdel t idx
  | .invAsid asid => t.filter fun x => x.2.g || decide (x.2.asid ≠ asid)
  | .invAll => []
  | .invAddr asid va => t.filter fun x => !x.2.hits va.toNat asid.toNat

/-- Data-side changes whose distance has run out take effect, in order (03 Table 03-7). -/
def Core.settleData (k : Core) : Core :=
  { k with
    dtlb := (k.dtlbPend.filter fun p => p.2 == 0).foldl (fun t p => tlbApply t p.1) k.dtlb
    dtlbPend := k.dtlbPend.filter fun p => p.2 != 0
    idD := k.idD && decide (k.idDEnd ≠ some 0)
    idDEnd := if k.idDEnd = some 0 then none else k.idDEnd }

/-- n parcels have gone by (03 R65). -/
def Core.age (k : Core) (n : Nat) : Core :=
  ({ k with
    shadow := (k.shadow.map fun (x : Shadow) => { x with left := x.left - n }).filter fun x => decide (0 < x.left)
    dtlbPend := k.dtlbPend.map fun (p : TlbChange × Nat) => (p.1, p.2 - n)
    idDEnd := k.idDEnd.map fun d => d - n }).settleData

/-- Every pending distance ends (03 R66, 11 R279). -/
def Core.settleAll (k : Core) : Core :=
  ({ k with
    shadow := []
    dtlbPend := k.dtlbPend.map fun (p : TlbChange × Nat) => (p.1, 0)
    idDEnd := k.idDEnd.map fun _ => 0 }).settleData

/-- Instruction-side changes take effect with IFLUSH (12 R299, 18 R436). -/
def Core.settleInstr (k : Core) : Core :=
  { k with
    itlb := k.itlbPend.foldl tlbApply k.itlb
    itlbPend := []
    idI := k.idI && !k.idIEnd
    idIEnd := false }

/-- The flags N, Z, V, C as the next instruction reads them (03 Table 03-7). -/
def Core.flagN (k : Core) : Bool := bit k.seenPsw 0
def Core.flagZ (k : Core) : Bool := bit k.seenPsw 1
def Core.flagV (k : Core) : Bool := bit k.seenPsw 2
def Core.flagC (k : Core) : Bool := bit k.seenPsw 3

/-- WSTATE (09 Table 09-14). -/
def Core.wstate (k : Core) : Word :=
  fld 0 3 k.tRing.cwp ||| fld 4 7 k.tRing.res ||| fld 8 11 k.tRing.old ||| fld 12 13 k.hRing.cwp |||
    fld 14 15 k.hRing.res ||| fld 16 17 k.hRing.old ||| fld 18 25 k.depth

/-- H.G7, the handler stack pointer (09 R202). -/
def Core.hg7 (k : Core) : Word := tget 0 k.regs 15

/-- Bank register DBn (03 R55). -/
def Core.dbn (k : Core) (n : Nat) : Nat := bits (tget 0 k.db n) 20 35

/-- IB as a MOV reads it back: the value most recently written (03 R61). -/
def Core.ibRead (k : Core) : Word := k.ibHeld.getD k.ib

/-- A transfer that sets the live IB from its target and discards a held value (03 R60). -/
def Core.ibFrom (k : Core) (target : Word) : Core := { k with ib := wd (bits target 0 15), ibHeld := none }

/-- Decimal accumulator n: plus zero is its default (02 R25, 05 R102). -/
def Core.acc (k : Core) (n : Nat) : Acc := tget 12 k.da n
def Core.setAcc (k : Core) (n : Nat) (a : Acc) : Core :=
  { (k.touch 4) with da := tset 12 k.da n a }

/-- Vector register n (08 R182). -/
def Core.vreg (k : Core) (n : Nat) : VReg := tget 0 k.v n
def Core.setV (k : Core) (n : Nat) (v : VReg) : Core :=
  { (k.touch 2) with v := tset 0 k.v n v }

end Sys2Proof.Machine
end

