-- ==== Sys2Proof/Machine/Ops.lean ====
section
/-! DEFINITION. The operations the meanings of a core's instructions are made of: why one stops, accesses to
memory with translation, rights and keys, the caches and the store buffer (11 R260, R267-R269; 12 R284-R297). -/

namespace Sys2Proof.Machine

/-- What an instruction raises: vector, CAUSE's SUB and DETAIL, the word for BADINS, and for vectors 6 to
10 the access (instruction side, word address, ASID, whether a TLB miss) (10 R231-R238). -/
structure Exc where
  vec : Nat
  sub : Nat
  detail : Nat
  badins : Option Word
  tlb : Option (Bool × Nat × Nat × Bool)
  deriving DecidableEq, Repr

/-- Why an instruction does not complete: an exception, or a wait. -/
inductive Stop where
  | trap (x : Exc)
  | wait (w : Why)
  deriving DecidableEq, Repr

/-- The meaning of an instruction's body; a stop keeps the state reached. -/
abbrev M (α : Type) := EStateM Stop State α

/-- Raise an exception. -/
def raise {α : Type} (vec sub detail : Nat) : M α :=
  throw (.trap { vec, sub, detail, badins := none, tlb := none })

/-- Wait for something. -/
def await {α : Type} (w : Why) : M α := throw (.wait w)

/-- Core n. -/
def getC (n : Nat) : M Core := do return (← get).core n

/-- Modify core n. -/
def modC (n : Nat) (f : Core → Core) : M Unit := modify (·.modCore n f)

/-- General register r of core n. -/
def gr (n r : Nat) : M Word := do return (← getC n).g r

/-- Write general register r of core n. -/
def setGr (n r : Nat) (v : Word) : M Unit := modC n (·.setG r v)

/-- DETAIL of a role and an offset, and of a role and a register (10 R238). -/
def roleOff (role off : Nat) : Nat := role * 128 + min off 127
def roleReg (role r : Nat) : Nat := role * 128 + r

/-- Alignment of an operand pointer (10 Table 10-3). -/
def alignFault {α : Type} (role r : Nat) : M α := raise 11 0 (roleReg role r)

/-- Raise where a condition fails. -/
def require (ok : Bool) (x : M Unit) : M Unit := if ok then pure () else x

/-- Kinds of access (11 R267). -/
inductive AKind where
  | read | write | fetch
  deriving DecidableEq, Repr

/-- How an access is made: whether the form may reach a DEV page, whether it is a cross access, and whether
it fills what it misses itself (control-store instructions and hardware transfers). -/
structure AOpt where
  devOk : Bool
  cross : Bool
  inline : Bool
  deriving DecidableEq, Repr

/-- A translated and checked access: the physical word, the page's attributes, the frame's SEAL, and
whether the fabric answers with an error (11 R268, R269 step 5). -/
structure Phys where
  pa : Nat
  c : Bool
  wt : Bool
  dev : Bool
  sl : Nat
  bad : Bool
  deriving DecidableEq, Repr

/-- The key lets the access through (11 R267 step 2). -/
def keyMatches (key : Nat) (kr : Word) (kind : AKind) : Bool :=
  let rdm := bits kr 4 5
  decide (key = 0) || decide (bits kr 0 3 = 0) || decide (bits kr 0 3 = key) ||
    (match kind with
      | .read => decide (rdm = 0)
      | .fetch => decide (rdm = 0) || decide (rdm = 2)
      | .write => false)

/-- What a key check finds. -/
inductive KeyCheck where
  | pass (sl : Nat) (s : State)
  | reserved
  | refused (s : State)
  | noTable
  | missing (cl : Nat)
  deriving Repr

/-- The checks of R267 by agent n on a frame, reading the record where `fill` allows; REF and CHG are set
in the cached copy when they pass (02 R43; 18 R436 before KT_BASE is written). A record that refuses the access is in
the cache all the same (11 R268). -/
def State.keyCheck (s : State) (n f key : Nat) (kind : AKind) (fill : Bool) : KeyCheck :=
  if s.ktWritten then
    let cl := s.kcCluster n f
    let go (kr : Word) : KeyCheck :=
      if s.badRecord f kr then .reserved
      else
        let ok := keyMatches key kr kind
        let s := s.kcPut cl f (if ok then
            kr ||| fld 6 6 1 ||| (if kind = .write then fld 7 7 1 else 0) else kr)
        if ok then
          (if bits kr 8 19 ≠ 0 ∧ s.slotEmpty (bits kr 8 19) then .refused s else .pass (bits kr 8 19) s)
        else .refused s
    match s.kcFind cl f with
    | some kr => go kr
    | none =>
      if !s.populated 64 (s.ktAddr f) then .noTable
      else
        let kr := (s.rd (s.ktAddr f)).w
        if fill || s.badRecord f kr then go kr else .missing cl
  else .pass 0 s

/-- The translation of a virtual word for core n (11 R275, 18 R436). -/
def Core.lookup (k : Core) (kind : AKind) (va asid : Nat) : Option TlbEntry :=
  let instr := decide (kind = .fetch)
  if (if instr then k.idI else k.idD) then
    some { TlbEntry.none with
      valid := true, pfn := BitVec.ofNat 29 (va / 2048), r := true, w := true, x := true, c := true }
  else ((if instr then k.itlb else k.dtlb).find? fun e => e.2.hits va asid).map (·.2)

/-- The physical word an entry gives. -/
def TlbEntry.phys (e : TlbEntry) (va : Nat) : Nat := e.pfn.toNat * 2048 + va % 2 ^ tlbSpan e.size

/-- Raise one of vectors 6 to 10 for an access. -/
def accessFault {α : Type} (vec sub : Nat) (kind : AKind) (va asid role off : Nat) (miss : Bool) : M α :=
  throw (.trap
    { vec, sub, detail := roleOff role off, badins := none
      tlb := some (decide (kind = .fetch), va, asid, miss) })

/-- A translated access of core n under domain token dom, steps 1 to 5 of R269; sub is CAUSE.SUB of the
access, role and off name its operand (10 Table 10-3). -/
def access (n : Nat) (dom : Tok) (kind : AKind) (sub : Nat) (o : AOpt) (va role off : Nat) : M Phys := do
  let k ← getC n
  let asid := dom.dom
  match k.lookup kind va asid with
  | none => accessFault (if kind = .fetch then 7 else 8) sub kind va asid role off true
  | some e =>
    let right := match kind with
      | .read => e.r
      | .write => e.w
      | .fetch => e.x
    let user := o.cross || !dom.system
    if !right || (user && !e.u) || (e.dev && !o.devOk) then accessFault 9 sub kind va asid role off false
    else if dom.system && e.u && !o.cross then accessFault 10 sub kind va asid role off false
    else
      let pa := e.phys va
      if e.dev then return { pa, c := false, wt := false, dev := true, sl := 0, bad := false }
      else
        match (← get).keyCheck n (pa / 2048) dom.key kind o.inline with
        | .reserved => raise 4 6 (roleOff role off)
        | .refused s =>
          set s
          accessFault 6 sub kind va asid role off false
        | .missing cl => await (.keyRecord cl (pa / 2048))
        | .noTable =>
          modify (·.mcheck n 3 1023)
          return { pa, c := e.c, wt := e.wt, dev := false, sl := 0, bad := true }
        | .pass sl s =>
          set s
          if s.populated n pa then return { pa, c := e.c, wt := e.wt, dev := false, sl, bad := false }
          else
            modify (·.mcheck n 3 1023)
            return { pa, c := e.c, wt := e.wt, dev := false, sl, bad := true }

/-- One more counted access for the heat of a frame by a ledger core, sampled one in 16 (13 R328, R329). -/
def State.countLine (s : State) (n f : Nat) : State :=
  if n ≥ 64 then s
  else
    let dir := s.homeOf f
    let cnt := tget 0 s.mal.sample dir + 1
    if cnt < 16 then { s with mal := { s.mal with sample := tset 0 s.mal.sample dir cnt } }
    else
      let m := { s.mal with sample := tset 0 s.mal.sample dir 0 }
      let k := clusterOf n
      match s.placed f with
      | some c =>
        let m := { m with heat := tset 0 m.heat (f * 8 + k) (min 255 (tget 0 m.heat (f * 8 + k) + 1)) }
        let m := match (s.core n).serv with
          | some (q, _) =>
            { m with qheat := tset 0 m.qheat (q * 8 + c) (min 255 (tget 0 m.qheat (q * 8 + c) + 1)) }
          | none => m
        { s with mal := m }
      | none =>
        let d : Cand := { valid := false, frame := 0, heats := [] }
        let base := f % 4096 * 4
        let ways := (List.range 4).map fun i => (base + i, tget d m.cand (base + i))
        let upd (key : Nat) (c : Cand) : State :=
          { s with mal := { m with cand := tset d m.cand key c } }
        let fresh : Cand :=
          { valid := true, frame := f, heats := (List.replicate 8 0).set k 1 }
        match ways.find? fun w => w.2.valid && w.2.frame == f with
        | some (key, c) => upd key { c with heats := c.heats.set k (min 255 (c.heats.getD k 0 + 1)) }
        | none =>
          match ways.find? fun w => !w.2.valid || w.2.heats.all (· == 0) with
          | some (key, _) => upd key fresh
          | none =>
            let big (c : Cand) := c.heats.foldl max 0
            let least := ways.foldl (fun m w => min m (big w.2)) 256
            match ways.find? fun w => big w.2 == least with
            | some (key, _) => upd key fresh
            | none => s

/-- Some data cache other than core n's, or the frame's cluster memory, holds the line. -/
def State.heldElsewhere (s : State) (n line : Nat) : Bool :=
  (s.placed (line / 128)).isSome ||
    s.cores.any fun e => e.1 != n && e.2.dcache.any fun l => l.1 == line

/-- A line leaves core n's data cache: written back where dirty, and sealed where it leaves the package
(12 R284, 14 R345). -/
def State.dcEvict (s : State) (n : Nat) (line : Nat × Bool) : State :=
  let s := if line.2 then s.countLine n (line.1 / 128) else s
  if s.heldElsewhere n line.1 then s
  else
    (if line.2 ∧ s.inWindow (line.1 / 128) = true ∧ s.sealFor (line.1 / 128) ≠ 0 then s.takeOpen line.1 true else s).kilnClose line.1

/-- A line that no cache and no cluster memory holds leaves the package (14 R345). -/
def State.leave (s : State) (line : Nat) : State := if s.heldElsewhere 65 line then s else s.kilnClose line

/-- A line that a data cache keeps is written to its home in DRAM all the same (12 R285, 14 R345). -/
def State.writeThrough (s : State) (line : Nat) : State :=
  if (s.placed (line / 128)).isSome then s else s.kilnWrite line true

/-- Bring a line into core n's data cache as the most recent of its set of 4 ways (12 Table 12-1). -/
def State.dcPut (s : State) (n line : Nat) (dirty : Bool) : State :=
  let k := s.core n
  let old := k.dcache.any fun l => l.1 == line && l.2
  let rest := k.dcache.filter fun l => l.1 != line
  let set := rest.filter fun l => l.1 % 256 == line % 256
  let s := if k.dcache.any (fun l => l.1 == line) then s else s.countLine n (line / 128)
  match (if set.length < 4 then none else set.getLast?) with
  | none => s.modCore n fun k => { k with dcache := (line, dirty || old) :: rest }
  | some v =>
    (s.modCore n fun k => { k with dcache := (line, dirty || old) :: rest.filter fun l => l.1 != v.1 }).dcEvict n v

/-- The core bypasses its caches: Rest mode (12 R304). -/
def Core.resting (k : Core) : Bool := bit k.seenPsw 13

/-- An instruction cache line, the most recent of its set of 4 ways (12 Table 12-1). -/
def Core.icPut (k : Core) (line : Nat) : Core :=
  let rest := k.icache.filter (· != line)
  let set := rest.filter fun l => l % 256 == line % 256
  { k with icache := line :: (if set.length < 4 then rest else rest.filter fun l => some l != set.getLast?) }

/-- Some data cache holds the line, as changed or at all. -/
def State.dirtyLine (s : State) (line : Nat) : Bool := s.cores.any fun e => e.2.dcache.any fun l => l.1 == line && l.2
def State.cachedLine (s : State) (line : Nat) : Bool := s.cores.any fun e => e.2.dcache.any fun l => l.1 == line

/-- Make the line of an access readable inside the package, where a cache or a cluster memory does not hold it already;
false where the Kiln's check failed, none where a key is missing (14 R345). -/
def State.openFor (s : State) (pa sl : Nat) : Option (Bool × State) :=
  if sl = 0 ∨ s.opened.any (fun e => e.1 == pa / 16) ∨ (s.placed (pa / 2048)).isSome then some (true, s)
  else if s.cachedLine (pa / 16) then some (true, s.takeOpen (pa / 16) (s.dirtyLine (pa / 16)))
  else
    match s.kilnOpen (pa / 16) sl with
    | .opened s => some (true, s)
    | .keyFault => none
    | .checkFailed s => some (false, s)

/-- An access to a DRAM controller that is off wakes it (18 Table 18-4). -/
def State.wakeDram (s : State) (pa : Nat) : State :=
  let c := pa / 16 % 8
  let d : Domain := .dram ⟨c % 8, Nat.mod_lt _ (by decide)⟩
  if s.pwr.off.contains d && (s.placed (pa / 2048)).isNone then
    ({ s with pwr := { s.pwr with off := s.pwr.off.filter (· != d), waking := s.pwr.waking.filter (· != d) } }).setPregF
      (pgDram c) 0o020 33 35 2
  else s

/-- A failed check of a line that core n read, in the sticky record (14 R345, 17 R429). -/
def State.checkFailed (s : State) (n : Nat) : State :=
  (s.log 1 (if n = 64 then pgSys else n) 1 n).bump pgSticky 0o102 1

/-- Read one word of an access already checked: caches filled, sealed lines opened. A failed check is a
machine check of class 1 with RST 1 (10 R252). -/
def fetchWord (n : Nat) (p : Phys) (va asid role off : Nat) : M Cell := do
  if p.bad then return Cell.zero
  else
    match (← get).openFor p.pa p.sl with
    | none => accessFault 6 2 .read va asid role off false
    | some (false, s) =>
      set (s.checkFailed n)
      raise 2 1 (512 + min off 127)
    | some (true, s) =>
      set (s.wakeDram p.pa)
      let k ← getC n
      if p.c && !k.resting then modify (·.dcPut n (p.pa / 16) false)
      else modify (·.countLine n (p.pa / 2048))
      let c := (← get).rd p.pa
      modify (·.leave (p.pa / 16))
      return c

/-- Every copy of a line in a data cache other than core n's is invalidated (12 R297). -/
def State.invalidate (s : State) (n line : Nat) : State :=
  s.cores.foldl
    (fun s e =>
      if e.1 ≠ n ∧ e.2.dcache.any (fun l => l.1 == line) = true then
        s.modCore e.1 fun k => { k with dcache := k.dcache.filter fun l => l.1 != line }
      else s) s

/-- A core's loss of data it was writing back; of a halted core it is told to the steward (10 R252, 12 R297). -/
def State.lossCheck (s : State) (n : Nat) : State :=
  s.mcheck (if (s.core n).run = .halted then 64 else n) 2 0

/-- A store that meets uncorrectable data is discarded, with its entry in the sticky record (10 R252, 12 R297). -/
def State.storeLost (s : State) (n : Nat) : State :=
  ((s.log 7 (if n = 64 then pgSys else n) 0 n).bump pgSticky 0o105 1).lossCheck n

/-- A store becomes visible: one word under a character mask, with its tag (12 R291, R296; 02 R33). Where its line
fails the Kiln's check it is lost; where the frame's key has gone it is discarded (14 R345, R362). -/
def State.storeWord (s : State) (n : Nat) (p : Phys) (mask : BitVec 4) (w : Word) (tag : Bool) : State :=
  if p.bad then s
  else
    match s.openFor p.pa p.sl with
    | some (false, s) => s.storeLost n
    | none => s.discardLine (p.pa / 16) p.sl
    | some (true, s) =>
      let s := s.wakeDram p.pa
      let old := s.rd p.pa
      let s := (s.wr p.pa { w := mergeChars mask w old.w, tag }).invalidate n (p.pa / 16)
      let k := s.core n
      if p.c && !k.resting && !p.wt then s.dcPut n (p.pa / 16) true
      else
        let s := s.countLine n (p.pa / 2048)
        if p.c && !k.resting && k.dcache.any fun l => l.1 == p.pa / 16 then (s.dcPut n (p.pa / 16) false).writeThrough (p.pa / 16)
        else s.leave (p.pa / 16)

/-- The head entry of a store buffer that names memory becomes visible (12 R291; 02 R33). -/
def State.drainStore (s : State) (n : Nat) (e : SbEntry) : State :=
  let sl := s.sealSeen n (e.addr / 2048)
  s.storeWord n { pa := e.addr, c := e.cached, wt := e.wt, dev := false, sl, bad := false } e.mask e.data e.tag

/-- The stores of a core that name memory become visible at once, in order; those of DEV pages stay in the buffer (12 R291,
R292; log entry 53). -/
def State.flushStores (s : State) (n : Nat) : State :=
  let es := (s.core n).sb
  let s := s.modCore n fun k => { k with sb := es.filter SbEntry.dev }
  (es.filter fun e => !e.dev).foldl (fun s e => s.drainStore n e) s

/-- Entries of the store buffer that name a word. -/
def Core.sbNaming (k : Core) (pa : Nat) : List SbEntry := k.sb.filter fun e => e.addr == pa

/-- A store enters the buffer (12 R288). -/
def pushStore (n : Nat) (p : Phys) (mask : BitVec 4) (w : Word) (tag : Bool) : M Unit :=
  if p.bad then pure ()
  else modC n fun k =>
    { k with sb := k.sb ++ [{ addr := p.pa, mask, data := w, tag, dev := p.dev, cached := p.c, wt := p.wt }] }

/-- Room for m more entries, or a stall (12 R288). -/
def needRoom (n m : Nat) : M Unit := do
  if (← getC n).sb.length + m ≤ 8 then pure () else await .storeBuffer

/-- An empty store buffer, or a wait (12 R292, R295, R296). -/
def needEmpty (n : Nat) : M Unit := do
  if (← getC n).sb.isEmpty then pure () else await .storeBuffer

/-- The words of a load, in order: forwarded from the buffer where the form may take one word from it and the youngest
entry is whole, else read once no entry names them (12 R289, R290); a line absent from the cache is waited for. -/
def loadWords (n : Nat) (ps : List (Phys × Nat)) (asid role : Nat) (fwd : Bool) : M (List Cell) := do
  let k ← getC n
  let one : Option SbEntry := match fwd, ps with
    | true, [(p, _)] => (k.sbNaming p.pa).getLast?
    | _, _ => none
  match one with
  | some e =>
    if e.mask = fullMask ∧ e.dev = false then return [{ w := e.data, tag := e.tag }] else await .storeBuffer
  | none =>
    if ps.any fun p => !(k.sbNaming p.1.pa).isEmpty then await .storeBuffer
    else
      match ps.zipIdx.find? fun p =>
          p.1.1.c && !p.1.1.bad && !k.resting && !(k.dcache.any fun l => l.1 == p.1.1.pa / 16) with
      | some p => await (.lineFill (p.1.1.pa / 16) p.2)
      | none => ps.mapIdxM fun i p => fetchWord n p.1 p.2 asid role i

/-- A data access of an ordinary load or store under the current domain. -/
def plainOpt : AOpt := { devOk := true, cross := false, inline := false }

/-- A data access of a control-store instruction or of the hardware's own transfers. -/
def storeOpt : AOpt := { devOk := false, cross := false, inline := true }

/-- A data word read by a control-store instruction under the current domain (12 R296). -/
def readWord (n va role off : Nat) : M Cell := do
  let d := (← getC n).domTok
  let p ← access n d .read 2 storeOpt va role off
  fetchWord n p va d.dom role off

/-- The checks of R269 for a word a control-store instruction will write. -/
def probeWrite (n va role off : Nat) : M Phys := do
  access n (← getC n).domTok .write 3 storeOpt va role off

/-- A word, or part of one, written by a control-store instruction (12 R296). -/
def writeWord (n va role off : Nat) (mask : BitVec 4) (w : Word) : M Unit := do
  let p ← probeWrite n va role off
  modify fun s => s.storeWord n p mask w false

/-- A fault of R37 in word A of a token: a reserved type, a zero field of EXT, SEALED with no seal type. -/
def Tok.badA (t : Tok) : Bool :=
  decide (8 ≤ bits t.a 0 3) || (bit t.a 4 && decide (bits t.b 32 35 = 0)) ||
    (match bits t.a 0 3 with
      | 1 | 2 => decide (bits t.a 18 23 ≠ 0)
      | 3 => decide (bits t.a 17 21 ≠ 0)
      | 4 => decide (bits t.a 17 28 ≠ 0)
      | 5 | 6 => decide (bits t.a 17 23 ≠ 0)
      | 7 => decide (bits t.a 17 35 ≠ 0)
      | _ => false)

/-- A fault of R37 in word B of a token: a seal type on an unsealed token, a zero field of BASE. -/
def Tok.badB (t : Tok) : Bool :=
  (!bit t.a 4 && decide (bits t.b 32 35 ≠ 0)) ||
    (match bits t.a 0 3 with
      | 3 => decide (bits t.b 0 26 ≠ 0)
      | 4 | 5 | 6 | 7 => decide (bits t.b 0 31 ≠ 0)
      | _ => false)

/-- A token that R37 calls not well formed. -/
def Tok.illFormed (t : Tok) : Bool := t.badA || t.badB

/-- Fields of a token. -/
def Tok.type (t : Tok) : Nat := bits t.a 0 3
def Tok.sealed (t : Tok) : Bool := bit t.a 4
def Tok.stype (t : Tok) : Nat := bits t.b 32 35
def Tok.rights (t : Tok) : Nat := bits t.a 5 12
def Tok.read (t : Tok) : Bool := bit t.a 5
def Tok.write (t : Tok) : Bool := bit t.a 6
def Tok.configure (t : Tok) : Bool := bit t.a 8
def Tok.post (t : Tok) : Bool := bit t.a 9
def Tok.use (t : Tok) : Bool := bit t.a 10
def Tok.derive (t : Tok) : Bool := bit t.a 12

/-- The first words a memory token covers and the word after the last (02 R36). -/
def Tok.lo (t : Tok) : Nat := bits t.b 0 31
def Tok.hi (t : Tok) : Nat := t.lo + (bits t.a 21 35 + 1) * 4 ^ bits t.a 17 20

/-- The checks of R260 on C[r] used as authority, up to the type; role and r name it for CAUSE. -/
def useToken (t : Tok) (r role ty : Nat) : M Unit := do
  if !t.tag then raise 5 0 r
  else if t.illFormed then raise 4 8 (roleReg role r)
  else if t.sealed then raise 5 0 r
  else if t.type ≠ ty then raise 5 0 r
  else pure ()

/-- A domain token made by the hardware (09 R210). -/
def domainToken (dom key : Nat) (sys : Bool) : Tok :=
  { a := fld 0 3 6 ||| fld 11 11 sys.toNat ||| fld 13 16 key ||| fld 24 35 dom, b := 0, tag := true }

/-- A physical word read by an engine or the hardware, sealed lines opened; an error where it is not populated, its
check fails or its key is gone, with MACFAIL advanced for the check (14 R345). -/
def State.engineRead (s : State) (pa : Nat) : Except State (Cell × State) :=
  if !s.populated 64 pa then .error s
  else
    match s.engineKey pa with
    | (none, s) => .error s
    | (some sl, s) =>
      match s.openFor pa sl with
      | some (true, s) => .ok (s.rd pa, (s.wakeDram pa).leave (pa / 16))
      | some (false, s) => .error s
      | none => .error s

/-- A physical word written by an engine with a tag; cached copies are invalidated (12 R297). A line that fails its
check is not written, and one whose key is gone is discarded (14 R345, R362). -/
def State.engineCell (s : State) (pa : Nat) (c : Cell) : State :=
  if !s.populated 64 pa then s
  else
    match s.engineKey pa with
    | (none, s) => s
    | (some sl, s) =>
      match s.openFor pa sl with
      | some (true, s) => (((s.wakeDram pa).wr pa c).invalidate 65 (pa / 16)).leave (pa / 16)
      | some (false, s) => s.engineUe pgKiln
      | none => s.discardLine (pa / 16) sl

/-- A physical word written by an engine, its tag cleared (02 R33). -/
def State.engineWrite (s : State) (pa : Nat) (w : Word) : State := s.engineCell pa { w, tag := false }

end Sys2Proof.Machine
end

