-- ==== Sys2Proof/Machine/Retire.lean ====
section
/-! DEFINITION. Completing an instruction: PC and NPC, the delay slot, the end of a loop body, the distances
(03 R62, R65-R67, R70-R72; 10 R235, R239, R240). -/

namespace Sys2Proof.Machine

/-- Where control goes when an instruction completes. -/
inductive Flow where
  /-- To the next instruction. -/
  | seq
  /-- A branch: one delay slot runs first; `none` where it is not taken. -/
  | delayed (target : Option Word)
  /-- A transfer without a delay slot. -/
  | jump (target : Word)
  /-- A return: PC, NPC and the rest are already set, and so is whether a trace is pending. -/
  | ret (trace : Bool)
  deriving DecidableEq, Repr

/-- The in-bank offset of a parcel pointer: word offset and parcel (03 R55). -/
def bankOff (p : Word) : Nat := bits p 16 31 * 2 + bits p 35 35

/-- LS and LE hold the offset in [19:34] and the parcel in [35] (03 R55). -/
def loopOff (w : Word) : Nat := bits w 19 35

/-- A loop register as the end-of-body decision sees it: SPR n, live value w (03 R67). -/
def Core.loopSeen (k : Core) (n : Nat) (w : Word) : Word :=
  match k.shadowOf (.spr n) with
  | some x => x.old
  | none => w

/-- A hardware loop is active (03 R70). -/
def Core.loopAct (k : Core) : Bool := bit k.seenPsw 24

/-- PC is at the last instruction of the active loop's body (03 R70). -/
def Core.atLoopEnd (k : Core) : Bool :=
  k.loopAct && decide (bankOff k.pc = loopOff (k.loopSeen 5 k.le))

/-- The target lies within the active loop's body (03 R71). -/
def Core.inBody (k : Core) (t : Word) : Bool :=
  decide (bits t 0 15 = bits k.pc 0 15) && decide (loopOff (k.loopSeen 4 k.ls) ≤ bankOff t) &&
    decide (bankOff t ≤ loopOff (k.loopSeen 5 k.le))

/-- A taken branch out of the body ends the loop (03 R71). DESIGN CHOICE: it ends at the branch, so the delay slot already
runs with LOOPACT clear, and a slot that stands at LE is not refused (log entry 52). -/
def Core.leaveBody (k : Core) (t : Word) : Core :=
  if k.loopAct && !k.inBody t then k.setPsw 24 24 0 else k

/-- The end-of-body decision of the instruction at LE (03 R70, R67): where it continues. -/
def Core.endOfBody (k : Core) (fall : Word) : Core × Word :=
  let written := (k.shadowOf (.spr 3)).isSome
  let left := k.loopSeen 3 k.lc - 1
  let ls := loopOff (k.loopSeen 4 k.ls)
  let k := { k with
    lc := if written then k.lc else left
    shadow := k.shadow.filter fun x => decide (x.what ≠ .spr 3 ∧ x.what ≠ .spr 4 ∧ x.what ≠ .spr 5) }
  if left ≠ 0 then (k, mkPtr (bits k.pc 0 15 * 2 ^ 16 + ls / 2) (ls % 2))
  else (k.setPsw 24 24 0, fall)

/-- The instruction that runs after the one at PC, of `len` parcels, on the path followed (10 R239). -/
def Core.nextPc (k : Core) (len : Nat) : Word := k.npc.getD (parcelAfter k.pc len)

/-- A taken branch's target joins the trace of the last 256 (18 R453). -/
def Core.noteTarget (k : Core) (t : Word) : Core := { k with targets := (t :: k.targets).take 256 }

/-- Control after an instruction of `len` parcels at PC. -/
def Core.advancePc (k : Core) (len : Nat) (flow : Flow) : Core :=
  match flow with
  | .ret _ => k
  | .jump t => { ((k.leaveBody t).noteTarget t) with pc := t, npc := none, slot := false }
  | .delayed t =>
    let here := k.nextPc len
    let k := match t with
      | some x => (k.leaveBody x).noteTarget x
      | none => k
    { k with pc := here, npc := t, slot := true }
  | .seq =>
    let fall := k.nextPc len
    let (k, t) := if k.atLoopEnd then k.endOfBody fall else (k, fall)
    { k with pc := t, npc := none, slot := false }

/-- An instruction of core n completes: it ages the distances, counts in RETIRED, and is traced where
TRACE was in force for it (10 R235, 17 Table 17-6), but for a refill or window-trap handler, which is never traced (09
R212); a debug step ends (18 R453). -/
def State.retire (s : State) (n len : Nat) (flow : Flow) : State :=
  let s := s.modCore n fun k =>
    let keep := decide (k.bank = 2) || k.inTrap
    let trace := match flow with
      | .ret t => t
      | _ => if keep then k.trace else bit k.seenPsw 17
    { ((k.advancePc len flow).age len) with
      trace, wait := none, brkPass := false, dbgHalt := k.dbgHalt || k.dbgStep, dbgStep := false }
  if n < 64 then s.bump n 0o037 1 else s

end Sys2Proof.Machine
end

