-- ==== Sys2Proof/Machine/LinkOps.lean ====
section
/-! DEFINITION. Sending on a link port: credits, sequence numbers, the replay buffer (15 R367-R369). -/

namespace Sys2Proof.Machine

/-- Port p: 0 to 7 the link ports, 8 the Adjunct port. -/
def State.port (s : State) (p : Nat) : Port := tget Port.reset s.ports p
def State.setPort (s : State) (p : Nat) (x : Port) : State := { s with ports := tset Port.reset s.ports p x }
def State.modPort (s : State) (p : Nat) (f : Port → Port) : State := s.setPort p (f (s.port p))

/-- Port states (15 Table 15-4a). -/
abbrev psOff : Nat := 0
abbrev psDetect : Nat := 1
abbrev psLock : Nat := 2
abbrev psAlign : Nat := 3
abbrev psParam : Nat := 4
abbrev psUp : Nat := 5
abbrev psRetrain : Nat := 6
abbrev psFailed : Nat := 7

/-- The credit class of a port's replayed flits that are no messages: 5 on a link port, 0 on the Adjunct port (15 Table
15-3; 19 R469). -/
def classOf (p : Nat) : Nat := if p = 8 then 0 else 5

/-- Bits 0 to 175 of a flit as a number (15 Table 15-2). -/
def flitBody (f : Flit) : Nat :=
  [(3, f.ccls.toNat), (5, f.ccnt.toNat), (36, f.w0.toNat), (36, f.w1.toNat), (36, f.w2.toNat), (36, f.w3.toNat),
    (16, f.seq.toNat)].foldl (fun v e => v * 2 ^ e.1 + e.2) f.ftype.toNat

/-- One step of the flit CRC: the register and the next bit. -/
def crcStep (r : Nat) (b : Bool) : Nat :=
  let v := r * 2 % 2 ^ 16
  if decide (2 ^ 15 ≤ r) != b then Nat.xor v 0x8BB7 else v

/-- The CRC of a flit: its 176 bits, most significant first, from a register of ones (15 R367). -/
def flitCrc (f : Flit) : Nat := (List.range 176).foldl (fun r i => crcStep r ((flitBody f).testBit (175 - i))) 0xFFFF

/-- The 192 bits of a flit on the link, the 24 bits that lane i of eight carries, and the 48 bits that lane i of the four
of a half carries at x4 (15 R366, R367). -/
def flitWire (f : Flit) : Nat := flitBody f * 2 ^ 16 + flitCrc f
def flitLane (f : Flit) (i : Nat) : Nat := flitWire f / 2 ^ (24 * (7 - i)) % 2 ^ 24
def flitLane4 (f : Flit) (i : Nat) : Nat := flitWire f / 2 ^ (48 * (3 - i)) % 2 ^ 48

/-- Credits owed to the far end travel in the flit (15 R369). -/
def Port.withCredits (p : Port) (f : Flit) : Port × Flit :=
  match p.owed.find? fun e => decide (0 < e.2) with
  | none => (p, f)
  | some (c, n) =>
    let m := min n 31
    ({ p with owed := tset 0 p.owed c (n - m) }, { f with ccls := BitVec.ofNat 3 c, ccnt := BitVec.ofNat 5 m })

/-- Send an unreplayed flit: it carries the next SEQ and does not advance it. -/
def Port.sendPlain (p : Port) (f : Flit) : Port :=
  let (p, f) := p.withCredits f
  { p with tx := p.tx ++ [{ f with seq := BitVec.ofNat 16 p.sendSeq }] }

/-- Send a replayed flit while a credit of its class and room in the replay buffer are held; it waits
otherwise, behind those of its class. `credits` counts the credits in use of class c. -/
def Port.send (c : Nat) (p : Port) (f : Flit) : Port :=
  if p.st = psUp ∧ p.waiting.all (fun e => e.1 != c) = true ∧ tget 0 p.credits c < 32 ∧ p.replay.length < 256 then
    let (p, f) := p.withCredits f
    let f := { f with seq := BitVec.ofNat 16 p.sendSeq }
    { p with
      tx := p.tx ++ [f]
      replay := p.replay ++ [f]
      credits := tset 0 p.credits c (tget 0 p.credits c + 1)
      sendSeq := (p.sendSeq + 1) % 2 ^ 16 }
  else if p.st = psUp ∨ p.st = psRetrain ∨ p.up then { p with waiting := p.waiting ++ [(c, f)] }
  else p

/-- Waiting flits go out as credits and room allow. -/
def Port.flush (p : Port) : Port := p.waiting.foldl (fun p e => p.send e.1 e.2) { p with waiting := [] }

/-- A port replaced after it may have sent: PORT_TXF counts the replayed flits of a link port (15 Table 15-7). -/
def State.sentPort (s : State) (p : Nat) (x : Port) : State :=
  let n := (x.sendSeq + 2 ^ 16 - (s.port p).sendSeq) % 2 ^ 16
  let s := s.setPort p x
  if p < 8 then s.bump (pgPort p) 0o027 n else s

/-- Send flits of a credit class on a port. -/
def State.sendClass (s : State) (c p : Nat) (fs : List Flit) : State :=
  s.sentPort p (fs.foldl (Port.send c) (s.port p))

/-- Send flits that are no messages on a port. -/
def State.sendFlits (s : State) (p : Nat) (fs : List Flit) : State := s.sendClass (classOf p) p fs

end Sys2Proof.Machine
end

