-- ==== Sys2Proof/Machine/Journal.lean ====
section
/-! DEFINITION. The Cellar: the journal ring, frame locks, and the life of a posting after its checks
(07 R152-R177; 15 R378). -/

namespace Sys2Proof.Machine

/-- Pairs of the journal ring (07 R168). -/
abbrev ringPairs : Nat := 14913080

/-- Fields and arithmetic of a journal position (07 Table 07-7). -/
def posLap (p : Word) : Nat := bits p 0 11
def posPair (p : Word) : Nat := bits p 12 35
def mkPos (lap pair : Nat) : Word := fld 0 11 lap ||| fld 12 35 pair

/-- Position p advanced by n pairs. -/
def posAdv (p : Word) (n : Nat) : Word :=
  let t := posPair p + n
  mkPos ((posLap p + t / ringPairs) % 4096) (t % ringPairs)

/-- Pairs from position a forward to position b, modulo 4,096 laps. -/
def posDist (a b : Word) : Nat :=
  let m := 4096 * ringPairs
  (posLap b * ringPairs + posPair b + m - (posLap a * ringPairs + posPair a)) % m

/-- Position a lies before position b in serial order. -/
def posBefore (a b : Word) : Bool :=
  decide (0 < posDist a b) && decide (posDist a b < 2048 * ringPairs)

/-- Word i of the ring from a position. -/
def Cellar.word (c : Cellar) (p : Word) (i : Nat) : Word :=
  tget 0 c.ring ((posPair p * 2 + i) % (2 * ringPairs))

/-- Write words of the ring from a position on. -/
def Cellar.write (c : Cellar) (p : Word) (i : Nat) (ws : List Word) : Cellar :=
  { c with
    ring := (ws.mapIdx fun j w => (j, w)).foldl
      (fun t jw => tset 0 t ((posPair p * 2 + i + jw.1) % (2 * ringPairs)) jw.2) c.ring }

/-- Free pairs: the ring less what is not archived, less 3 for each prepared posting (07 R171). -/
def Cellar.freePairs (c : Cellar) : Nat := ringPairs - posDist c.archive c.append - 3 * c.prepared.length

/-- The next sequence number's two words (07 Table 07-10, 02 R29). -/
def seqWords (term count : Nat) : Word × Word :=
  let v := term % 2 ^ 16 * 2 ^ 56 + count % 2 ^ 56
  (wd (v / 2 ^ 36), wd v)

/-- TERM and COUNT of a sequence number. -/
def seqTerm (s0 : Word) : Nat := bits s0 0 15
def seqCount (s0 s1 : Word) : Nat := bits s0 16 35 * 2 ^ 36 + s1.toNat

/-- Term a is greater than term b (15 R376). -/
def termGt (a b : Nat) : Bool :=
  let d := (a + 65536 - b) % 65536
  decide (1 ≤ d) && decide (d ≤ 32767)

/-- Unordered terms (15 R376). -/
def termTie (a b : Nat) : Bool := decide ((a + 65536 - b) % 65536 = 32768)

/-- A sequence number is greater than another: TERM first, then COUNT (15 R382). -/
def seqGt (a b : Word × Word) : Bool :=
  termGt (seqTerm a.1) (seqTerm b.1) ||
    (decide (seqTerm a.1 = seqTerm b.1) && decide (seqCount b.1 b.2 < seqCount a.1 a.2))

/-- COUNT a comes before COUNT b (07 R170). -/
def countBefore (a b : Nat) : Bool :=
  let d := (b + 2 ^ 56 - a) % 2 ^ 56
  decide (0 < d) && decide (d < 2 ^ 55)

/-- Pairs a record of n words takes at the append position, with the pad before it (07 R171). -/
def Cellar.need (c : Cellar) (n : Nat) : Nat :=
  if posPair c.append + n / 2 > ringPairs then (ringPairs - posPair c.append) + n / 2 else n / 2

/-- A pad record at the append position, which then is pair 0 of the next lap (07 R171). -/
def Cellar.pad (c : Cellar) : Cellar :=
  let lap := posLap c.append
  { (c.write c.append 0 [fld 0 3 15 ||| fld 21 32 lap, 0]) with
    append := mkPos ((lap + 1) % 4096) 0
    lapTotal := c.lapTotal + 1 }

/-- A record's header word 0 (07 Table 07-8). -/
def recHead (kind nleg dom lap : Nat) : Word :=
  fld 0 3 kind ||| fld 4 8 nleg ||| fld 9 20 dom ||| fld 21 32 lap

/-- The words of a record after word 0's LAP is known (07 R169). -/
def recWords (kind nleg dom : Nat) (sq : Word × Word) (ref : Word) (body : List Word) (lap : Nat) : List Word :=
  [recHead kind nleg dom lap, sq.1, sq.2, ref] ++ body

/-- Append a record admitted in a racking mode: every pair but the first is written, the first flies until durable (07
R171). -/
def Cellar.appendRec (c : Cellar) (core mode kind nleg dom : Nat) (ref : Word) (body : List Word) :
    Cellar × Word × (Word × Word) :=
  let len := 4 + body.length
  let c := if posPair c.append + len / 2 > ringPairs then c.pad else c
  let pos := c.append
  let sq := seqWords c.term c.count
  let ws := recWords kind nleg dom sq ref body (posLap pos)
  let c := c.write pos 2 (ws.drop 2)
  let next := posAdv pos (len / 2)
  let c := { c with
    append := next
    lapTotal := if posLap next = posLap pos then c.lapTotal else c.lapTotal + 1
    count := (c.count + 1) % 2 ^ 56
    posted := c.posted + 1
    flying := c.flying ++ [{ pos, first0 := ws.getD 0 0, first1 := ws.getD 1 0, len, core, mode }] }
  (c, pos, sq)

/-- Modify the Cellar. -/
def State.modCel (s : State) (f : Cellar → Cellar) : State := { s with cel := f s.cel }

/-- RACK_MODE (07 R174). -/
def State.rackMode (s : State) : Nat := bits (s.preg pgCellar 0o021) 34 35

/-- The twin is paired for a racking mode (15 R377). -/
def State.pairedFor (s : State) (mode : Nat) : Bool := decide (s.twin.st = 5) && (decide (mode ≠ 2) || !s.twin.vdiff)

/-- The twin is paired in the sense of R152, R160 and R174 (15 R377). -/
def State.paired (s : State) : Bool := s.pairedFor s.rackMode

/-- The holder streams a catch-up: records of a racking mode and events committed meanwhile follow the stream (15 R383). -/
def State.catchingFor (s : State) (mode : Nat) : Bool := decide (s.twin.st = 3) && s.twin.hold && decide (mode ≠ 0)
def State.catching (s : State) : Bool := s.catchingFor s.rackMode

/-- What keeps every posting out: STATE, LOCKED, ABSENT, or 0 (07 R152, R165; 15 R385). -/
def State.postCode (s : State) : Nat :=
  if s.cel.st ≠ .service then 0o010
  else if s.straps.twin && (!s.twin.hold || decide (s.twin.cmd = some 3)) then 0o007
  else if decide (s.rackMode = 2) && (!s.paired || decide (s.twin.cmd = some 2)) then 0o017
  else 0

/-- The packed value of three balance or amount words; none where a nibble is invalid (02 R23, R24). -/
def packed26 (ws : List Word) : Option Int :=
  let v := ws.foldl (fun r w => r * 2 ^ 36 + w.toNat) 0
  let sign := v % 16
  let ds := (List.range 26).map fun i => v / 16 ^ (26 - i) % 16
  if ds.any (fun d => decide (9 < d)) ∨ sign < 10 then none
  else
    let m : Int := (ds.foldl (fun r d => r * 10 + d) 0 : Nat)
    some (if sign = 11 ∨ sign = 13 then -m else m)

/-- The three words of a 26-digit result with its preferred sign (02 Table 02-3). -/
def toPacked26 (i : Int) : List Word :=
  let m := i.natAbs
  let v := (List.range 26).foldl (fun r k => r + m / 10 ^ k % 10 * 16 ^ (k + 1)) (if i < 0 then 13 else 12)
  [wd (v / 2 ^ 72), wd (v / 2 ^ 36), wd v]

/-- The holder of a frame's lock (07 R157). -/
def State.lockOf (s : State) (f : Nat) : Option Holder := (s.cel.locks.find? fun l => l.1 == f).map (·.2)

/-- Release the locks held by a holder. -/
def State.unlock (s : State) (h : Holder) : State :=
  s.modCel fun c => { c with locks := c.locks.filter fun l => decide (l.2 ≠ h) }

/-- Locks in the directory that would hold a frame's lock, and those of prepared postings (07 R157). -/
def State.dirLocks (s : State) (f : Nat) : List (Nat × Holder) :=
  s.cel.locks.filter fun l => s.homeOf l.1 == s.homeOf f

/-- A holder that is a prepared posting. -/
def Holder.isPrepared : Holder → Bool
  | .prepared _ _ => true
  | .core _ => false

/-- The posting in progress on a core. -/
def State.postingOf (s : State) (n : Nat) : Option Posting := s.cel.posts.find? fun p => p.core == n

/-- A posting past its commit point (07 R161). -/
def Posting.committed (p : Posting) : Bool := decide (p.stage = .durable ∨ p.stage = .racking)

/-- Drop a posting that has not reached its commit point, releasing its locks (07 R163). -/
def State.abandonPosting (s : State) (n : Nat) : State :=
  match s.postingOf n with
  | some p =>
    if p.committed then s
    else (s.modCel fun c => { c with posts := c.posts.filter fun q => q.core != n }).unlock (.core n)
  | none => s

/-- The status word of G1 (07 Table 07-4). -/
def postStatus (code : Nat) (leg : Option Nat) (cur : Nat) (lone : Bool) : Word :=
  fld 18 18 lone.toNat ||| fld 19 19 leg.isSome.toNat ||| fld 20 23 (leg.getD 0) ||| fld 24 25 cur |||
    fld 27 35 code

/-- G1 and the flags of a posting instruction's end (07 R153, R155). -/
def Core.postResult (k : Core) (status : Word) : Core :=
  (((k.setG 1 status).setPsw 0 0 0).setPsw 1 1 (if bits status 27 35 = 0 then 1 else 0)).setPsw 2 2
    (bits status 18 18)

/-- A posting that is refused: its locks go, G1 and the flags tell why, the counter moves (07 R152). The
instruction is not yet retired. -/
def State.refusePosting (s : State) (n : Nat) (status : Word) : State :=
  let s := (s.modCel fun c =>
    { c with posts := c.posts.filter fun q => q.core != n, refused := (c.refused + 1) % 2 ^ 36 }).unlock (.core n)
  s.modCore n fun k => k.postResult status

/-- Every new balance at one instant, tags cleared (07 R159). -/
def State.applyBalances (s : State) (addrs : List Nat) (new : List Word) : State :=
  (List.zip addrs new).foldl (fun s aw => s.engineWrite aw.1 aw.2) s

/-- The flits that rack a record (15 R378): `extra` are the balance addresses of a prepared record. -/
def State.rackFlits (s : State) (pos : Word) (len : Nat) (sq : Word × Word) (addrs : List Nat) : List Flit :=
  let ws := (List.range len).map (s.cel.word pos)
  let extra := addrs.flatMap fun a => [wd (a / 2 ^ 32), wd (a % 2 ^ 32 * 16)]
  mkFlit 0o020 pos (fld 20 25 extra.length ||| fld 26 35 len) sq.1 sq.2 :: dataFlits 0o021 (ws ++ extra)

/-- The first physical words of the balance fields of the prepared record with a sequence number, settled or not (15
R378). -/
def State.prepAddrs (s : State) (sq : Word × Word) : List Nat :=
  match s.cel.recAddrs.find? fun e => e.1 == sq.1 && e.2.1 == sq.2 with
  | some e => (chunks 3 e.2.2).map fun l => l.getD 0 0
  | none => []

/-- Rack a record that stands in the ring: sent on port 0 and counted unacknowledged. -/
def State.rackRecord (s : State) (pos : Word) : State :=
  let h := s.cel.word pos 0
  let kind := bits h 0 3
  let len := if kind = 1 ∨ kind = 2 then 4 + 8 * bits h 4 8 else 6
  let sq := (s.cel.word pos 1, s.cel.word pos 2)
  let s := s.sendFlits 0 (s.rackFlits pos len sq (if kind = 2 then s.prepAddrs sq else []))
  s.modCel fun c => { c with unacked := c.unacked ++ [sq] }

/-- A posting past its commit point completes: balances, locks, prepared table, G1 to G3, flags, and the
instruction retires (07 R152, R161, R164, R165). -/
def State.finishPosting (s : State) (p : Posting) (lone : Bool) : State :=
  let s := s.modCel fun c =>
    { c with
      posts := c.posts.filter fun q => q.core != p.core
      lone := if lone then (c.lone + 1) % 2 ^ 36 else c.lone }
  let dropPrep (s : State) : State :=
    (s.modCel fun c => { c with prepared := c.prepared.filter fun q => !(q.seq0 == p.prep0 && q.seq1 == p.prep1) }).unlock
      (.prepared p.prep0 p.prep1)
  let s : State := match p.kind with
    | .post => (s.applyBalances (p.legs.flatMap Leg.addrs) (p.legs.flatMap Leg.new)).unlock (.core p.core)
    | .prep => s.modCel fun c =>
        { c with locks := c.locks.map fun (l : Nat × Holder) =>
            if l.2 = .core p.core then (l.1, .prepared p.seq0 p.seq1) else l }
    | .conf =>
      match s.cel.prepared.find? fun q => q.seq0 == p.prep0 && q.seq1 == p.prep1 with
      | some q => dropPrep (s.applyBalances q.addrs q.new.flatten)
      | none => s
    | .abrt => dropPrep s
  let s := s.modCore p.core fun k =>
    (((k.postResult (postStatus 0 none 0 lone)).setG 2 p.seq0).setG 3 p.seq1)
  s.retire p.core 2 .seq

/-- Words admitted and not yet durable (07 R160). -/
def Cellar.inFlight (c : Cellar) : Nat := (c.flying.map Flying.len).foldl (· + ·) 0

/-- The body of a posting's record (07 Table 07-9). -/
def Posting.body (p : Posting) : List Word :=
  match p.kind with
  | .post | .prep => p.legs.flatMap fun l => [l.acct, l.lflags] ++ l.amt ++ l.new
  | .conf | .abrt => [p.prep0, p.prep1]

/-- KIND of a posting's record. -/
def PKind.recKind : PKind → Nat
  | .post => 1
  | .prep => 2
  | .conf => 3
  | .abrt => 4

/-- The commit point: the record is appended and flies (07 R161); PREP enters the prepared table (R164). -/
def State.commitPosting (s : State) (p : Posting) : State :=
  let (c, pos, sq) := s.cel.appendRec p.core s.rackMode p.kind.recKind p.legs.length p.dom p.ref p.body
  let p := { p with
    stage := .durable, seq0 := sq.1, seq1 := sq.2, pos := pos, len := 4 + p.body.length
    sync := decide (s.rackMode = 2) }
  let c := { c with
    posts := c.posts.map fun q => if q.core = p.core then p else q
    prepared :=
      if p.kind = .prep then
        c.prepared ++ [{ seq0 := sq.1, seq1 := sq.2, dom := p.dom, addrs := p.legs.flatMap Leg.addrs,
                         new := p.legs.map Leg.new, settled := false }]
      else c.prepared
    recAddrs := if p.kind = .prep then (sq.1, sq.2, p.legs.flatMap Leg.addrs) :: c.recAddrs else c.recAddrs }
  ({ s with cel := c }).modCore p.core fun k => { k with wait := some .commitPhase }

/-- The prepared posting of a sequence number that no confirm or abort has settled (07 R165). -/
def State.openPrepared (s : State) (q0 q1 : Word) : Option Prepared :=
  if s.cel.posts.any fun p => p.committed && p.prep0 == q0 && p.prep1 == q1 then none
  else s.cel.prepared.find? fun q => q.seq0 == q0 && q.seq1 == q1

/-- A posting refused as it waits for admission. -/
def State.turnAway (s : State) (p : Posting) (code : Nat) : State :=
  (s.refusePosting p.core (postStatus code none 0 false)).retire p.core 2 .seq

/-- Admission (07 R160): refused with FULL, waiting still, or past the commit point. What keeps postings out does so here
too, and a prepared posting that another instruction settled meanwhile is gone (07 R165, R176; 15 R374, R385). An
activation pause holds it (16 Table 16-6). LOW_MARK applies here (07 R180). -/
def State.admitPosting (s : State) (p : Posting) : State :=
  let len := 4 + p.body.length
  let own := if p.kind = .prep then 3 else 0
  if s.steep.pausing = true then s else
  let s := s.modCel fun c => { c with lowMark := (s.preg pgCellar 0o025).toNat }
  if s.postCode ≠ 0 then s.turnAway p s.postCode
  else if (p.kind = .conf ∨ p.kind = .abrt) ∧ (s.openPrepared p.prep0 p.prep1).isNone = true then s.turnAway p 0o050
  else if (p.kind = .post ∨ p.kind = .prep) ∧ s.cel.freePairs < s.cel.need len + own then
    s.turnAway p 0o016
  else if s.cel.inFlight + len > 320 ∨
      (s.rackMode = 1 ∧ s.paired = true ∧ 64 ≤ s.cel.unacked.length) then s
  else s.commitPosting p

/-- The checkpoint for the next tail scan, written once 32,768 pairs are durable beyond the last; the manual
asks for one at least every 65,536 (07 R173, log entry 4). -/
def Cellar.checkpoint (c : Cellar) (f : Flying) : Cellar :=
  let fin := posAdv f.pos (f.len / 2)
  if 32768 ≤ posDist c.ckpt fin then
    { c with
      ckpt := fin
      ckptTerm := seqTerm f.first1
      ckptCount := (seqCount f.first1 (c.word f.pos 2) + 1) % 2 ^ 56 }
  else c

/-- The oldest flying record becomes durable: its first pair is written, it settles the prepared posting that it names,
it is racked where the twin is paired for the mode of its admission, and its posting completes unless it waits for the
twin (07 R161, R171, R174, R175, R180). -/
def State.recordDurable (s : State) : State :=
  match s.cel.flying with
  | [] => s
  | f :: rest =>
    let c := s.cel.write f.pos 0 [f.first0, f.first1]
    let c := { c with flying := rest, last0 := f.first1, last1 := c.word f.pos 2 }
    let settles := decide (bits f.first0 0 3 = 3) || decide (bits f.first0 0 3 = 4)
    let c := if settles then
        { c with prepared := c.prepared.map fun (q : Prepared) =>
            { q with settled := q.settled || (q.seq0 == c.word f.pos 4 && q.seq1 == c.word f.pos 5) } }
      else c
    let s := { s with cel := c.checkpoint f }
    let racks := decide (f.mode ≠ 0) && s.pairedFor f.mode
    let s := if racks || s.catchingFor f.mode then s.rackRecord f.pos else s
    match s.postingOf f.core with
    | none => s
    | some p =>
      if p.stage = .durable ∧ p.pos = f.pos then
        if p.sync = true ∧ racks = true then
          s.modCel fun c =>
            { c with posts := c.posts.map fun q => if q.core = p.core then { q with stage := .racking } else q }
        else s.finishPosting p (p.sync && !racks)
      else s

/-- The twin acknowledges every record up to the one named, in COUNT order (15 R378; 07 R170). -/
def State.rackAcked (s : State) (s0 s1 : Word) : State :=
  let covered (sq : Word × Word) : Bool := !countBefore (seqCount s0 s1) (seqCount sq.1 sq.2)
  let done := s.cel.posts.filter fun p => decide (p.stage = .racking) && covered (p.seq0, p.seq1)
  let s := s.modCel fun c => { c with unacked := c.unacked.filter fun sq => !covered sq }
  done.foldl (fun s p => s.finishPosting p false) s

/-- No acknowledgement within 4.0 µs of the commit point: the posting completes with LONE (07 R162, R175). -/
def State.completeLone (s : State) (n : Nat) : State :=
  match s.postingOf n with
  | some p => if p.stage = .racking then s.finishPosting p true else s
  | none => s

/-- The Cellar drains (07 R176): postings before admission are refused with STATE. Those past their commit point go on as
before, each to its record's durability and to the twin's acknowledgement or its 4.0 µs. -/
def State.cellarDrain (s : State) : State :=
  let early := s.cel.posts.filter fun p => !p.committed
  let s := early.foldl (fun s p => s.turnAway p 0o010) s
  s.modCel fun c => if c.st = .service then { c with st := .drain } else c

/-- What a restart finds of the Cellar: MRAM keeps the ring, the checkpoint, the prepared table, the archive position
and the laps; a tail scan is to come (07 R173, R177; log entry 4). -/
def Cellar.restart (c : Cellar) : Cellar :=
  { Cellar.reset with
    ring := c.ring, append := c.ckpt, archive := c.archive, count := c.ckptCount, term := c.ckptTerm
    lapTotal := c.lapTotal, prepared := c.prepared, ckpt := c.ckpt, ckptTerm := c.ckptTerm, ckptCount := c.ckptCount
    last0 := c.last0, last1 := c.last1, recAddrs := c.recAddrs }

end Sys2Proof.Machine
end

