-- ==== Sys2Proof/Machine/QueueOps.lean ====
section
/-! DEFINITION. The queue manager: contexts, entry, diversion, release and signalling of tickets
(13 R308-R326). -/

namespace Sys2Proof.Machine

/-- The context of a queue. -/
def State.queue (s : State) (q : Nat) : QCtx := tget QCtx.reset s.que.q q
def State.setQueue (s : State) (q : Nat) (c : QCtx) : State :=
  { s with que := { s.que with q := tset QCtx.reset s.que.q q c } }

/-- Fields of a context (13 Table 13-3). -/
def QCtx.kind (c : QCtx) : Nat := bits c.ctl 3 4
def QCtx.dur (c : QCtx) : Bool := bit c.ctl 5
def QCtx.clu (c : QCtx) : Nat := bits c.ctl 10 12
def QCtx.cls (c : QCtx) : Nat := bits c.ctl 13 16
def QCtx.prio (c : QCtx) : Nat := bits c.ctl 17 19
def QCtx.dom (c : QCtx) : Nat := bits c.ctl 20 31
def QCtx.errq (c : QCtx) : Nat := bits c.link 0 13
def QCtx.fn (c : QCtx) : Nat := bits c.link 14 20
def QCtx.msix (c : QCtx) : Nat := bits c.link 21 31
def QCtx.log (c : QCtx) : Nat := bits c.shape 31 35
def QCtx.size (c : QCtx) : Nat := 2 ^ c.log
def QCtx.rbase (c : QCtx) : Nat := bits c.ring 0 33 * 64
def QCtx.attEn (c : QCtx) : Bool := bit c.att 34
def QCtx.attPa (c : QCtx) : Nat := bits c.att 0 33 * 64

/-- Queue states (13 Table 13-4). -/
abbrev qOff : Nat := 0
abbrev qRun : Nat := 1
abbrev qHold : Nat := 2
abbrev qMoving : Nat := 3
abbrev qSuspend : Nat := 4

/-- Tickets waiting, and a full ring (13 R313). -/
def QCtx.waiting (c : QCtx) : Nat := (c.tail + 2 ^ 17 - c.head) % 2 ^ 17
def QCtx.full (c : QCtx) : Bool := decide ((c.tail + 2 ^ 17 - c.ret) % 2 ^ 17 = c.size)

/-- Tickets waiting that may be delivered (13 R326). -/
def QCtx.ready (c : QCtx) : Bool := !c.released.isEmpty || decide (c.head ≠ c.deliver)

/-- The physical words of a slot. -/
def QCtx.slotPa (c : QCtx) (p : Nat) : Nat := c.rbase + 4 * (p % c.size)
def QCtx.attSlotPa (c : QCtx) (p : Nat) : Nat := c.attPa + 32 * (p % c.size)

/-- A queue's half is powered (13 R311). -/
def State.halfOn (s : State) (q : Nat) : Bool :=
  !(s.pwr.off.any fun d => d == .queueHalf (if q < 8192 then 0 else 1))

/-- The queue accepts tickets (13 Table 13-4); a source queue of a bucket move goes on taking those that reach it
before its tickets are shipped (13 R337). -/
def State.accepts (s : State) (q : Nat) : Bool :=
  s.halfOn q && (decide ((s.queue q).st = qRun) || decide ((s.queue q).st = qHold) ||
    decide ((s.queue q).st = qMoving))

/-- A fitted twin holds the hold, or nobody: this device delivers nothing from durable queues (15 R379). -/
def State.standby (s : State) : Bool := s.straps.twin && !s.twin.hold

/-- A queue is eligible for TAKE on a ledger core (13 R320). -/
def State.eligible (s : State) (q n : Nat) : Bool :=
  let c := s.queue q
  let k := s.core n
  decide (n < 64) && s.halfOn q && decide (c.kind = 0) && decide (c.st = qRun) &&
    decide (c.clu = clusterOf n) && decide (c.dom = k.domTok.dom) &&
    bit (s.preg n 0o032) (20 + c.cls) && c.ready && !(c.dur && s.standby)

/-- Vector 32 at the lowest core in WAIT that may take from the queue (13 R325). -/
def State.signal (s : State) (q : Nat) : State :=
  match (List.range 64).find? fun n => decide ((s.core n).run = .waiting) && s.eligible q n with
  | some n => s.pendInt n 32
  | none => s

/-- RET as the oldest slot in service or released, else HEAD (13 R323). -/
def QCtx.retNow (c : QCtx) : Nat :=
  let held := c.inServ.map Prod.snd ++ c.released
  let dist (p : Nat) : Nat := (p + 2 ^ 17 - c.ret) % 2 ^ 17
  held.foldl (fun m p => if dist p < dist m then p else m) c.head

/-- A flit of a durable queue's event (15 Table 15-5a). -/
def qrackFlit (qe q : Nat) (w1 w2 w3 : Word) : Flit := mkFlit 0o023 (fld 0 3 qe ||| fld 4 17 q) w1 w2 w3

/-- This device racks to a paired twin (15 R378). -/
def State.racksQueues (s : State) : Bool := s.paired && s.twin.hold && decide (s.rackMode ≠ 0)

/-- Store a context whose RET may have advanced, racking a new RET of a durable queue (13 R326). -/
def State.settleRet (s : State) (q : Nat) (c : QCtx) : State :=
  let r := c.retNow
  let s := s.setQueue q { c with ret := r }
  if c.dur && decide (r ≠ c.ret) && (s.racksQueues || s.catching) then s.sendFlits 0 [qrackFlit 3 q (wd r) 0 0] else s

/-- An MSI-X entry is signalled for a function (19 R463). -/
def State.msi (s : State) (fn entry : Nat) : State := { s with msix := s.msix ++ [(fn, entry)] }

/-- The function and entry that an MSIX value names (19 R463). -/
def msixOf (v : Nat) : Nat × Nat := if v < 1024 then (0, v) else ((v - 1024) / 16 + 1, (v - 1024) % 16)

/-- The message of a host queue, sent only where its entry belongs to the queue's function (19 R463). -/
def State.sendMsix (s : State) (c : QCtx) : State :=
  let e := msixOf c.msix
  if e.1 = c.fn then s.msi e.1 e.2 else s.bump pgPcie 0o023 1

/-- A ticket enters a queue that accepts it and has room: written at slot TAIL, its attachment copied,
TAIL advanced, racked where durable, signalled (13 R314, R318, R325-R327). -/
def State.enterQueue (s : State) (q : Nat) (t : List Word) (att : Option (List Word)) : State :=
  let c := s.queue q
  let slot := c.tail % c.size
  let tf := t.getD 1 0
  let attn := bits tf 22 26
  let t := if att.isSome ∧ attn ≠ 0 then t.set 3 (mkPtr (bits c.attv 0 31 + 32 * slot) 0) else t
  let s := (t.take 4).zipIdx.foldl (fun s wi => s.engineWrite (c.slotPa c.tail + wi.2) wi.1) s
  let s := ((att.getD []).take attn).zipIdx.foldl
    (fun s wi => s.engineWrite (c.attSlotPa c.tail + wi.2) wi.1) s
  let tail := (c.tail + 1) % 2 ^ 17
  let rackIt := c.dur && (s.racksQueues || s.catching)
  let hold := c.dur && s.racksQueues && decide (s.rackMode = 2)
  let c' := { c with
    tail := tail
    head := if c.kind = 2 then tail else c.head
    deliver := if hold then c.deliver else tail
    unracked := if c.dur && !rackIt then c.unracked ++ [c.tail] else c.unracked }
  let s := s.setQueue q c'
  let s := if rackIt then
      s.sendFlits 0 [qrackFlit 1 q (wd tail) (t.getD 0 0) (t.getD 1 0), qrackFlit 2 q 0 (t.getD 2 0) (t.getD 3 0)]
    else s
  if c.kind = 2 then s.sendMsix c
  else if c.kind = 0 ∧ c.waiting = 0 then s.signal q else s

/-- A ticket that can go nowhere: QDROP, the sticky record (13 R317). -/
def State.discardTicket (s : State) (q : Nat) : State :=
  ((s.bump pgQueue 0o034 1).log 6 pgQueue 0 q).bump pgSticky 0o104 1

/-- A queue takes diverted tickets: of kind work, RUN or HOLD, with room (13 R317). -/
def State.takesDiverted (s : State) (q : Nat) : Bool :=
  let c := s.queue q
  s.halfOn q && decide (c.kind = 0) && (decide (c.st = qRun) || decide (c.st = qHold)) && !c.full

/-- Diversion to the ERRQ of queue q with a code, raising vector 33 at the steward (13 R315, R317). -/
def State.divert (s : State) (q err : Nat) (t : List Word) : State :=
  let s := s.pendInt 64 33
  let e := (s.queue q).errq
  let t := t.set 1 (setBits (t.getD 1 0) 18 21 err)
  if s.takesDiverted e then s.enterQueue e t none
  else s.discardTicket q

/-- A ticket for queue q from routing, a doorbell or the link: entered, or diverted with the cause of Table
13-6 to the ERRQ of the queue where the failure was found. -/
def State.deliverTicket (s : State) (q : Nat) (t att : List Word) : State :=
  let c := s.queue q
  let tf := t.getD 1 0
  if !s.accepts q || decide (c.kind = 1) then s.divert q 4 t
  else if bits tf 22 26 ≠ 0 ∧ c.attEn = false then s.divert q 5 t
  else if c.full then s.divert q 1 t
  else s.enterQueue q t (some att)

/-- The ticket in service on a core is released for redelivery (13 R323). -/
def State.releaseTicket (s : State) (n : Nat) : State :=
  match (s.core n).serv with
  | none => s
  | some (q, p) =>
    let c := s.queue q
    let dist (x : Nat) : Nat := (x + 2 ^ 17 - c.ret) % 2 ^ 17
    let before := c.released.filter fun x => decide (dist x < dist p)
    let rest := c.released.filter fun x => !decide (dist x < dist p)
    let s := s.setQueue q
      { c with
        inServ := c.inServ.filter fun e => e.1 != n
        released := before ++ [p] ++ rest }
    (s.modCore n fun k => { k with serv := none }).signal q

end Sys2Proof.Machine
end

