-- ==== Sys2Proof/Machine/Fatal.lean ====
section
/-! DEFINITION. Core reset, the last-gasp copy and a fatal device error (17 R430; 18 R433, R448). -/

namespace Sys2Proof.Machine

/-- A posting of core n past its commit point runs to its end (07 R161). -/
def State.completeCommitted (s : State) (n : Nat) : State :=
  match s.postingOf n with
  | some p =>
    if p.committed then
      let s := s.cel.flying.foldl (fun s _ => s.recordDurable) s
      match s.postingOf n with
      | some q => s.finishPosting q true
      | none => s
    else s.abandonPosting n
  | none => s

/-- Dirty lines of core n's data cache are written back. -/
def State.flushDcache (s : State) (n : Nat) : State :=
  let ls := (s.core n).dcache
  let s := s.modCore n fun k => { k with dcache := [] }
  ls.foldl (fun s l => s.dcEvict n l) s

/-- A core reset of ledger core n (18 Table 18-2): its stores become visible and its dirty lines are written back; it
keeps its control store, its core page, and the stores of DEV pages that are still to drain (log entry 45). A request
in the Kiln runs on, and nothing collects it (14 R356). -/
def State.resetCore (s : State) (n : Nat) : State :=
  let s := ((s.completeCommitted n).flushStores n).flushDcache n
  let s := (s.modCore n fun k => { k with run := .reset }).releaseTicket n
  let s := s.modCore n fun k =>
    { Core.reset with
      sb := k.sb
      csBad := k.csBad
      micro := k.micro
      pitching := k.pitching
      kreq := k.kreq.map fun r => { r with bank := 4 } }
  (s.setPreg n 0o022 0).setPreg n 0o021 2

/-- The PCI Express endpoint loses its state: its registers and its MSI-X tables (18 Table 18-2, Table 18-4). -/
def State.resetEndpoint (s : State) : State :=
  { s with
    pregs := s.pregs.filter fun e => !(decide (e.1 / 256 = pgPcie) && decide (16 ≤ e.1 % 256))
    msixTab := [] }

/-- A sticky record register as it reads (17 Table 17-8). -/
def State.stickyReg (s : State) (off : Nat) : Word :=
  if off = 0o021 then wd (bits (s.preg pgKiln 0o037) 27 35)
  else if off = 0o023 then wd (s.pwr.us / 2 ^ 36)
  else if off = 0o024 then wd s.pwr.us
  else if off = 0o030 then
    tget 0 s.lgasp (272 * bits (s.preg pgSticky 0o026) 1 1 + bits (s.preg pgSticky 0o027) 27 35)
  else if 0o020 ≤ off ∧ off ≤ 0o111 then s.preg pgSticky off
  else 0

/-- The newest valid last-gasp slot (17 R430): `lgLast` names the one written last. -/
def State.lgNewest (s : State) : Option Nat :=
  match decide (tget 0 s.lgasp 0 ≠ 0), decide (tget 0 s.lgasp 272 ≠ 0) with
  | false, false => none
  | true, false => some 0
  | false, true => some 1
  | true, true => some s.lgLast

/-- The last-gasp copy (17 R430): into the slot other than the newest valid one. -/
def State.lastGasp (s : State) (why : Nat) : State :=
  let sl := match s.lgNewest with
    | some 0 => 1
    | _ => 0
  let mark := fld 0 5 why ||| fld 6 35 (bits (s.preg pgSticky 0o025) 6 35)
  let ws := [mark, wd (s.pwr.us / 2 ^ 36), wd s.pwr.us, 0] ++
    (List.range 64).map (fun i => s.stickyReg (0o020 + i)) ++
    (List.range 100).map (fun p => s.preg p 3) ++ (List.range 100).map (fun p => s.preg p 4)
  { s with
    lgLast := sl
    lgasp := ws.zipIdx.foldl (fun t wi => tset 0 t (272 * sl + wi.2) wi.1) s.lgasp }

/-- TWIN_HOLD is released (15 R374). -/
def State.releaseHold (s : State) : State := { s with twin := { s.twin with hold := false } }

/-- A fatal device error with SR_FATAL.CAUSE and last-gasp WHY (18 R448). SYS_STATE goes to FATAL; the
steward stops (log entry 19). A second one while it lasts changes nothing. -/
def State.fatal (s : State) (cause why : Nat) : State :=
  if s.sys = 7 then s else
  let s := (s.releaseHold).cellarDrain
  let s := (s.setPreg pgSticky 0o022 (wd cause)).log 2 pgSys 0 cause
  let s := s.lastGasp why
  let s := (List.range 64).foldl (fun s n => s.resetCore n) s
  let s := s.modCore 64 fun k => { k with run := .halted, wait := none }
  { s with sys := 7 }

end Sys2Proof.Machine
end

