-- ==== Sys2Proof/Machine/Floating.lean ====
section
/-! DEFINITION. The floating formats and operations (02 R30-R32; 04 R90-R96), and the completion of an
operation that the floating unit holds (04 R87, R96). -/

namespace Sys2Proof.Machine

/-- A floating format (02 Table 02-6): exponent and fraction widths; the bias is 2^(ebits-1) - 1. -/
structure Fmt where
  ebits : Nat
  fbits : Nat
  deriving DecidableEq, Repr

def fmt36 : Fmt := { ebits := 9, fbits := 26 }
def fmt72 : Fmt := { ebits := 13, fbits := 58 }
def fmtOf (dbl : Bool) : Fmt := if dbl then fmt72 else fmt36

def Fmt.bias (f : Fmt) : Nat := 2 ^ (f.ebits - 1) - 1
def Fmt.emax (f : Fmt) : Int := f.bias
def Fmt.emin (f : Fmt) : Int := 1 - (f.bias : Int)
def Fmt.width (f : Fmt) : Nat := 1 + f.ebits + f.fbits

/-- A value: a finite one is (-1)^s m 2^e. -/
inductive FVal where
  | nan (s : Bool) (frac : Nat) (quiet : Bool)
  | inf (s : Bool)
  | fin (s : Bool) (m : Nat) (e : Int)
  deriving DecidableEq, Repr

/-- Read an encoding (02 R31). -/
def Fmt.decode (f : Fmt) (v : Nat) : FVal :=
  let s := v.testBit (f.width - 1)
  let e := v / 2 ^ f.fbits % 2 ^ f.ebits
  let m := v % 2 ^ f.fbits
  if e = 2 ^ f.ebits - 1 then (if m = 0 then .inf s else .nan s m (m.testBit (f.fbits - 1)))
  else if e = 0 then .fin s m (f.emin - f.fbits)
  else .fin s (m + 2 ^ f.fbits) ((e : Int) - f.bias - f.fbits)

/-- Assemble an encoding. -/
def Fmt.pack (f : Fmt) (s : Bool) (e m : Nat) : Nat :=
  s.toNat * 2 ^ (f.width - 1) + e * 2 ^ f.fbits + m

def Fmt.infEnc (f : Fmt) (s : Bool) : Nat := f.pack s (2 ^ f.ebits - 1) 0
def Fmt.zeroEnc (f : Fmt) (s : Bool) : Nat := f.pack s 0 0
def Fmt.maxEnc (f : Fmt) (s : Bool) : Nat := f.pack s (2 ^ f.ebits - 2) (2 ^ f.fbits - 1)

/-- The default quiet NaN (02 Table 02-7). -/
def Fmt.defaultNan (f : Fmt) : Nat := f.pack false (2 ^ f.ebits - 1) (2 ^ (f.fbits - 1))

/-- A NaN quieted (04 R92). -/
def Fmt.quietEnc (f : Fmt) (s : Bool) (frac : Nat) : Nat :=
  f.pack s (2 ^ f.ebits - 1) (frac ||| 2 ^ (f.fbits - 1))

/-- The five flags NV, DZ, OF, UF, NX as a number of 5 bits, NV most significant (04 Table 04-4). -/
abbrev fNV : Nat := 16
abbrev fDZ : Nat := 8
abbrev fOF : Nat := 4
abbrev fUF : Nat := 2
abbrev fNX : Nat := 1

/-- Round m 2^e (plus less than one unit of m where `sticky`) to a multiple of 2^q under mode rm: the
multiple and whether it is inexact. -/
def roundAt (rm : Nat) (s : Bool) (m : Nat) (e : Int) (sticky : Bool) (q : Int) : Nat × Bool :=
  if q ≤ e then (m * 2 ^ (e - q).toNat, sticky)
  else
    let k := (q - e).toNat
    let t := m / 2 ^ k
    let r := m % 2 ^ k
    let inexact := decide (r ≠ 0) || sticky
    let half := 2 ^ (k - 1)
    let above := decide (half < r) || (decide (r = half) && sticky)
    let tie := decide (r = half) && !sticky
    let up :=
      match rm with
      | 0 => above || (tie && decide (t % 2 = 1))
      | 1 => false
      | 2 => !s && inexact
      | 3 => s && inexact
      | _ => above || tie
    (if up then t + 1 else t, inexact)

/-- Round once to a format (04 R91, R93). -/
def Fmt.round (f : Fmt) (rm : Nat) (ufe ftz s : Bool) (m : Nat) (e : Int) (sticky : Bool) : Nat × Nat :=
  if m = 0 ∧ sticky = false then (f.zeroEnc s, 0)
  else
    let p := f.fbits + 1
    let top := e + (m.log2 : Int)
    let q1 := top - (p - 1 : Nat)
    let r1 := roundAt rm s m e sticky q1
    let tiny := decide ((r1.1 : Int) * 2 ^ (max 0 (q1 - (f.emin - f.fbits))).toNat <
        (2 : Int) ^ (f.fbits + (max 0 (f.emin - f.fbits - q1)).toNat))
    let q := max q1 (f.emin - f.fbits)
    let (r, inexact) := roundAt rm s m e sticky q
    let (r, q) := if r = 2 ^ p then (2 ^ (p - 1), q + 1) else (r, q)
    if ftz = true ∧ tiny = true then (f.zeroEnc s, fUF + fNX)
    else if 2 ^ (p - 1) ≤ r ∧ q + f.fbits > f.emax then
      let toInf := match rm with
        | 0 => true
        | 1 => false
        | 2 => !s
        | 3 => s
        | _ => true
      (if toInf then f.infEnc s else f.maxEnc s, fOF + fNX)
    else
      let enc :=
        if r < 2 ^ (p - 1) then f.pack s 0 r
        else f.pack s (q + f.fbits + f.bias).toNat (r - 2 ^ (p - 1))
      (enc, (if tiny = true ∧ (inexact = true ∨ ufe = true) then fUF else 0) + (if inexact then fNX else 0))

/-- A subnormal input reads as zero of its sign under FTZ (04 R93). -/
def Fmt.flush (f : Fmt) (ftz : Bool) (v : FVal) : FVal :=
  match v with
  | .fin s m e => if ftz = true ∧ m < 2 ^ f.fbits then .fin s 0 e else v
  | _ => v

/-- A subnormal operand. -/
def Fmt.subnormal (f : Fmt) (x : Nat) : Bool :=
  match f.decode x with
  | .fin _ m _ => decide (0 < m) && decide (m < 2 ^ f.fbits)
  | _ => false

/-- The first NaN among operands in order, quieted, with NV where any signals (04 R92). -/
def Fmt.nanOf (f : Fmt) (vs : List FVal) : Option (Nat × Nat) :=
  let nv := vs.any fun v => match v with
    | .nan _ _ false => true
    | _ => false
  (vs.findSome? fun v => match v with
    | .nan s m _ => some (f.quietEnc s m)
    | _ => none).map fun r => (r, if nv then fNV else 0)

/-- Exact integer square root. -/
def isqrt (n : Nat) : Nat :=
  (List.range (n.log2 / 2 + 1)).reverse.foldl
    (fun r i => if (r + 2 ^ i) * (r + 2 ^ i) ≤ n then r + 2 ^ i else r) 0

/-- The sum of two finite values, exact: sign, magnitude, exponent; none sign where it is an exact zero
of opposite signs. -/
def exactSum (s1 : Bool) (m1 : Nat) (e1 : Int) (s2 : Bool) (m2 : Nat) (e2 : Int) : Int × Int :=
  let e := min e1 e2
  let a : Int := (m1 * 2 ^ (e1 - e).toNat : Nat)
  let b : Int := (m2 * 2 ^ (e2 - e).toNat : Nat)
  ((if s1 then -a else a) + (if s2 then -b else b), e)

/-- Round an exact signed sum; zero takes the sign rule of R91. -/
def Fmt.roundSum (f : Fmt) (rm : Nat) (ufe ftz : Bool) (s1 s2 : Bool) (v e : Int) : Nat × Nat :=
  if v = 0 then (f.zeroEnc (if s1 = s2 then s1 else decide (rm = 3)), 0)
  else f.round rm ufe ftz (decide (v < 0)) v.natAbs e false

/-- The operations of Table 04-5 but FCVT and FCMP, on encodings x, y and addend z: result and flags. Two subnormal
operands under FTZ sum to a zero that is +0 in every mode where their signs differ (04 R101). -/
def Fmt.compute (f : Fmt) (op : FOp) (rm : Nat) (ufe ftz : Bool) (x y z : Nat) : Nat × Nat :=
  let a := f.flush ftz (f.decode x)
  let b := f.flush ftz (f.decode y)
  let c := f.flush ftz (f.decode z)
  let invalid := (f.defaultNan, fNV)
  let addSub (b : FVal) : Nat × Nat :=
    match a, b with
    | .inf s, .inf t => if s = t then (f.infEnc s, 0) else invalid
    | .inf s, _ => (f.infEnc s, 0)
    | _, .inf t => (f.infEnc t, 0)
    | .fin s m e, .fin t n d =>
      let r := exactSum s m e t n d
      if ftz && f.subnormal x && f.subnormal y then (f.zeroEnc (s && t), 0)
      else f.roundSum rm ufe ftz s t r.1 r.2
    | _, _ => invalid
  let negv (v : FVal) : FVal :=
    match v with
    | .inf s => .inf !s
    | .fin s m e => .fin (!s) m e
    | w => w
  match op with
  | .add => (f.nanOf [a, b]).getD (addSub b)
  | .sub => (f.nanOf [a, b]).getD (addSub (negv b))
  | .mul => (f.nanOf [a, b]).getD
      (match a, b with
        | .inf s, .inf t => (f.infEnc (s != t), 0)
        | .inf s, .fin t n _ => if n = 0 then invalid else (f.infEnc (s != t), 0)
        | .fin s m _, .inf t => if m = 0 then invalid else (f.infEnc (s != t), 0)
        | .fin s m e, .fin t n d => f.round rm ufe ftz (s != t) (m * n) (e + d) false
        | _, _ => invalid)
  | .div => (f.nanOf [a, b]).getD
      (match a, b with
        | .inf _, .inf _ => invalid
        | .inf s, .fin t _ _ => (f.infEnc (s != t), 0)
        | .fin s _ _, .inf t => (f.zeroEnc (s != t), 0)
        | .fin s m e, .fin t n d =>
          if n = 0 then (if m = 0 then invalid else (f.infEnc (s != t), fDZ))
          else if m = 0 then (f.zeroEnc (s != t), 0)
          else
            let k := f.fbits + 4 + n.log2
            f.round rm ufe ftz (s != t) (m * 2 ^ k / n) (e - d - k) (decide (m * 2 ^ k % n ≠ 0))
        | _, _ => invalid)
  | .sqrt => (f.nanOf [b]).getD
      (match b with
        | .inf s => if s then invalid else (f.infEnc false, 0)
        | .fin s m e =>
          if m = 0 then (f.zeroEnc s, 0)
          else if s then invalid
          else
            let k := 2 * (f.fbits + 4)
            let (m, e) := if e % 2 = 0 then (m, e) else (m * 2, e - 1)
            let v := m * 2 ^ k
            let r := isqrt v
            f.round rm ufe ftz false r ((e - k) / 2) (decide (r * r ≠ v))
        | _ => invalid)
  | .fma np na =>
    let prodInvalid := match a, b with
      | .inf _, .fin _ n _ => decide (n = 0)
      | .fin _ m _, .inf _ => decide (m = 0)
      | _, _ => false
    let c' := if na then negv c else c
    match f.nanOf [a, b, c] with
    | some (r, fl) => (r, if prodInvalid then fNV else fl)
    | none =>
      if prodInvalid then invalid
      else
        let prod : FVal := match a, b with
          | .inf s, .inf t => .inf (s != t)
          | .inf s, .fin t _ _ => .inf (s != t)
          | .fin s _ _, .inf t => .inf (s != t)
          | .fin s m e, .fin t n d => .fin (s != t) (m * n) (e + d)
          | _, _ => .fin false 0 0
        let prod := if np then negv prod else prod
        match prod, c' with
        | .inf s, .inf t => if s = t then (f.infEnc s, 0) else invalid
        | .inf s, _ => (f.infEnc s, 0)
        | _, .inf t => (f.infEnc t, 0)
        | .fin s m e, .fin t n d =>
          let r := exactSum s m e t n d
          f.roundSum rm ufe ftz s t r.1 r.2
        | _, _ => invalid
  | .cvt _ => invalid

/-- The conversions of FCVT on source bits y (04 R92-R94). -/
def fcvt (k : Cvt) (rm : Nat) (ufe ftz : Bool) (y : Nat) : Nat × Nat :=
  let toWord (f : Fmt) : Nat × Nat :=
    match f.flush ftz (f.decode y) with
    | .nan _ _ _ => (2 ^ 35, fNV)
    | .inf s => (if s then 2 ^ 35 else 2 ^ 35 - 1, fNV)
    | .fin s m e =>
      let (r, inexact) := roundAt rm s m e false 0
      let v : Int := if s then -(r : Int) else r
      if v < -(2 ^ 35) ∨ (2 ^ 35 : Int) ≤ v then (if s then 2 ^ 35 else 2 ^ 35 - 1, fNV)
      else ((wdInt v).toNat, if inexact then fNX else 0)
  let fromWord (f : Fmt) : Nat × Nat :=
    let v := sgn 36 y
    f.round rm ufe ftz (decide (v < 0)) v.natAbs 0 false
  let convert (f g : Fmt) (flush : Bool) : Nat × Nat :=
    match f.flush flush (f.decode y) with
    | .nan s m q =>
      let m' := if f.fbits ≤ g.fbits then m * 2 ^ (g.fbits - f.fbits) else m / 2 ^ (f.fbits - g.fbits)
      (g.quietEnc s m', if q then 0 else fNV)
    | .inf s => (g.infEnc s, 0)
    | .fin s m e => g.round rm ufe (ftz && flush) s m e false
  match k with
  | .sw => fromWord fmt36
  | .dw => fromWord fmt72
  | .ws => toWord fmt36
  | .wd => toWord fmt72
  | .sd => convert fmt72 fmt36 ftz
  | .ds => convert fmt36 fmt72 false

/-- N Z V C of FCMP as a number, and its flags (04 R95, Table 04-6). -/
def Fmt.compare (f : Fmt) (x y : Nat) : Nat × Nat :=
  match f.decode x, f.decode y with
  | .nan _ _ q, .nan _ _ r => (2, if q && r then 0 else fNV)
  | .nan _ _ q, _ => (2, if q then 0 else fNV)
  | _, .nan _ _ r => (2, if r then 0 else fNV)
  | a, b =>
    let key (v : FVal) : Int × Int :=
      match v with
      | .inf s => (if s then -1 else 1, 0)
      | .fin s m e => (0, (if s then -1 else 1) * (m * 2 ^ (e - (f.emin - f.fbits)).toNat : Nat))
      | .nan _ _ _ => (0, 0)
    let d := if (key a).1 = (key b).1 then (key a).2 - (key b).2 else (key a).1 - (key b).1
    (if d < 0 then 8 else if d = 0 then 5 else 1, 0)

/-- Result and flags of an operation in flight under the enables it was issued with (04 R91). -/
def FpuOp.result (o : FpuOp) : Nat × Nat :=
  let ufe := bit o.en 7
  match o.op with
  | .cvt k => fcvt k o.rm ufe o.ftz o.y
  | op => (fmtOf o.dbl).compute op o.rm ufe o.ftz o.x o.y o.z

/-- Flags raised by an operation at parcel pointer pc: sticky flags set, and the trap recorded where `en` enables
one; true where the destination may be written (04 R96). -/
def Core.fpFlags (k : Core) (fl : Nat) (pc en : Word) : Core × Bool :=
  let fsr := setBits k.fsr 9 13 (bits k.fsr 9 13 ||| fl)
  if fl &&& bits en 4 8 = 0 then ({ k with fsr := fsr }, true)
  else if bit fsr 19 then ({ k with fsr := setBit fsr 20 true }, false)
  else ({ k with fsr := setBits (setBit fsr 19 true) 14 18 fl, fq := pc }, false)

/-- A register table entry written by the floating unit; entries 0 and 8 are G0 of banks T and H, which
discard writes (03 R50). -/
def Core.setLoc (k : Core) (l : Nat) (w : Word) : Core :=
  if l = 0 ∨ l = 8 then k
  else
    { k with
      regs := tset 0 k.regs l w
      tdrt := if l < 8 ∨ (32 ≤ l ∧ l < 40) ∨ (64 ≤ l ∧ l < 256) then k.tdrt ||| 8 else k.tdrt }

/-- One operation of the floating unit completes (04 R87, R96). -/
def Core.completeFp (k : Core) (o : FpuOp) : Core :=
  let r := o.result
  let (k, ok) := k.fpFlags r.2 o.pc o.en
  if ok then
    if o.pair then (k.setLoc o.dst (wd (r.1 / 2 ^ 36))).setLoc (o.dst + 1) (wd r.1)
    else k.setLoc o.dst (wd r.1)
  else k

/-- Every operation in flight completes, oldest first (04 R98, R99). -/
def Core.drainFp (k : Core) : Core := k.fpu.foldl (fun k o => k.completeFp o) { k with fpu := [] }

end Sys2Proof.Machine
end

