-- ==== Sys2Proof/Machine/Entry.lean ====
section
/-! DEFINITION. Taking exceptions and interrupts, escalation, Halt-check and return (09 R206-R208, R212-R225;
10 R231-R253). -/

namespace Sys2Proof.Machine

/-- The page and offset of a core page register; the steward's namesakes stand 0o23 further on page 95
(17 Table 17-7). -/
def coreOff (n off : Nat) : Nat × Nat := if n < 64 then (n, off) else (pgSys, off + 0o023)

/-- A core page register of a core or of the steward. -/
def State.creg (s : State) (n off : Nat) : Word := s.preg (coreOff n off).1 (coreOff n off).2

/-- The two words of a vector entry, where both are populated (09 R218). -/
def State.vecWords (s : State) (n v : Nat) : Option (Word × Word) :=
  let pa := bits (s.creg n 0o023) 0 32 * 128 + 2 * v
  if s.populated n pa && s.populated n (pa + 1) then some ((s.rd pa).w, (s.rd (pa + 1)).w) else none

/-- A vector entry's handler, LEVEL, CLI and HOLD. -/
structure VecEntry where
  pc : Word
  level : Nat
  cli : Bool
  hold : Nat
  deriving DecidableEq, Repr

/-- A valid vector entry (09 R218, Table 09-8; 18 R439 for entry 0). -/
def State.vecEntry (s : State) (n v : Nat) : Option VecEntry :=
  match s.vecWords n v with
  | none => none
  | some (w0, w1) =>
    if bits w1 0 22 = 0 ∧ (v < 32 → bits w1 24 27 = 0) ∧
        (v ∈ [1, 2, 7, 8, 18, 19] → bits w1 28 35 = 0) ∧ (v = 0 → w1 = 0) ∧ ptrNib w0 ≤ 1 then
      some { pc := w0, level := bits w1 24 27, cli := bit w1 23, hold := bits w1 28 35 }
    else none

/-- CAUSE (10 Table 10-2). -/
def mkCause (vec sub detail : Nat) : Word := fld 16 21 vec ||| fld 22 25 sub ||| fld 26 35 detail

/-- The parcels of the instruction at a parcel pointer as memory holds it (log entry 10). -/
def State.lenOf (s : State) (n : Nat) (p : Word) : Nat :=
  let k := s.core n
  match k.lookup .fetch (ptrWord p) k.c0.dom with
  | none => 1
  | some e =>
    match s.engineRead (e.phys (ptrWord p)) with
    | .ok (c, _) => if 0o30 ≤ bits c.w (18 * (ptrNib p % 2)) (18 * (ptrNib p % 2) + 4) then 2 else 1
    | .error _ => 1

/-- Core n meets an instruction of `len` parcels at PC. -/
def State.noteLen (s : State) (n len : Nat) : State := s.modCore n fun k => { k with seen := some (k.pc, len) }

/-- The parcels of the instruction at PC, for the successor of PC in a frame (10 R239): as the core met it, else as
memory holds it. -/
def State.lenAt (s : State) (n : Nat) : Nat :=
  let k := s.core n
  match k.seen with
  | some (p, len) => if p = k.pc then len else s.lenOf n k.pc
  | none => s.lenOf n k.pc

/-- NPC as a frame holds it. -/
def State.frameNpc (s : State) (n : Nat) : Word :=
  let k := s.core n
  match k.npc with
  | some p => p
  | none => parcelAfter k.pc (s.lenAt n)

/-- PSW as a frame holds it: DLY tells that PC is a delay slot (10 R240). -/
def Core.savedPsw (k : Core) : Word := setBit k.psw 25 k.slot

/-- PROG as a frame holds it: 0 for an AX that waits for its request (14 R356, 19 R470). -/
def Core.savedProg (k : Core) : Word := if k.wait = some .kiln ∨ k.wait = some .adjunct then 0 else k.prog

/-- Words 0 to 8 of a frame (09 Table 09-6); `cause` gives word 8's CAUSE. -/
def State.frameHead (s : State) (n : Nat) (cause : Word) : List Word :=
  let k := s.core n
  [k.pc, s.frameNpc n, k.savedPsw, k.savedProg, k.lc,
    fld 0 16 (loopOff k.ls) ||| fld 17 33 (loopOff k.le),
    fld 0 15 (bits k.ibRead 20 35) ||| fld 16 31 (k.dbn 0),
    fld 0 15 (k.dbn 1) ||| fld 16 31 (k.dbn 2) ||| fld 33 33 k.ibHeld.isSome.toNat,
    fld 0 15 (k.dbn 3) ||| fld 16 35 (bits cause 16 35)]

/-- A key record's PIN, or the stage-two frames before KT_BASE is written (10 R248, 18 R435). -/
def State.pinOf (s : State) (f : Nat) : Bool :=
  if s.ktWritten then
    match s.kcache.find? fun e => e.2.1 == f with
    | some e => bit e.2.2 20
    | none => bit (s.rd (s.ktAddr f)).w 20
  else decide (f < 384)

/-- Halt-check (10 R250, R251); on the steward, a fatal device error. -/
def State.haltCheck (s : State) (n why vec : Nat) : State :=
  if n = 64 then s.fatal 6 3
  else
    let s := s.abandonPosting n
    let s := s.modCore n fun k => { k with run := .halted, wait := none }
    let s := s.setPreg n 0o022 (fld 16 16 1 ||| fld 17 20 why ||| fld 21 26 vec)
    let s := s.log 9 n 0 n
    let s := if n < 36 then s.orPreg pgSticky 0o107 (fld n n 1) else s.orPreg pgSticky 0o110 (fld (n - 36) (n - 36) 1)
    s.mcheck 64 4 n

/-- Entry to bank E for vector 1 or 2: the frame at ESP, or Halt-check (10 R246-R249, R253). -/
def State.enterE (s : State) (n vec sub detail : Nat) (failed : Word) : State :=
  let k := s.core n
  let base := bits k.esp 0 31 * 256
  let own := if n = 64 then 0 else clusterOf n
  if bit k.esp 32 = false then s.haltCheck n 2 vec
  else if s.placed (base / 2048) ≠ some own ∨ s.pinOf (base / 2048) = false then s.haltCheck n 3 vec
  else
    match s.vecEntry n vec with
    | none => s.haltCheck n 5 vec
    | some e =>
      let cause := mkCause vec sub detail
      let ws := s.frameHead n (match k.after with
          | some (v, d) => mkCause v 0 d
          | none => cause) ++ [failed, k.hg7, k.wstate]
      let npc := s.frameNpc n
      let s := s.flushStores n
      let s := ws.zipIdx.foldl (fun s wi => s.engineWrite (base + wi.2) wi.1) s
      let s := if vec = 2 ∧ n < 64 then s.bump n 0o041 1 else s
      s.modCore n fun k =>
        let saved := k.savedPsw
        let psw := setBits (setBits (setBits (setBits (setBits k.psw 18 19 3) 20 23 0) 17 17 0) 24 24 0) 25 25 0
        let regs := [(28, cause), (29, k.pc), (30, npc), (31, saved)].foldl
          (fun t e => tset 0 t e.1 e.2) k.regs
        (({ k with psw, regs, cause, pc := e.pc, npc := none, slot := false, wait := none, run := .running,
                   holding := false, traceE := k.trace, trace := false }.mirrorKey).settleAll).ibFrom e.pc

/-- Escalation (10 R246): reason, the vector being entered or raised, and its CAUSE. -/
def State.escalate (s : State) (n reason : Nat) (cause : Word) : State :=
  s.enterE n 1 reason (bits cause 16 21 * 16) cause

/-- Hidden registers filled at a refill or window trap (09 R207, R212). -/
def State.hide (s : State) (n : Nat) (under : Bool) : Hidden :=
  let k := s.core n
  { live := true, under, cause := k.cause, pc := k.pc, npc := s.frameNpc n, psw := k.savedPsw }

/-- PSW with TRACE, LOOPACT and DLY clear. -/
def Core.quietPsw (k : Core) : Word := setBits (setBits (setBits k.psw 17 17 0) 24 24 0) 25 25 0

/-- A refill entry into bank F (09 R212; 11 R281); it ends a hold (09 R220). -/
def State.enterF (s : State) (n : Nat) (cause : Word) : State :=
  match s.vecEntry n (bits cause 16 21) with
  | none => s.escalate n 4 cause
  | some e =>
    let h := s.hide n false
    let s := if n < 64 then s.bump n 0o040 1 else s
    s.modCore n fun k =>
      let regs := [(20, cause), (21, h.pc), (22, h.npc), (23, h.psw)].foldl (fun t e => tset 0 t e.1 e.2) k.regs
      (({ k with psw := setBits (setBits k.quietPsw 18 19 2) 20 23 0, hidF := h, regs, cause, pc := e.pc
                 npc := none, slot := false, wait := none, run := .running, holding := false
                 tlbIndex := setBit k.tlbIndex 20 false }.mirrorKey).settleAll).ibFrom e.pc

/-- A window trap in the bank concerned (09 R206, R207); it ends a hold (09 R220). -/
def State.enterW (s : State) (n : Nat) (under : Bool) : State :=
  let k := s.core n
  let size := k.ringSize
  let victim := if under then (k.ring.cwp + size - 1) % size else k.ring.old
  let cause := mkCause (if under then 19 else 18) (if k.bank = 0 then 0 else 1) victim
  match s.vecEntry n (if under then 19 else 18) with
  | none => s.escalate n 4 cause
  | some e =>
    let h := s.hide n under
    s.modCore n fun k =>
      let base := if k.bank = 0 then 36 else 44
      let regs := [(base, cause), (base + 1, h.pc), (base + 2, h.npc), (base + 3, h.psw)].foldl
        (fun t e => tset 0 t e.1 e.2) k.regs
      let k := if k.bank = 0 then { (k.touch 8) with hidT := h } else { k with hidH := h }
      (({ k with psw := setBits k.quietPsw 20 23 (if k.bank = 0 then 11 else 3), regs, cause, pc := e.pc
                 npc := none, slot := false, wait := none, run := .running, holding := false }).settleAll).ibFrom e.pc

/-- Write the words of a frame at a virtual word address under bank H's domain; false where one faults
(09 R215). -/
def stackWords (n : Nat) (dom : Tok) (va : Nat) (ws : List Word) : M Unit := do
  let ps ← ws.mapIdxM fun i _ => access n dom .write 3 storeOpt ((va + i) % 2 ^ 32) 6 i
  for pw in List.zip ps ws do
    modify fun s => s.storeWord n pw.1 fullMask pw.2 false

/-- A full entry into bank H (09 R213-R216): `cause` is what CAUSE receives, `kept` what the frame's word 8
holds, `after` and `trace` whether an item of R234 is tied to the frame, `intr` the interrupt's vector. The entry that
delivers a floating trap clears TP and MT (04 R97); one that ends as a window trap or an escalation does not. -/
def State.enterH (s : State) (n : Nat) (cause kept : Word) (after trace : Bool) (intr : Option Nat) : State :=
  let k := s.core n
  let vec := bits cause 16 21
  if k.bank = 1 ∧ k.hRing.res = 2 then s.enterW n false
  else if k.depth ≥ 255 then s.escalate n 5 cause
  else
    match s.vecEntry n vec with
    | none => s.escalate n 4 cause
    | some e =>
      if ptrNib k.hg7 ≠ 0 then s.escalate n 1 cause
      else
        let g7 := k.hg7 - 0o3300
        let ws := s.frameHead n kept ++ [tget 0 k.regs 9, tget 0 k.regs 10, tget 0 k.regs 11]
        match (stackWords n k.c0H (ptrWord g7) ws).run (s.flushStores n) with
        | .error _ s => s.escalate n 1 cause
        | .ok _ s =>
          s.modCore n fun k =>
            let ring : Ring :=
              if k.bank = 1 then { k.hRing with cwp := (k.hRing.cwp + 1) % 3, res := k.hRing.res + 1 }
              else { k.hRing with cwp := k.hRing.old, res := 1 }
            let psw := setBits (setBits (setBits (setBits k.quietPsw 15 16 0) 18 19 1) 20 23 ring.cwp) 8 8
              (if e.cli then 0 else bits k.psw 8 8)
            let psw := if intr.isSome then setBits psw 9 12 e.level else psw
            let fsr := if vec = 17 then setBits k.fsr 19 20 0 else k.fsr
            let pend := match intr with
              | some v => k.pend &&& ~~~(BitVec.ofNat 32 (2 ^ (31 - (v - 32))))
              | none => k.pend
            let mark : FrameMark := { ds := false, vs := false, fromT := decide (k.bank = 0), after, trace }
            (({ k with psw, pend, cause, fsr, hRing := ring, regs := tset 0 k.regs 15 g7, prog := 0
                       depth := k.depth + 1, frames := mark :: k.frames
                       pc := e.pc, npc := none, slot := false, wait := none, run := .running
                       after := none, trace := false
                       holding := decide (e.hold ≠ 0) }.mirrorKey).settleAll).ibFrom e.pc

/-- The floating trap delivered at the point of interruption (04 R97, R98). -/
def State.deliverFp (s : State) (n : Nat) : State :=
  let k := s.core n
  let tr := k.trace
  match k.after with
  | some (v, d) => s.enterH n (mkCause 17 0 0) (mkCause v 0 d) true tr none
  | none => s.enterH n (mkCause 17 0 0) (mkCause 17 0 0) false tr none

/-- Kind of entry of a vector from the core's bank (09 R212): full, refill or window trap from bank T or H
outside a trap window; escalation from bank F or a trap window; Halt-check from bank E. -/
def State.enter (s : State) (n : Nat) (cause : Word) (intr : Option Nat) : State :=
  let k := s.core n
  let vec := bits cause 16 21
  if k.bank = 3 then s.haltCheck n 1 vec
  else if k.bank = 2 then s.escalate n 2 cause
  else if k.inTrap then s.escalate n 3 cause
  else if vec = 7 ∨ vec = 8 then s.enterF n cause
  else if vec = 18 ∨ vec = 19 then s.enterW n (decide (vec = 19))
  else s.enterH n cause cause false (decide (vec ≠ 23) && k.trace) intr

/-- The TLB registers of vectors 6 to 10 (10 R232; 11 R274, R277). -/
def State.recordAccess (s : State) (n : Nat) (instr : Bool) (va asid : Nat) (miss : Bool) : State :=
  let wire := s.creg n 0o030
  s.modCore n fun k =>
    let k := { k with
      tlbTag := fld 0 31 va
      tlbIndex := setBits (setBits k.tlbIndex 0 0 instr.toNat) 1 12 asid }
    if miss = false then k
    else if instr then
      let lo := bits wire 24 28
      let i := max lo k.itlbNext
      { k with tlbIndex := setBits k.tlbIndex 13 19 i, itlbNext := if i ≥ 31 then lo else i + 1 }
    else
      let lo := bits wire 29 35
      let i := max lo k.dtlbNext
      { k with tlbIndex := setBits k.tlbIndex 13 19 i, dtlbNext := if i ≥ 127 then lo else i + 1 }

/-- A machine check is taken (10 R252, R253), once floating work has completed (04 R98); in bank E it halts the core.
DESIGN CHOICE: so does class 4 on the steward in bank E, which R252 neither defers nor R250 lists (log entry 54). -/
def State.enterMc (s : State) (n cls detail : Nat) : State :=
  let s := s.modCore n Core.drainFp
  if (s.core n).bank = 3 then s.haltCheck n 4 2 else s.enterE n 2 cls detail 0

/-- An exception of an instruction of core n is taken. Floating work completes first, and its trap comes
first, but for a machine check (04 R98; 10 R233). -/
def State.takeTrap (s : State) (n : Nat) (x : Exc) : State :=
  if x.vec = 2 then s.enterMc n x.sub x.detail
  else
    let s := s.modCore n Core.drainFp
    let k := s.core n
    if bit k.fsr 19 && decide (k.bank ≤ 1) && !k.inTrap then s.deliverFp n
    else
      let s := match x.badins with
        | some w => s.modCore n fun k => { k with badins := w }
        | none => s
      let s := match x.tlb with
        | some (i, va, asid, miss) => s.recordAccess n i va asid miss
        | none => s
      s.enter n (mkCause x.vec x.sub x.detail) none

/-- LEVEL of a pending vector; an entry that cannot be read counts as level 15, so that its entry
escalates (09 R218, R219). -/
def State.levelOf (s : State) (n v : Nat) : Nat :=
  match s.vecWords n v with
  | some (_, w1) => bits w1 24 27
  | none => 15

/-- The interrupt that would be taken under a PSW value: highest LEVEL above PRI, lowest vector (09 R219). -/
def State.eligibleInt (s : State) (n : Nat) (psw : Word) : Option Nat :=
  let k := s.core n
  if bit psw 8 = false then none
  else
    let cands := (List.range 32).filter fun i => k.pend.getMsbD i && decide (bits psw 9 12 < s.levelOf n (32 + i))
    let top := cands.foldl (fun m i => max m (s.levelOf n (32 + i))) 0
    (cands.find? fun i => s.levelOf n (32 + i) = top).map fun i => 32 + i

/-- Interrupts are deferred: bank F, bank E, a trap window, a hold, a commit phase (09 R220). -/
def State.deferred (s : State) (n : Nat) : Bool :=
  let k := s.core n
  decide (2 ≤ k.bank) || k.inTrap || k.holding ||
    (match s.postingOf n with
      | some p => p.committed
      | none => false)

/-- The machine check to take now: in bank E only classes 0, 1 and 4 (10 R252). DESIGN CHOICE: class 4 is taken there at
once, because R252 does not defer it (log entry 54). -/
def Core.mcNow (k : Core) : Option MCheck :=
  if k.bank = 3 then k.mchk.find? fun m => m.cls = 0 || m.cls = 1 || m.cls = 4 else k.mchk.head?

/-- A boundary of core n: what R233 takes before the next instruction, if anything (10 R233, R234). -/
def State.boundary (s : State) (n : Nat) : Option State :=
  let k := s.core n
  match k.mcNow with
  | some m =>
    let s := s.abandonPosting n
    some ((s.modCore n fun k => { k with mchk := k.mchk.erase m }).enterMc n m.cls m.detail)
  | none =>
    if k.bank = 3 ∧ k.trace = true then some (s.enter n (mkCause 23 0 0) none)
    else if 2 ≤ k.bank ∨ k.inTrap = true then none
    else
      match k.after with
      | some (v, d) =>
        let s := s.modCore n Core.drainFp
        if bit (s.core n).fsr 19 then some (s.deliverFp n)
        else
          some (s.enter n (mkCause v 0 d) none)
      | none =>
        if k.trace then
          let s := s.modCore n Core.drainFp
          if bit (s.core n).fsr 19 then some (s.deliverFp n)
          else some (s.enter n (mkCause 23 0 0) none)
        else
          match (if s.deferred n then none else s.eligibleInt n k.seenPsw) with
          | some v =>
            let s := (s.abandonPosting n).modCore n Core.drainFp
            if bit (s.core n).fsr 19 then some (s.deliverFp n)
            else some (s.enter n (mkCause v 0 0) (some v))
          | none => none

end Sys2Proof.Machine
end

