-- ==== Sys2Proof/Machine/Issue.lean ====
section
/-! DEFINITION. Issuing one instruction of a core: the boundary before it, the checks of Table 03-8, the first
use of register groups, its body, and its completion (03 R63, R71, R74-R76; 09 R226-R228; 10 R233, R244). -/

namespace Sys2Proof.Machine

/-- A first parcel that selects no instruction: 0o000000, 0o777777, or an unassigned major (03 R45, R52). -/
def undefinedFirst (p0 : Nat) : Bool :=
  decide (p0 = 0) || decide (p0 = 2 ^ 18 - 1) || decide (p0 / 2 ^ 13 = 0o26) || decide (p0 / 2 ^ 13 = 0o27)

/-- What the instruction's encoding says, apart from its body. `fields` lists encoding fields by first bit
with whether they are at fault; `regs` its general register fields by first bit; `toks` its token fields;
`more` further registers it reads or writes; `ops` the Reserved use of its operand stage, by field, and `zero` that of
fields which may not name G0 (06 R125, 08 R187); `place` further placement faults by DETAIL; `undef` tells that its minor
opcode is unassigned. -/
structure Ins where
  len : Nat
  p0 : Nat
  p1 : Nat
  fields : List (Nat × Bool)
  regs : List (Nat × Nat)
  toks : List (Nat × Nat)
  more : List Nat
  ops : List (Nat × Bool)
  zero : List (Nat × Bool)
  place : List (Nat × Bool)
  barred : Bool
  grp : BitVec 4
  late : Bool
  flt : Bool
  ctl : Bool
  owner : Bool
  undef : Bool
  deriving DecidableEq, Repr

/-- A short instruction with no operands of its own. -/
def Ins.short (p0 : Nat) : Ins :=
  { len := 1, p0, p1 := 0, fields := [], regs := [], toks := [], more := [], ops := [], zero := [], place := [], barred := false,
    grp := 0, late := false, flt := false, ctl := false, owner := false, undef := false }

/-- The word BADINS receives (03 R74). -/
def Ins.badins (i : Ins) : Word := wd (i.p0 * 2 ^ 18 + if i.len = 2 ∧ undefinedFirst i.p0 = false then i.p1 else 0)

/-- The encoding faults of an instruction in the core's bank, by first bit (03 R50, R51, R75). -/
def Ins.faults (i : Ins) (k : Core) : List Nat :=
  (i.fields.filter (·.2)).map (·.1) ++ (i.regs.filter fun r => (k.loc r.2).isNone).map (·.1) ++
    (i.toks.filter fun t => decide (16 ≤ t.2)).map (·.1)

/-- The leftmost of the fields at fault. -/
def leftmost : List Nat → Option Nat
  | [] => none
  | b :: t => some (t.foldl min b)

/-- How a fetch is made: it waits for nothing the model shows (log entry 11). -/
def fetchOpt : AOpt := { devOk := false, cross := false, inline := true }

/-- The fetch of a parcel: its translation, rights and key (03 R47, Table 03-8 steps 1 and 3). A fetch that misses the
instruction cache waits until the store buffer holds no entry in the line (12 R298), is counted (13 R328), and opens a
sealed line: a failed check is a machine check of class 1 (10 R252, 14 R345). -/
def fetchParcel (n : Nat) (p : Word) (sub : Nat) : M Unit := do
  let d := (← getC n).domTok
  let ph ← access n d .fetch sub fetchOpt (ptrWord p) 6 0
  let k ← getC n
  if ph.c && !k.resting && k.icache.contains (ph.pa / 16) then modC n fun k => k.icPut (ph.pa / 16)
  else if k.sb.any fun e => e.addr / 16 == ph.pa / 16 then await .storeBuffer
  else if ph.bad then await (.lineFill (ph.pa / 16) 0)
  else
    match (← get).openFor ph.pa ph.sl with
    | none => accessFault 6 sub .fetch (ptrWord p) d.dom 6 0 false
    | some (false, s) =>
      set (s.checkFailed n)
      raise 2 1 512
    | some (true, s) =>
      set (((s.wakeDram ph.pa).countLine n (ph.pa / 2048)).leave (ph.pa / 16))
      if ph.c then modC n fun k => if k.resting then k else k.icPut (ph.pa / 16)

/-- The first instruction that sees REST waits for an empty store buffer and the clean of the caches (12 R304). -/
def restClean (n : Nat) : M Unit := do
  let k ← getC n
  if k.resting && !k.rested then
    needEmpty n
    modify (·.flushDcache n)
    modC n fun k => { k with icache := [], rested := true }
  else if !k.resting && k.rested then modC n fun k => { k with rested := false }

/-- Undefined instruction (03 R74). -/
def undefinedTrap (i : Ins) : M Unit :=
  throw (.trap { vec := 3, sub := 0, detail := 0, badins := some i.badins, tlb := none })

/-- The checks of Table 03-8, steps 1 to 5. -/
def decodeChecks (n : Nat) (i : Ins) : M Unit := do
  let k ← getC n
  fetchParcel n k.pc 0
  if undefinedFirst i.p0 then undefinedTrap i
  if i.len = 2 then fetchParcel n (parcelAfter k.pc 1) 1
  if i.undef then undefinedTrap i
  match leftmost (i.faults k) with
  | some b => throw (.trap { vec := 4, sub := 0, detail := b, badins := some i.badins, tlb := none })
  | none =>
    if k.slot && i.barred then raise 4 3 0
    else if k.atLoopEnd && k.slot then raise 4 3 0
    else if k.atLoopEnd && i.barred then raise 4 3 2
    else
      match i.place.find? (·.2) with
      | some p => raise 4 3 p.1
      | none => pure ()

/-- Group absent in bank T (09 R228): `grp` of W 8, D 4, V 2, C 1, and W by the registers named too. DESIGN CHOICE: where
several are absent, W is named first, then D, V and C (log entry 55). -/
def groupCheck (n : Nat) (regs : List Nat) (grp : BitVec 4) : M Unit := do
  let k ← getC n
  if k.bank = 0 then
    if k.tabs.getMsbD 0 && (grp.getMsbD 0 || regs.any (· != 0)) then raise 20 0 0
    else if (k.tabs &&& grp).getMsbD 1 then raise 20 1 0
    else if (k.tabs &&& grp).getMsbD 2 then raise 20 2 0
    else if (k.tabs &&& grp).getMsbD 3 then raise 20 3 0
    else pure ()
  else pure ()

/-- The words of an accumulator and of a vector register, first word first. -/
def accWords (a : Acc) : List Word := (List.range 8).map fun i => wd (a.toNat / 2 ^ (36 * (7 - i)))
def accOfWords (ws : List Word) : Acc := BitVec.ofNat 288 (ws.foldl (fun r w => r * 2 ^ 36 + w.toNat) 0)
def vWords (v : VReg) : List Word := (List.range 4).map fun i => wd (v.toNat / 2 ^ (36 * (3 - i)))
def vOfWords (ws : List Word) : VReg := BitVec.ofNat 144 (ws.foldl (fun r w => r * 2 ^ 36 + w.toNat) 0)

/-- A word of a frame that the hardware reaches under bank H's domain; none, and no exception, where its access would
fault (09 R227). DESIGN CHOICE: such a word is left as it is (log entry 56). -/
def frameWord (n va : Nat) : M (Option Phys) := do
  let k ← getC n
  try
    let p ← access n k.c0H .write 3 storeOpt va 6 0
    return if p.bad then none else some p
  catch _ => return none

/-- Words written from a word of the frame at H.G7 on. -/
def saveWords (n i : Nat) (ws : List Word) : M Unit := do
  let g7 := ptrWord (← getC n).hg7
  let _ ← ws.mapIdxM fun j w => do
    match ← frameWord n ((g7 + i + j) % 2 ^ 32) with
    | some p => modify fun s => s.storeWord n p fullMask w false
    | none => pure ()
  pure ()

/-- A word of the frame at H.G7 rewritten by a function. -/
def modFrameWord (n i : Nat) (f : Word → Word) : M Unit := do
  let k ← getC n
  let va := (ptrWord k.hg7 + i) % 2 ^ 32
  match ← frameWord n va with
  | some p =>
    try
      let c ← fetchWord n p va k.c0H.dom 6 i
      modify fun s => s.storeWord n p fullMask (f c.w) false
    catch _ => pure ()
  | none => pure ()

/-- The current frame's mark. -/
def Core.mark (k : Core) : FrameMark :=
  k.frames.headD { ds := false, vs := false, fromT := false, after := false, trace := false }

/-- The groups of `grp`, of 4 D and 2 V, that their first use in a handler's frame saves (09 R226). -/
def Core.unsaved (k : Core) (grp : BitVec 4) : BitVec 4 :=
  if grp &&& 6 = 0 ∨ k.bank ≠ 1 ∨ (k.fresh = true ∧ k.depth = 1) then 0
  else
    let due (i : Nat) (done : Bool) : Bool := grp.getMsbD i && !done && !(k.mark.fromT && k.tabs.getMsbD i)
    (if due 1 k.mark.ds then 4 else 0) ||| (if due 2 k.mark.vs then 2 else 0)

/-- The lazy save of groups D and V at their first use in a handler's frame, after the older stores (09 R226; 12
R292). -/
def lazySave (n : Nat) (grp : BitVec 4) : M Unit := do
  let due := (← getC n).unsaved grp
  if due = 0 then pure ()
  else
    needEmpty n
    let k ← getC n
    if due.getMsbD 1 then
      saveWords n 12 ((List.range 4).flatMap fun i => accWords (k.acc i))
      modFrameWord n 6 fun w => setBits w 32 35 (bits k.dsr 0 3)
      modFrameWord n 7 fun w => setBits w 32 32 (bits k.dsr 4 4)
      modFrameWord n 5 fun w => setBit w 34 true
      modC n fun k => { k with frames := { k.mark with ds := true } :: k.frames.tail }
    if due.getMsbD 2 then
      saveWords n 44 ((List.range 16).flatMap fun i => vWords (k.vreg i))
      modFrameWord n 5 fun w => setBit w 35 true
      modC n fun k => { k with frames := { k.mark with vs := true } :: k.frames.tail }

/-- A register the floating unit has still to write holds back its readers and writers (12 R300). -/
def scoreboard (n : Nat) (regs : List Nat) : M Unit := do
  let k ← getC n
  let busy := k.fpu.flatMap fun o => if o.pair then [o.dst, o.dst + 1] else [o.dst]
  if regs.any fun r => !k.isZero r && (match k.loc r with
      | some l => busy.contains l
      | none => false) then await .busyRegister
  else pure ()

/-- A control-store instruction's start: a bad control store, the wait for an empty store buffer, PROG
(10 R245, R254; 12 R296). -/
def controlStart (n : Nat) (i : Ins) : M Unit := do
  if i.ctl then
    if (← getC n).csBad then raise 2 0 512
    needEmpty n
    if i.owner then pure () else modC n fun k => { k with prog := 0 }

/-- Reserved use that follows the check of the groups: in banks F and E register 0 is no G0 (03 R50; 06 R125, R129; 08
R195). -/
def operandCheck (n : Nat) (i : Ins) : M Unit := do
  let k ← getC n
  let bad := (i.ops ++ if k.bank < 2 then i.zero else []).filter (·.2)
  match leftmost (bad.map (·.1)) with
  | some b => throw (.trap { vec := 4, sub := 0, detail := b, badins := some i.badins, tlb := none })
  | none => pure ()

/-- All that comes before an instruction's own operand stage, the lazy save aside. -/
def prologue (n : Nat) (i : Ins) : M Unit := do
  restClean n
  decodeChecks n i
  controlStart n i
  let regs := i.regs.map (·.2) ++ i.more
  if i.late then pure () else groupCheck n regs i.grp
  operandCheck n i
  scoreboard n regs

/-- An exception that refuses an instruction before it has used a register group: Undefined instruction, Reserved use,
Authority, Alignment, a bad control store (03 R74, R75; 08 R195; 10 R254). -/
def Exc.refuses (x : Exc) : Bool := decide (x.vec ∈ [3, 4, 5, 11]) || decide (x.vec = 2 ∧ x.sub = 0)

/-- The checks of an instruction and its body. Where it is the first of its frame to use group D or V, the save of 09
R226 comes between them, unless the instruction is refused. -/
def runIns (n : Nat) (i : Ins) (body : M Flow) (s : State) : EStateM.Result Stop State Flow :=
  let plain := ((do prologue n i; body) : M Flow).run s
  if i.late || decide ((s.core n).unsaved i.grp = 0) then plain
  else
    let saved := ((do prologue n i; lazySave n i.grp; body) : M Flow).run s
    match plain with
    | .error (.trap x) _ => if x.refuses then plain else saved
    | _ => saved

/-- A core that nothing lets issue, whatever it runs: halted by debug, being pitched, in a commit phase, stopped by an
activation pause, or without power (16 R404; 17 R426; 18 R440, R453). -/
def State.heldBack (s : State) (n : Nat) : Bool :=
  let k := s.core n
  k.dbgHalt || k.pitching || decide (k.wait = some .commitPhase) || (decide (n < 64) && s.steep.pausing) ||
    s.pwr.off.any fun d => match d with
      | .core m => m.val == n
      | _ => false

/-- A core in WAIT whose wait is over completes WAIT and runs; none where it waits on (09 R221). An interrupt that ends
it is judged against the live PSW, and so is its entry at the boundary after WAIT. -/
def State.wake (s : State) (n : Nat) : Option State :=
  let k := s.core n
  if k.run ≠ .waiting then some s
  else
    let ended :=
      if k.bank = 3 then decide (k.pend ≠ 0) || k.mcNow.isSome
      else k.mcNow.isSome || (!s.deferred n && (s.eligibleInt n k.psw).isSome)
    let awake (k : Core) : Core :=
      { k with
        run := .running
        shadow := if k.bank = 3 then k.shadow else k.shadow.filter fun (x : Shadow) => decide (x.what ≠ .psw) }
    if ended && !s.heldBack n then some ((s.modCore n awake).retire n 1 .seq) else none

/-- A core that may issue: running, and held back by nothing. -/
def State.canIssue (s : State) (n : Nat) : Bool := decide ((s.core n).run = .running) && !s.heldBack n

/-- A single step by debug ends (18 R453). -/
def State.endStep (s : State) (n : Nat) : State :=
  if (s.core n).dbgStep then s.modCore n fun k => { k with dbgStep := false, dbgHalt := true } else s

/-- A wait that is a micro-trap point (07 R157, R160; 10 R244; 11 R268); of a control-store instruction, that for an
empty store buffer is one too (12 R296). -/
def Why.microPoint (w : Why) (ctl : Bool) : Bool :=
  match w with
  | .microTrap | .keyRecord _ _ | .frameLock _ | .admission => true
  | .storeBuffer => ctl
  | _ => false

/-- Debug of core n is enabled (18 R453). -/
def State.debuggable (s : State) (n : Nat) : Bool :=
  if n < 36 then bit (s.preg pgSys 0o043) n
  else decide (n < 64) && bit (s.preg pgSys 0o044) (n - 36)

/-- The core stands at its armed breakpoint, and debug has not just let it go on from there (18 R453, Table 18-6). -/
def State.brkHit (s : State) (n : Nat) : Bool :=
  let b := s.preg n 0o042
  let k := s.core n
  decide (n < 64) && s.debuggable n && bit b 33 && !k.brkPass && decide (ptrWord k.pc = bits b 0 31) &&
    decide (ptrNib k.pc = bits b 32 32)

/-- The breakpoint is taken before the instruction issues: the core halts, or traps (10 R235, 18 R453). -/
def State.takeBrk (s : State) (n : Nat) : State :=
  if bit (s.preg n 0o042) 34 then
    (s.takeTrap n { vec := 23, sub := 1, detail := 0, badins := none, tlb := none }).endStep n
  else s.modCore n fun k => { k with dbgHalt := true, dbgStep := false }

/-- The outcome of an instruction. -/
def State.conclude (s : State) (n : Nat) (i : Ins) (body : M Flow) : State :=
  match runIns n i body s with
  | .ok flow t => (t.retire n i.len flow).endStep n
  | .error (.trap x) t => (t.takeTrap n x).endStep n
  | .error (.wait w) t =>
    if w.microPoint i.ctl then (t.modCore n fun k => { k with wait := some w }).endStep n
    else t.modCore n fun k => { k with wait := some w }

/-- One instruction of core n, whose length is known from here on (10 R239): nothing where the core does not issue; what the boundary takes before it; its breakpoint;
a floating trap at a delivery point; else the instruction (log entries 12, 13). -/
def State.issue (s : State) (n : Nat) (i : Ins) (body : M Flow) : State :=
  match s.wake n with
  | none => s
  | some s =>
    if !s.canIssue n then s
    else
      let s := s.noteLen n i.len
      match s.boundary n with
      | some s => s.endStep n
      | none =>
        let s := s.abandonPosting n
        if s.brkHit n then s.takeBrk n
        else if i.flt && bit (s.core n).fsr 19 then
          if 2 ≤ (s.core n).bank ∨ (s.core n).inTrap = true then s.enter n (mkCause 17 0 0) none
          else s.deliverFp n
        else s.conclude n i body

/-- The meaning of an instruction of core c. -/
def issue (c : CoreId) (i : Ins) (body : M Flow) (s : State) : Host.Outcome State Fault Refusal :=
  .next (s.issue c.val i body)

end Sys2Proof.Machine
end

