-- ==== Sys2Proof/Machine/Operands.lean ====
section
/-! DEFINITION. The instruction formats as parcels and register fields (03 Tables 03-1, 03-2), and the operand
pointers they form (03 R57-R59). -/

namespace Sys2Proof.Machine

/-- Format SR: RD and RS general registers. -/
def insSR (maj min : Nat) (o : SR) : Ins :=
  { Ins.short (maj * 2 ^ 13 + nat o.rd * 2 ^ 8 + nat o.rs * 2 ^ 3 + min) with
    regs := [(5, nat o.rd), (10, nat o.rs)] }

/-- Format SI. -/
def insSI (maj : Nat) (o : SI) : Ins :=
  { Ins.short (maj * 2 ^ 13 + nat o.rd * 2 ^ 8 + nat o.imm) with regs := [(5, nat o.rd)] }

/-- Format SH with its KIND. -/
def insSH (maj kind : Nat) (o : SH) : Ins :=
  { Ins.short (maj * 2 ^ 13 + nat o.rd * 2 ^ 8 + kind * 2 ^ 6 + nat o.cnt) with regs := [(5, nat o.rd)] }

/-- Format SM with its last bit s. -/
def insSM (maj : Nat) (o : SM) (s : Nat) : Ins :=
  { Ins.short (maj * 2 ^ 13 + nat o.rd * 2 ^ 8 + nat o.rb * 2 ^ 3 + nat o.db * 2 + s) with
    regs := [(5, nat o.rd), (10, nat o.rb)] }

/-- Format SB: COND 15 is reserved (03 R56). -/
def insSB (maj : Nat) (o : SB) : Ins :=
  { Ins.short (maj * 2 ^ 13 + nat o.cond * 2 ^ 9 + nat o.disp) with
    fields := [(5, decide (nat o.cond = 15))], barred := true }

/-- Format SL. -/
def insSL (maj : Nat) (o : SL) : Ins :=
  { Ins.short (maj * 2 ^ 13 + nat o.rc * 2 ^ 8 + nat o.endp) with regs := [(5, nat o.rc)], barred := true }

/-- Format SX with RA a general register. -/
def insSX (maj min : Nat) (o : SX) : Ins :=
  { Ins.short (maj * 2 ^ 13 + nat o.ra * 2 ^ 8 + min) with regs := [(5, nat o.ra)] }

/-- Format SX with RA unused, or a number below a bound. -/
def insSX0 (maj min bound : Nat) (o : SX) : Ins :=
  { Ins.short (maj * 2 ^ 13 + nat o.ra * 2 ^ 8 + min) with fields := [(5, decide (bound ≤ nat o.ra))] }

/-- Format SC. -/
def insSC (maj : Nat) (o : SC) : Ins :=
  { Ins.short (maj * 2 ^ 13 + nat o.ra * 2 ^ 8 + nat o.spr) with regs := [(5, nat o.ra)] }

/-- Format SD; the fields an instruction leaves unused must be zero. -/
def insSD (min : Nat) (o : SD) (useDs useRg : Bool) : Ins :=
  { Ins.short (0o22 * 2 ^ 13 + nat o.dd * 2 ^ 11 + nat o.ds * 2 ^ 9 + nat o.rg * 2 ^ 4 + min) with
    fields := [(7, !useDs && decide (nat o.ds ≠ 0)), (9, !useRg && decide (nat o.rg ≠ 0))]
    regs := if useRg then [(9, nat o.rg)] else []
    grp := 4 }

/-- Format SV. -/
def insSV (min : Nat) (o : SV) (useVs : Bool) : Ins :=
  { Ins.short (0o24 * 2 ^ 13 + nat o.vd * 2 ^ 9 + nat o.vs * 2 ^ 5 + min) with
    fields := [(9, !useVs && decide (nat o.vs ≠ 0))], grp := 2 }

/-- A long instruction from its two parcels. -/
def Ins.long (p0 p1 : Nat) : Ins := { Ins.short p0 with len := 2, p1 }

/-- Format LM. -/
def insLM (maj min : Nat) (o : LM) : Ins :=
  { Ins.long (maj * 2 ^ 13 + nat o.rd * 2 ^ 8 + nat o.rb * 2 ^ 3 + min) (nat o.disp) with
    regs := [(5, nat o.rd), (10, nat o.rb)] }

/-- Format LM whose RD names a token register. -/
def insLMC (maj min : Nat) (o : LM) : Ins :=
  { Ins.long (maj * 2 ^ 13 + nat o.rd * 2 ^ 8 + nat o.rb * 2 ^ 3 + min) (nat o.disp) with
    regs := [(10, nat o.rb)], toks := [(5, nat o.rd)], grp := 1 }

/-- Format LH. -/
def insLH (maj min : Nat) (o : LH) : Ins :=
  { Ins.long (maj * 2 ^ 13 + nat o.rd * 2 ^ 8 + nat o.rb * 2 ^ 3 + min) (nat o.disp * 2 + nat o.h) with
    regs := [(5, nat o.rd), (10, nat o.rb)] }

/-- Format LX. -/
def insLX (maj min : Nat) (o : LX) : Ins :=
  { Ins.long (maj * 2 ^ 13 + nat o.rd * 2 ^ 8 + nat o.rb * 2 ^ 3 + min) (nat o.cx * 2 ^ 14 + nat o.disp) with
    regs := [(5, nat o.rd), (10, nat o.rb)], grp := 1 }

/-- Format LP: RB names a pair, [18:35] is zero. -/
def insLP (maj min : Nat) (o : LP) : Ins :=
  { Ins.long (maj * 2 ^ 13 + nat o.rd * 2 ^ 8 + nat o.rb * 2 ^ 3 + min) (nat o.z) with
    fields := [(10, decide (nat o.rb % 2 ≠ 0)), (18, decide (nat o.z ≠ 0))]
    regs := [(5, nat o.rd), (10, nat o.rb)], more := [nat o.rb + 1] }

/-- Format LI. -/
def insLI (min : Nat) (o : LI) : Ins :=
  { Ins.long (0o32 * 2 ^ 13 + nat o.rd * 2 ^ 8 + min * 2 ^ 4 + nat o.imm / 2 ^ 18) (nat o.imm % 2 ^ 18) with
    regs := [(5, nat o.rd)] }

/-- Format LB; RL is a register of BAL and zero in BC. -/
def insLB (min : Nat) (o : LB) (link : Bool) : Ins :=
  { Ins.long (0o33 * 2 ^ 13 + nat o.cond * 2 ^ 9 + nat o.rl * 2 ^ 4 + min)
      (nat o.off * 4 + nat o.par * 2 + nat o.z) with
    fields := [(5, decide (nat o.cond = 15)), (9, !link && decide (nat o.rl ≠ 0)), (35, decide (nat o.z ≠ 0))]
    regs := if link then [(9, nat o.rl)] else []
    barred := true }

/-- Format LR with the parcels alone: [15:17] must be zero. -/
def insLR (maj min : Nat) (o : LR) : Ins :=
  { Ins.long (maj * 2 ^ 13 + nat o.ra * 2 ^ 8 + nat o.rb * 2 ^ 3 + nat o.z)
      (min * 2 ^ 10 + nat o.rc * 2 ^ 5 + nat o.mod) with
    fields := [(15, decide (nat o.z ≠ 0))] }

/-- Format LV. -/
def insLV (min : Nat) (o : LV) : Ins :=
  { Ins.long (0o36 * 2 ^ 13 + nat o.vd * 2 ^ 9 + nat o.rb * 2 ^ 4 + min) (nat o.ri * 2 ^ 13 + nat o.disp) with
    grp := 2 }

/-- Format LA. -/
def insLA (slot opc : Nat) (o : LA) : Ins :=
  Ins.long (0o37 * 2 ^ 13 + slot * 2 ^ 10 + nat o.ra * 2 ^ 5 + nat o.rb)
    (opc * 2 ^ 10 + nat o.rc * 2 ^ 5 + nat o.mod)

/-- The operand pointer of a short memory form (03 R57). -/
def shortPtr (k : Core) (db rb : Nat) : Word :=
  let b := k.g rb
  let bank := match k.shadowOf (.spr (13 + db)) with
    | some x => bits x.old 20 35
    | none => k.dbn db
  fld 0 15 bank ||| fld 16 35 (bits b 16 35)

/-- The operand pointer of a long memory form: RB plus DISP, both in pointer units (03 R58). -/
def longPtr {w : Nat} (k : Core) (rb : Nat) (disp : BitVec w) : Word := k.g rb + disp.signExtend 36

end Sys2Proof.Machine
end

