-- ==== Sys2Proof/Machine/Flags.lean ====
section
/-! DEFINITION. The condition flags and the binary results that set them (04 R77-R85; 03 R56). -/

namespace Sys2Proof.Machine

/-- Set the flags that are given; the others stay. -/
def Core.setFlags (k : Core) (n z v c : Option Bool) : Core :=
  let put (k : Core) (i : Nat) (b : Option Bool) : Core :=
    match b with
    | some x => k.setPsw i i x.toNat
    | none => k
  put (put (put (put k 0 n) 1 z) 2 v) 3 c

/-- A branch condition under the flags (03 Table 03-6); 15 is reserved. -/
def Core.cond (k : Core) (c : Nat) : Bool :=
  match c with
  | 0 => true
  | 1 => k.flagZ
  | 2 => !k.flagZ
  | 3 => k.flagN
  | 4 => !k.flagN
  | 5 => k.flagV
  | 6 => !k.flagV
  | 7 => k.flagC
  | 8 => !k.flagC
  | 9 => k.flagC && !k.flagZ
  | 10 => !k.flagC || k.flagZ
  | 11 => k.flagN == k.flagV
  | 12 => k.flagN != k.flagV
  | 13 => !k.flagZ && (k.flagN == k.flagV)
  | 14 => k.flagZ || (k.flagN != k.flagV)
  | _ => false

/-- A result with its flags. -/
structure Alu where
  r : Word
  n : Bool
  z : Bool
  v : Bool
  c : Bool
  deriving DecidableEq, Repr

/-- The 37-bit sum a + b + cin: result, carry out of bit 0 and signed overflow (04 R78). -/
def aluAdd (a b : Word) (cin : Bool) : Alu :=
  let t := a.toNat + b.toNat + cin.toNat
  let r := wd t
  { r, n := r.msb, z := decide (r = 0), v := (a.msb == b.msb) && (r.msb != a.msb), c := decide (2 ^ 36 ≤ t) }

/-- RD + NOT RS + cin (04 Table 04-1). -/
def aluSub (a b : Word) (cin : Bool) : Alu := aluAdd a (~~~b) cin

/-- The flags of an addition, all four from the result. -/
def Core.aluFlags (k : Core) (a : Alu) : Core := k.setFlags (some a.n) (some a.z) (some a.v) (some a.c)

/-- The flags of a logical result: N and Z follow it, V clears, C stays (04 Table 04-1). -/
def Core.logicFlags (k : Core) (r : Word) : Core :=
  k.setFlags (some r.msb) (some (decide (r = 0))) (some false) none

/-- A shift or rotate of x by n places: its result and C, `none` where C stays (04 Table 04-3); kind 0 SHL,
1 SHR, 2 SHA, 3 ROT. -/
def shiftOut (kind : Nat) (x : Word) (n : Nat) : Word × Option Bool :=
  if n = 0 then (x, none)
  else
    match kind with
    | 0 => if n ≤ 35 then (x <<< n, some (bit x (n - 1))) else (0, some false)
    | 1 => if n ≤ 35 then (x >>> n, some (bit x (36 - n))) else (0, some false)
    | 2 => if n ≤ 35 then (x.sshiftRight n, some (bit x (36 - n))) else (x.sshiftRight 35, some (bit x 0))
    | _ =>
      let k := n % 36
      if k = 0 then (x, none) else (x.rotateLeft k, some (bit (x.rotateLeft k) 35))

/-- DIV and DIVU: quotient, remainder and V (04 R82). -/
def divOut (signed : Bool) (a b : Word) : Word × Word × Bool :=
  if b = 0 then (a, 0, true)
  else if signed then
    if a.toInt = -(2 ^ 35) ∧ b.toInt = -1 then (a, 0, true)
    else (wdInt (a.toInt.tdiv b.toInt), wdInt (a.toInt.tmod b.toInt), false)
  else (wd (a.toNat / b.toNat), wd (a.toNat % b.toNat), false)

end Sys2Proof.Machine
end

