-- ==== Sys2Proof/Machine/Binary.lean ====
section
/-! DEFINITION. The binary integer instructions (04 R78-R86; 03 R54). -/

namespace Sys2Proof.Machine

/-- An addition's or subtraction's end: Binary overflow in its place where it traps (04 R80), else RD and the
flags. -/
def finishAdd (n rd : Nat) (a : Alu) (traps : Bool) : M Flow := do
  if a.v && (traps || bit (← getC n).seenPsw 16) then raise 15 0 0
  modC n fun k => (k.setG rd a.r).aluFlags a
  return .seq

/-- A logical result written to RD with its flags. -/
def finishLogic (n rd : Nat) (r : Word) : M Flow := do
  modC n fun k => (k.setG rd r).logicFlags r
  return .seq

/-- The fields and operands of a two-operand form. -/
def alu3Ins (maj min majI minL : Nat) : Alu3 → Ins
  | .sr o => insSR maj min o
  | .si o => insSI majI o
  | .li o => insLI minL o

/-- RD of a form. -/
def alu3Rd : Alu3 → Nat
  | .sr o => nat o.rd
  | .si o => nat o.rd
  | .li o => nat o.rd

/-- The second operand of a form. -/
def alu3Src (k : Core) : Alu3 → Word
  | .sr o => k.g (nat o.rs)
  | .si o => o.imm.signExtend 36
  | .li o => o.imm.signExtend 36

/-- The fields of a two-operand form without a short immediate. -/
def alu2Ins (maj min minL : Nat) : Alu2 → Ins
  | .sr o => insSR maj min o
  | .li o => insLI minL o

/-- RD of a form. -/
def alu2Rd : Alu2 → Nat
  | .sr o => nat o.rd
  | .li o => nat o.rd

/-- The second operand of a form. -/
def alu2Src (k : Core) : Alu2 → Word
  | .sr o => k.g (nat o.rs)
  | .li o => o.imm.signExtend 36

/-- ADD (04 Table 04-1). -/
def execAdd (c : CoreId) (o : Alu3) : State → Host.Outcome State Fault Refusal :=
  issue c (alu3Ins 0o01 0 0o04 2 o) do
    let k ← getC c.val
    finishAdd c.val (alu3Rd o) (aluAdd (k.g (alu3Rd o)) (alu3Src k o) false) false

/-- ADDC: Z chains (04 R79). -/
def execAddc (c : CoreId) (o : SR) : State → Host.Outcome State Fault Refusal :=
  issue c (insSR 0o01 1 o) do
    let k ← getC c.val
    let a := aluAdd (k.g (nat o.rd)) (k.g (nat o.rs)) k.flagC
    modC c.val fun j => (j.setG (nat o.rd) a.r).aluFlags { a with z := k.flagZ && a.z }
    return .seq

/-- SUB. -/
def execSub (c : CoreId) (o : SR) : State → Host.Outcome State Fault Refusal :=
  issue c (insSR 0o01 2 o) do
    let k ← getC c.val
    finishAdd c.val (nat o.rd) (aluSub (k.g (nat o.rd)) (k.g (nat o.rs)) true) false

/-- SUBC: Z chains (04 R79). -/
def execSubc (c : CoreId) (o : SR) : State → Host.Outcome State Fault Refusal :=
  issue c (insSR 0o01 3 o) do
    let k ← getC c.val
    let a := aluSub (k.g (nat o.rd)) (k.g (nat o.rs)) k.flagC
    modC c.val fun j => (j.setG (nat o.rd) a.r).aluFlags { a with z := k.flagZ && a.z }
    return .seq

/-- ADDV: Binary overflow where v would be 1 (04 R80). -/
def execAddv (c : CoreId) (o : SR) : State → Host.Outcome State Fault Refusal :=
  issue c (insSR 0o01 4 o) do
    let k ← getC c.val
    finishAdd c.val (nat o.rd) (aluAdd (k.g (nat o.rd)) (k.g (nat o.rs)) false) true

/-- SUBV. -/
def execSubv (c : CoreId) (o : SR) : State → Host.Outcome State Fault Refusal :=
  issue c (insSR 0o01 5 o) do
    let k ← getC c.val
    finishAdd c.val (nat o.rd) (aluSub (k.g (nat o.rd)) (k.g (nat o.rs)) true) true

/-- AND. -/
def execAnd (c : CoreId) (o : Alu2) : State → Host.Outcome State Fault Refusal :=
  issue c (alu2Ins 0o01 6 4 o) do
    let k ← getC c.val
    finishLogic c.val (alu2Rd o) (k.g (alu2Rd o) &&& alu2Src k o)

/-- OR. -/
def execOr (c : CoreId) (o : Alu2) : State → Host.Outcome State Fault Refusal :=
  issue c (alu2Ins 0o01 7 5 o) do
    let k ← getC c.val
    finishLogic c.val (alu2Rd o) (k.g (alu2Rd o) ||| alu2Src k o)

/-- XOR. -/
def execXor (c : CoreId) (o : Alu2) : State → Host.Outcome State Fault Refusal :=
  issue c (alu2Ins 0o02 0 6 o) do
    let k ← getC c.val
    finishLogic c.val (alu2Rd o) (k.g (alu2Rd o) ^^^ alu2Src k o)

/-- NOT. -/
def execNot (c : CoreId) (o : SR) : State → Host.Outcome State Fault Refusal :=
  issue c (insSR 0o02 1 o) do
    let k ← getC c.val
    finishLogic c.val (nat o.rd) (~~~(k.g (nat o.rs)))

/-- NEG. -/
def execNeg (c : CoreId) (o : SR) : State → Host.Outcome State Fault Refusal :=
  issue c (insSR 0o02 2 o) do
    let k ← getC c.val
    finishAdd c.val (nat o.rd) (aluSub 0 (k.g (nat o.rs)) true) false

/-- CMP: the flags of SUB. -/
def execCmp (c : CoreId) (o : Alu3) : State → Host.Outcome State Fault Refusal :=
  issue c (alu3Ins 0o02 3 0o05 3 o) do
    modC c.val fun k => k.aluFlags (aluSub (k.g (alu3Rd o)) (alu3Src k o) true)
    return .seq

/-- TST: the flags of AND. -/
def execTst (c : CoreId) (o : Alu2) : State → Host.Outcome State Fault Refusal :=
  issue c (alu2Ins 0o02 4 7 o) do
    modC c.val fun k => k.logicFlags (k.g (alu2Rd o) &&& alu2Src k o)
    return .seq

/-- MOV between general registers. -/
def execMov (c : CoreId) (o : SR) : State → Host.Outcome State Fault Refusal :=
  issue c (insSR 0o02 5 o) do
    modC c.val fun k => k.setG (nat o.rd) (k.g (nat o.rs))
    return .seq

/-- MUL: the low 36 bits of the signed product (04 R81). -/
def execMul (c : CoreId) (o : SR) : State → Host.Outcome State Fault Refusal :=
  issue c (insSR 0o02 6 o) do
    let k ← getC c.val
    let p := (k.g (nat o.rd)).toInt * (k.g (nat o.rs)).toInt
    let r := wdInt p
    finishAdd c.val (nat o.rd) { r, n := r.msb, z := decide (r = 0), v := decide (r.toInt ≠ p), c := false } false

/-- The fields of an instruction whose RD is a pair (03 R50). -/
def pairIns (maj min : Nat) (o : SR) : Ins :=
  { insSR maj min o with fields := [(5, decide (nat o.rd % 2 ≠ 0))], more := [nat o.rd + 1] }

/-- A 72-bit product written to the pair RD with its flags. -/
def finishWide (n rd : Nat) (p : BitVec 72) : M Flow := do
  let hi : Word := wd (p.toNat / 2 ^ 36)
  let lo : Word := wd p.toNat
  modC n fun k =>
    ((k.setG rd hi).setG (rd + 1) lo).setFlags (some hi.msb) (some (decide (p = 0))) (some false) (some false)
  return .seq

/-- MULW. -/
def execMulw (c : CoreId) (o : SR) : State → Host.Outcome State Fault Refusal :=
  issue c (pairIns 0o02 7 o) do
    let k ← getC c.val
    finishWide c.val (nat o.rd) (BitVec.ofInt 72 ((k.g (nat o.rd)).toInt * (k.g (nat o.rs)).toInt))

/-- MULWU. -/
def execMulwu (c : CoreId) (o : SR) : State → Host.Outcome State Fault Refusal :=
  issue c (pairIns 0o03 0 o) do
    let k ← getC c.val
    finishWide c.val (nat o.rd) (BitVec.ofNat 72 ((k.g (nat o.rd)).toNat * (k.g (nat o.rs)).toNat))

/-- A division (04 R82). -/
def divide (n : Nat) (signed : Bool) (o : SR) : M Flow := do
  let k ← getC n
  let b := k.g (nat o.rs)
  let (q, r, v) := divOut signed (k.g (nat o.rd)) b
  if b = 0 then
    modC n fun k => { k with fsr := setBit k.fsr 21 true }
    if bit k.seenPsw 15 then raise 16 0 0
  modC n fun k =>
    ((k.setG (nat o.rd) q).setG (nat o.rd + 1) r).setFlags (some q.msb) (some (decide (q = 0))) (some v)
      (some false)
  return .seq

/-- DIV. -/
def execDiv (c : CoreId) (o : SR) : State → Host.Outcome State Fault Refusal :=
  issue c (pairIns 0o03 1 o) (divide c.val true o)

/-- DIVU. -/
def execDivu (c : CoreId) (o : SR) : State → Host.Outcome State Fault Refusal :=
  issue c (pairIns 0o03 2 o) (divide c.val false o)

/-- The fields of a shift: a register count under minor 3 + kind, or a constant. -/
def shiftIns (kind : Nat) : ShiftForm → Ins
  | .sr o => insSR 0o03 (3 + kind) o
  | .sh o => insSH 0o06 kind o

/-- A shift or rotate (04 R85). -/
def shift (n kind : Nat) (o : ShiftForm) : M Flow := do
  let k ← getC n
  let (rd, cnt) := match o with
    | .sr o => (nat o.rd, bits (k.g (nat o.rs)) 28 35)
    | .sh o => (nat o.rd, nat o.cnt)
  let (r, c) := shiftOut kind (k.g rd) cnt
  modC n fun k => (k.setG rd r).setFlags (some r.msb) (some (decide (r = 0))) (some false) c
  return .seq

/-- SHL. -/
def execShl (c : CoreId) (o : ShiftForm) : State → Host.Outcome State Fault Refusal :=
  issue c (shiftIns 0 o) (shift c.val 0 o)

/-- SHR. -/
def execShr (c : CoreId) (o : ShiftForm) : State → Host.Outcome State Fault Refusal :=
  issue c (shiftIns 1 o) (shift c.val 1 o)

/-- SHA. -/
def execSha (c : CoreId) (o : ShiftForm) : State → Host.Outcome State Fault Refusal :=
  issue c (shiftIns 2 o) (shift c.val 2 o)

/-- ROT. -/
def execRot (c : CoreId) (o : ShiftForm) : State → Host.Outcome State Fault Refusal :=
  issue c (shiftIns 3 o) (shift c.val 3 o)

/-- LI (03 R54). -/
def execLi (c : CoreId) (o : LiForm) : State → Host.Outcome State Fault Refusal :=
  match o with
  | .si o => issue c (insSI 0o07 o) do
      modC c.val fun k => k.setG (nat o.rd) (o.imm.signExtend 36)
      return .seq
  | .li o => issue c (insLI 0 o) do
      modC c.val fun k => k.setG (nat o.rd) (o.imm.signExtend 36)
      return .seq

/-- LI.H: IMM [14:17] must be zero; RD[0:17] from the second parcel (03 R54). -/
def execLiH (c : CoreId) (o : LI) : State → Host.Outcome State Fault Refusal :=
  issue c { insLI 1 o with fields := [(14, decide (nat o.imm / 2 ^ 18 ≠ 0))] } do
    modC c.val fun k => k.setG (nat o.rd) (setBits (k.g (nat o.rd)) 0 17 (nat o.imm % 2 ^ 18))
    return .seq

end Sys2Proof.Machine
end

