-- ==== Sys2Proof/Machine/Messages.lean ====
section
/-! DEFINITION. Cluster messages: who is reachable, routing, end-to-end order, the manager and mismatched members
(15 R364, R365, R371-R373, R387, R388). -/

namespace Sys2Proof.Machine

/-- This device's number (15 R364). -/
def State.own (s : State) : Nat := s.straps.devid.toNat

/-- The far end's device number and FAULT of a port (15 Table 15-7). -/
def State.farEnd (s : State) (p : Nat) : Nat := bits (s.preg (pgPort p) 0o022) 0 4
def State.farFault (s : State) (p : Nat) : Nat := bits (s.preg (pgPort p) 0o022) 10 13

/-- A port in state UP whose far end is as wired (15 R365, R370, R372). -/
def State.portUp (s : State) (p : Nat) : Bool := decide ((s.port p).st = psUp) && decide (s.farFault p = 0)

/-- A chord port whose far end is device t (15 R365). -/
def State.chordTo (s : State) (t : Nat) : Option Nat :=
  [5, 6, 7].find? fun p => s.portUp p && decide (s.farEnd p = t)

/-- The port by which a message leaves toward another device (15 R372). -/
def State.routePort (s : State) (t : Nat) : Option Nat :=
  match s.chordTo t with
  | some p => some p
  | none =>
    let d := s.own
    let x := Nat.xor (d / 2) (t / 2)
    let dims := (List.range 4).filter fun k => x / 2 ^ k % 2 = 1
    let via (k : Nat) : Option Nat :=
      if s.portUp (k + 1) then some (k + 1) else s.chordTo (2 * Nat.xor (d / 2) (2 ^ k) + d % 2)
    match dims.findSome? via with
    | some p => some p
    | none => if x = 0 ∧ s.portUp 0 = true then some 0 else none

/-- A message put on a port: its flits, in the class of its hop (15 R371). -/
def State.emit (s : State) (p : Nat) (m : Msg) : State :=
  (s.sendClass (hopClass m) p (msgFlits m)).modPort p fun x => { x with msgs := x.msgs ++ [m] }

/-- A message in transit or newly made goes on toward its destination, or is held for a route (15 R372). -/
def State.forward (s : State) (m : Msg) : State :=
  match s.routePort m.dst.toNat with
  | some p => s.emit p m
  | none => { s with tr := { s.tr with held := s.tr.held ++ [m] } }

/-- Messages held for a route are tried again (15 R372, R373). -/
def State.retryHeld (s : State) : State :=
  let ms := s.tr.held
  ms.foldl State.forward { s with tr := { s.tr with held := [] } }

/-- Messages kept toward a destination (15 R373). -/
def State.outstanding (s : State) (t : Nat) : Nat := (s.tr.unacked.filter fun e => e.1.dst.toNat == t).length

/-- 256 are outstanding: the link buffer toward the destination is full (15 R373). -/
def State.linkFull (s : State) (t : Nat) : Bool := decide (256 ≤ s.outstanding t)

/-- A destination that can be reached now (15 R373). -/
def State.reachable (s : State) (t : Nat) : Bool :=
  decide (t = s.own) || ((s.routePort t).isSome && !s.tr.unreach.contains t)

/-- A content becomes a message: it is numbered, kept, and put on its way (15 R373). -/
def State.launch (s : State) (t : Nat) (body : MsgBody) (origin : Option Nat) : State :=
  let sq := tget 0 s.tr.sendSeq t
  let m : Msg := { dst := BitVec.ofNat 5 t, src := BitVec.ofNat 5 s.own, seq := BitVec.ofNat 14 sq, hops := 0, body }
  { s with tr := { s.tr with
    sendSeq := tset 0 s.tr.sendSeq t ((sq + 1) % 2 ^ 14)
    unacked := s.tr.unacked ++ [(m, origin)] } }.forward m

/-- Send a message toward another device, behind those that already wait for one of the 256 places; none where the
destination is unreachable (15 R373). `origin` is the intake queue of a ticket. -/
def State.sendMsg (s : State) (t : Nat) (body : MsgBody) (origin : Option Nat := none) : Option State :=
  if !s.reachable t then none
  else if s.linkFull t then some { s with tr := { s.tr with backlog := s.tr.backlog ++ [(t, body, origin)] } }
  else some (s.launch t body origin)

/-- Contents that waited for a place toward a destination go out while it has one (15 R373). -/
def State.drainBacklog (s : State) (t : Nat) : State :=
  let mine := (s.tr.backlog.filter fun e => e.1 == t).take (256 - s.outstanding t)
  let rest := (s.tr.backlog.filter fun e => e.1 == t).drop (256 - s.outstanding t)
  let s := { s with tr := { s.tr with backlog := s.tr.backlog.filter (fun e => e.1 != t) ++ rest } }
  mine.foldl (fun s e => s.launch t e.2.1 e.2.2) s

/-- Every content still to reach its destination: kept messages, then those that wait (15 R373). -/
def Transport.owing (x : Transport) : List (MsgBody × Option Nat) :=
  (x.unacked.map fun e => (e.1.body, e.2)) ++ x.backlog.map (·.2)

/-- An end-to-end acknowledgement: not numbered, kept or resent (15 R373). -/
def State.sendAck (s : State) (t : Nat) : State :=
  let last := (tget 0 s.tr.recvSeq t + 2 ^ 14 - 1) % 2 ^ 14
  match s.routePort t with
  | some p =>
    s.emit p { dst := BitVec.ofNat 5 t, src := BitVec.ofNat 5 s.own, seq := 0, hops := 0
               body := .ack (BitVec.ofNat 14 last) }
  | none => s

/-- A message that has reached its destination: the next of its source is acted on and then acknowledged, a
duplicate is acknowledged again and discarded, another is dropped (15 R373). -/
def State.accept (s : State) (m : Msg) (act : State → State) : State :=
  let t := m.src.toNat
  let want := tget 0 s.tr.recvSeq t
  if m.seq.toNat = want then
    let s := act { s with tr := { s.tr with
      recvSeq := tset 0 s.tr.recvSeq t ((want + 1) % 2 ^ 14)
      unreach := s.tr.unreach.filter (· != t) } }
    s.sendAck t
  else if (want + 2 ^ 14 - m.seq.toNat) % 2 ^ 14 ≤ 256 then s.sendAck t
  else s

/-- Kept messages up to the one acknowledged leave the buffer, and what waited for their places goes out (15 R373). -/
def State.ackMsgs (s : State) (t last : Nat) : State :=
  { s with tr := { s.tr with
    unreach := s.tr.unreach.filter (· != t)
    unacked := s.tr.unacked.filter fun e =>
      !(e.1.dst.toNat == t && decide ((last + 2 ^ 14 - e.1.seq.toNat) % 2 ^ 14 < 2 ^ 13)) } }.drainBacklog t

/-- This device is the manager: the holder of the pair strapped ROLE 1, or such a device without a twin
(15 R387). -/
def State.isManager (s : State) : Bool := decide (s.straps.role = 1) && (s.twin.hold || !s.straps.twin)

/-- The manager as this device knows it. -/
def State.manager (s : State) : Option Nat := if s.isManager then some s.own else s.tr.mgr

/-- The devices shown in CL_MEMBERS: this one and every one it can reach (15 R387; log entry 14). -/
def State.members (s : State) : List Nat := (List.range 32).filter s.reachable

/-- Versions known of a device: its own, or what the last PARAM or cluster message said of it (15 R370, R387, R388). -/
def State.versionOf (s : State) (t : Nat) : Option Word :=
  if t = s.own then some s.steep.runVer else (s.tr.vers.find? fun e => e.1 == t).map (·.2)

/-- The version of a member becomes known (15 R388). -/
def State.noteVersion (s : State) (t : Nat) (v : Word) : State :=
  { s with tr := { s.tr with vers := (t, v) :: s.tr.vers.filter fun e => e.1 != t } }

/-- VMIX of the manager as known here (15 R388). -/
def State.vmixNow (s : State) : Bool := if s.isManager then bit (s.preg pgTwin 0o040) 35 else s.tr.vmix

/-- A mismatched member (15 R388). -/
def State.mismatched (s : State) (t : Nat) : Bool :=
  match s.manager with
  | none => false
  | some g =>
    !s.vmixNow &&
      (match s.versionOf g, s.versionOf t with
        | some a, some b => decide (a ≠ b)
        | _, _ => false)

/-- A twin or cluster event and its vector 37 where enabled (15 R390): bit by position in TW_EV. -/
def State.twEvent (s : State) (b : Nat) : State :=
  let s := s.orPreg pgTwin 0o032 (fld b b 1)
  if bit (s.preg pgTwin 0o033) b then s.pendInt 64 37 else s

/-- A change of the members raises CLUSTER (15 Table 15-8). -/
def State.noteMembers (s : State) (before : List Nat) : State := if s.members = before then s else s.twEvent 35

end Sys2Proof.Machine
end

