-- ==== Sys2Proof/Machine/Queue.lean ====
section
/-! DEFINITION. TAKE, GIVE, QACK, the routing of intake queues, doorbells, shipped tickets, and the registers of the
queue manager page (13 R308-R327). -/

namespace Sys2Proof.Machine

/-! ### Instructions -/

/-- QSERV, which is also the service word of TAKE (13 Table 13-5). -/
def State.servWord (s : State) (n : Nat) : Word :=
  match (s.core n).serv with
  | none => 0
  | some (q, p) => fld 0 0 1 ||| fld 2 15 q ||| fld 16 31 (p % (s.queue q).size)

/-- A queue instruction's encoding: not in banks F and E (13 R321). -/
def queueIns (k : Core) (i : Ins) : Ins := { i with place := [(4, decide (2 ≤ k.bank))] }

/-- The queue TAKE chooses: highest PRIO, then the next number after the last delivered from at that priority by
the cluster (13 R320). -/
def State.takeFrom (s : State) (n : Nat) : Option Nat :=
  let qs := ((s.que.q.map Prod.fst).filter fun q => s.eligible q n)
  let top := qs.foldl (fun m q => max m (s.queue q).prio) 0
  let best := qs.filter fun q => (s.queue q).prio == top
  let last := tget 0 s.que.last (clusterOf n * 8 + top)
  let dist (q : Nat) : Nat := (q + 16384 - last) % 16384
  match best with
  | [] => none
  | q :: t => some (t.foldl (fun m x => if dist x < dist m then x else m) q)

/-- A ring slot's words. -/
def State.slotWords (s : State) (pa n : Nat) : List Word := (List.range n).map fun i => (s.rd (pa + i)).w

/-- Words as an engine reads them; an error where one cannot be read. -/
def State.engineWords (s : State) (pa n : Nat) : Except State (List Word × State) :=
  (List.range n).foldl
    (fun r i => r.bind fun (ws, s) => (s.engineRead (pa + i)).map fun (c, s) => (ws ++ [c.w], s)) (.ok ([], s))

/-- The words of a ring slot as the queue manager reads them, four of a ticket or an attachment: zeros and a machine
check of class 3 at the steward where one cannot be read (10 R252; 14 R345). -/
def State.readWords (s : State) (pa n : Nat) : List Word × State :=
  match s.engineWords pa n with
  | .ok r => r
  | .error s => (List.replicate n 0, s.mcheck 64 3 pgQueue)

/-- Deliver the oldest released ticket of a queue, else the one at HEAD, to core n (13 R320, R323); RDL is written into
the ticket where it stands in the ring (log entry 23). -/
def State.deliver (s : State) (q n : Nat) : List Word × State :=
  let c := s.queue q
  let (p, c', rdl) := match c.released with
    | p :: t => (p, { c with released := t, inServ := c.inServ ++ [(n, p)] }, true)
    | [] => (c.head, { c with head := (c.head + 1) % 2 ^ 17, inServ := c.inServ ++ [(n, c.head)] }, false)
  let (ws, s) := s.readWords (c.slotPa p) 4
  let ws := if rdl then ws.set 1 (setBit (ws.getD 1 0) 27 true) else ws
  let s := if rdl then s.engineWrite (c.slotPa p + 1) (ws.getD 1 0) else s
  let s := s.settleRet q c'
  let s := { s with que := { s.que with last := tset 0 s.que.last (clusterOf n * 8 + c.prio) ((q + 1) % 16384) } }
  (ws, s.modCore n fun k => { k with serv := some (q, p) })

/-- TAKE (13 R320, R321, R324). -/
def execTake (c : CoreId) (o : SX) (s : State) : Host.Outcome State Fault Refusal :=
  let ra := nat o.ra
  issue c
    { queueIns (s.core c.val) (insSX 0o23 0o001 o) with
      fields := [(5, decide (1 ≤ ra ∧ ra ≤ 4))], more := [1, 2, 3, 4] }
    (do
      let n := c.val
      if (← getC n).serv.isSome then raise 22 1 0
      let s ← get
      match s.takeFrom n with
      | none =>
        modC n fun k => (k.setG ra 0).setPsw 1 1 0
        return .seq
      | some q =>
        let (ws, s) := s.deliver q n
        set s
        modC n fun k =>
          ((((((k.setG 1 (ws.getD 0 0)).setG 2 (ws.getD 1 0)).setG 3 (ws.getD 2 0)).setG 4 (ws.getD 3 0)).setG ra
            (s.servWord n)).setPsw 1 1 1)
        return .seq) s

/-- The zero bits of TFLAGS that R309 asks of an entering ticket. -/
def badFlags (w : Word) : Bool := decide (bits w 18 21 ≠ 0) || decide (bits w 27 35 ≠ 0)

/-- The ticket of G1 to G4 as it enters at this device (13 R309). -/
def giveTicket (k : Core) (dev : Nat) : List Word := [k.g 1, setBits (k.g 2) 28 32 dev, k.g 3, k.g 4]

/-- A ticket record from its four words. -/
def ticketOf (ws : List Word) : Ticket :=
  { key := ws.getD 0 0, tflags := ws.getD 1 0, ptrA := ws.getD 2 0, ptrB := ws.getD 3 0 }

/-- GIVE (13 R322, R324; 11 R260; 12 R295). Toward a device that cannot be reached the ticket is taken and diverted, and,
with no local queue whose ERRQ it could enter, lost (15 R373, 13 R317; log entry 15). -/
def execGive (c : CoreId) (o : SX) (s : State) : Host.Outcome State Fault Refusal :=
  issue c
    { queueIns (s.core c.val) (insSX0 0o23 0o002 32 o) with
      toks := [(5, nat o.ra)], more := [1, 2, 3, 4], grp := 1 }
    (do
      let n := c.val
      needEmpty n
      let k ← getC n
      let t := k.tok (nat o.ra)
      useToken t (nat o.ra) 0 3
      if !t.write then raise 5 0 (nat o.ra)
      if badFlags (k.g 2) then raise 22 0 0
      if bits (k.g 2) 22 26 ≠ 0 then raise 22 4 0
      let s ← get
      let q := bits t.a 22 35
      let dev := bits t.b 27 31
      let ws := giveTicket k s.own
      let done (z : Nat) : M Flow := do
        modC n fun k => k.setPsw 1 1 z
        return .seq
      if dev = s.own then
        if !s.accepts q then raise 22 3 0
        else if (s.queue q).full then done 0
        else
          set (s.enterQueue q ws none)
          done 1
      else if s.linkFull dev then done 0
      else
        match s.sendMsg dev (.ticket (BitVec.ofNat 14 q) (ticketOf ws) []) with
        | none =>
          set ((s.pendInt 64 33).discardTicket q)
          done 1
        | some s =>
          set s
          done 1) s

/-- QACK (13 R323, R324). -/
def execQack (c : CoreId) (o : SX) (s : State) : Host.Outcome State Fault Refusal :=
  issue c (queueIns (s.core c.val) (insSX0 0o23 0o003 1 o))
    (do
      let n := c.val
      match (← getC n).serv with
      | none => raise 22 2 0
      | some (q, _) =>
        modify fun s =>
          let c := s.queue q
          s.settleRet q { c with inServ := c.inServ.filter fun e => e.1 != n }
        modC n fun k => { k with serv := none }
        return .seq) s

/-! ### Routing -/

/-- The bucket of a placement key (13 R310). -/
def bucketOf (key : Word) : Nat := Nat.xor (bits key 0 17) (bits key 18 35) % 65536

/-- Directory entry fields (13 Table 13-9): every entry is UNSET at reset. -/
def dirReset : Word := fld 19 20 2
def State.dirEntry (s : State) (b : Nat) : Word := tget dirReset s.que.dir b
def State.setDir (s : State) (b : Nat) (w : Word) : State :=
  { s with que := { s.que with dir := tset dirReset s.que.dir b w } }
def dirDev (w : Word) : Nat := bits w 0 4
def dirQueue (w : Word) : Nat := bits w 5 18
def dirState (w : Word) : Nat := bits w 19 20

/-- A NORMAL entry. -/
def dirNormal (dev q : Nat) : Word := fld 0 4 dev ||| fld 5 18 q

/-- The queue that holds parked tickets, and whether it may (13 R316). -/
def State.parkq (s : State) : Nat := bits (s.preg pgQueue 0o033) 22 35
def State.parkReady (s : State) : Bool :=
  let c := s.queue s.parkq
  s.halfOn s.parkq && decide (c.kind = 0) && decide (c.st = qHold) && c.committed

/-- What routing one ticket comes to. -/
inductive Routed where
  | gone (s : State)
  | stays
  deriving Repr

/-- A ticket toward the home that a directory entry names: the local queue, or a peer device (13 R315, R388). -/
def State.routeTo (s : State) (from_ dev q : Nat) (t att : List Word) : Routed :=
  if s.mismatched dev then .gone (s.divert from_ 2 t)
  else if dev = s.own then .gone (s.deliverTicket q t att)
  else if s.linkFull dev then .stays
  else
    match s.sendMsg dev (.ticket (BitVec.ofNat 14 q) (ticketOf t) att) (some from_) with
    | some s => .gone s
    | none => .gone (s.divert from_ 2 t)

/-- A ticket enters PARKQ, or cannot yet (13 R316). -/
def State.park (s : State) (from_ : Nat) (t att : List Word) : Routed :=
  let c := s.queue s.parkq
  if s.parkReady = false then .stays
  else if bits (t.getD 1 0) 22 26 ≠ 0 ∧ c.attEn = false then .gone (s.divert from_ 5 t)
  else if c.full then .stays
  else .gone (s.enterQueue s.parkq t (some att))

/-- Route the next ticket of an intake queue; none where it has none, is stopped, is a standby's durable queue,
or must wait (13 R315, R316; 15 R379). -/
def State.routeHead (s : State) (q : Nat) : Option State :=
  let c := s.queue q
  if c.kind ≠ 1 ∨ c.st ≠ qRun ∨ s.halfOn q = false ∨ c.head = c.deliver ∨ (c.dur && s.standby) = true then none
  else
    let (t, s) := s.readWords (c.slotPa c.head) 4
    let attn := bits (t.getD 1 0) 22 26
    let (att, s) := if attn ≠ 0 ∧ c.attEn = true then s.readWords (c.attSlotPa c.head) attn else ([], s)
    let e := s.dirEntry (bucketOf (t.getD 0 0))
    let r : Routed :=
      match dirState e with
      | 2 => .gone (s.divert q 3 t)
      | 1 => s.park q t att
      | _ => s.routeTo q (dirDev e) (dirQueue e) t att
    match r with
    | .stays => none
    | .gone s =>
      let c := s.queue q
      some (s.settleRet q { c with head := (c.head + 1) % 2 ^ 17 })

/-- INTAKE_ROUTING. -/
def execIntakeRouting (q : BitVec 14) (s : State) : Host.Outcome State Fault Refusal :=
  .next ((s.routeHead q.toNat).getD s)

/-! ### Doorbells -/

/-- A queue's doorbell words 0 to 2 (19 R461). -/
def State.dbWord (s : State) (q i : Nat) : Word := tget 0 s.que.dbw (q * 4 + i)
def State.setDbWord (s : State) (q i : Nat) (w : Word) : State :=
  { s with que := { s.que with dbw := tset 0 s.que.dbw (q * 4 + i) w } }

/-- A ticket rung in from the host: a ring that breaks R309 is diverted with BADTKT, a queue that takes none with
NOQ, a full ring with FULL (13 R309, R314, R317). -/
def State.ringTicket (s : State) (q : Nat) (t : List Word) : State :=
  let c := s.queue q
  let tf := t.getD 1 0
  let t := t.set 1 (setBits tf 28 32 s.own)
  if badFlags tf then s.divert q 5 t
  else if !s.accepts q then s.divert q 4 t
  else if bits tf 22 26 ≠ 0 ∧ c.attEn = false then s.divert q 5 t
  else if c.full then s.divert q 1 t
  else s.enterQueue q t none

/-- A write of a doorbell's word 3 by a function (13 R314, 19 R461); another function's write is discarded and counted
(19 Table 19-3). -/
def State.ringDoorbell (s : State) (fn q : Nat) (w3 : Word) : State :=
  if 64 < fn ∨ (s.queue q).fn ≠ fn then s.bump pgPcie 0o022 1
  else s.ringTicket q [s.dbWord q 0, s.dbWord q 1, s.dbWord q 2, w3]

/-- A write of a retire word by a function: an index after RET and no later than HEAD becomes RET; another write is
discarded and counted (19 R461). -/
def State.retireTo (s : State) (fn q : Nat) (v : Word) : State :=
  let c := s.queue q
  let i := bits v 19 35
  let d := (i + 2 ^ 17 - c.ret) % 2 ^ 17
  if 64 < fn ∨ c.fn ≠ fn ∨ c.kind ≠ 2 ∨ d = 0 ∨ (c.head + 2 ^ 17 - c.ret) % 2 ^ 17 < d then s.bump pgPcie 0o022 1
  else
    let s' := s.setQueue q { c with ret := i }
    if c.dur && (s.racksQueues || s.catching) then s'.sendFlits 0 [qrackFlit 3 q (wd i) 0 0] else s'

/-! ### Shipped tickets -/

/-- A ticket that a peer shipped: R309 is asked again but for SRC (13 R315, R317). -/
def State.shipIn (s : State) (q : Nat) (t : Ticket) (att : List Word) : State :=
  let ws := [t.key, t.tflags, t.ptrA, t.ptrB]
  if bits t.tflags 18 21 ≠ 0 ∨ bit t.tflags 27 = true ∨ bits t.tflags 33 35 ≠ 0 then s.divert q 5 ws
  else s.deliverTicket q ws att

/-- TICKET_RACK_TIMEOUT: the oldest ticket of a durable queue that waits for the twin becomes deliverable and
unracked (13 R326). -/
def execTicketRackTimeout (q : BitVec 14) (s : State) : Host.Outcome State Fault Refusal :=
  let c := s.queue q.toNat
  if c.dur = false ∨ c.deliver = c.tail then .next s
  else
    let s' := s.setQueue q.toNat
      { c with deliver := (c.deliver + 1) % 2 ^ 17, unracked := c.unracked ++ [c.deliver] }
    .next (if c.kind = 0 ∧ c.ready = false then s'.signal q.toNat else s')

/-- Tickets of a durable queue up to a TAIL the twin names become deliverable (13 R326, 15 R379). -/
def State.qrackAcked (s : State) (q tail : Nat) : State :=
  let c := s.queue q
  let d := (tail + 2 ^ 17 - c.deliver) % 2 ^ 17
  if d = 0 ∨ (c.tail + 2 ^ 17 - c.deliver) % 2 ^ 17 < d then s
  else
    let s' := s.setQueue q { c with deliver := tail }
    if c.kind = 0 ∧ c.ready = false then s'.signal q else s'

/-! ### The queue manager page -/

/-- The answer of a page to a write: its code, and the state. -/
abbrev Answer := Nat × State

/-- Rejection codes (17 Table 17-3). -/
abbrev cRange : Nat := 2
abbrev cReserved : Nat := 3
abbrev cAlign : Nat := 4
abbrev cBusy : Nat := 5
abbrev cLocked : Nat := 7
abbrev cState : Nat := 0o10
abbrev cCheck : Nat := 0o15
abbrev cFull : Nat := 0o16
abbrev cAbsent : Nat := 0o17

/-- The queue that QSEL names. -/
def State.qsel (s : State) : Nat := bits (s.preg pgQueue 0o020) 22 35

/-- The rule of a RING group, and of the attachment area beside it (13 R312): RANGE, then ALIGN; 0 where it holds. -/
def ringCode (ring shape att : Word) : Nat :=
  let log := bits shape 31 35
  if log < 4 ∨ 16 < log then cRange
  else if bits shape 15 30 ≠ 2 ^ log - 1 then cRange
  else if bits ring 0 33 * 64 % min (2 ^ (log + 2)) 2048 ≠ 0 then cAlign
  else if bit att 34 = true ∧ bits att 0 33 * 64 % min (32 * 2 ^ log) 2048 ≠ 0 then cAlign
  else 0

/-- Applying a RING group sets HEAD, TAIL and RET to 0 (13 R312). -/
def QCtx.withRing (c : QCtx) (ring shape : Word) (committed : Bool) : QCtx :=
  { c with
    ring, shape, committed, head := 0, tail := 0, ret := 0, inServ := [], released := [], deliver := 0
    unracked := [] }

/-- A queue's CLU changes: signalled again in its new cluster (13 R325). -/
def State.setClu (s : State) (q clu : Nat) : State :=
  let c := s.queue q
  if c.clu = clu then s
  else
    let s := s.setQueue q { c with ctl := setBits c.ctl 10 12 clu }
    if c.kind = 0 ∧ c.ready = true then s.signal q else s

/-- Some queue is suspended, as STATUS.SKEW shows it (17 R422). -/
def State.skewed (s : State) : Bool := s.que.q.any fun e => decide (e.2.st = qSuspend)

/-- A MOVING entry stands in the local directory (13 R316). -/
def State.anyMoving (s : State) : Bool := s.que.dir.any fun e => decide (dirState e.2 = 1)

/-- A transition of Q_CTL.STATE that Table 13-4 allows; staying is none (13 R313). -/
def qTransition (c : QCtx) (dw : Bool) (nxt : Nat) : Bool :=
  decide (nxt = c.st) ||
    (match nxt with
      | 0 => decide (c.st = qRun ∨ c.st = qHold ∨ c.st = qSuspend)
      | 1 => (decide (c.st = qOff) && (c.committed || dw)) || decide (c.st = qHold)
      | 2 => decide (c.st = qRun)
      | _ => false)

/-- A write of Q_CTL in direct-write mode or not (13 R311, R313, R316, R330). -/
def State.wrQctl (s : State) (dw : Bool) (v : Word) : Answer :=
  let q := s.qsel
  let c := s.queue q
  let nxt := bits v 0 2
  let kind := bits v 3 4
  if kind = 3 then (cReserved, s)
  else if s.halfOn q = false then (cAbsent, s)
  else if c.st = qMoving then (cState, s)
  else if (kind ≠ c.kind ∨ bit v 5 ≠ c.dur) ∧ c.st ≠ qOff then (cBusy, s)
  else if q = s.parkq ∧ s.anyMoving = true ∧ (nxt ≠ qHold ∨ kind ≠ c.kind) then (cBusy, s)
  else if qTransition c dw nxt = false then (cState, s)
  else
    let start := decide (nxt = qRun) && decide (c.st = qOff)
    let bad := start && decide (ringCode c.ring c.shape c.att ≠ 0)
    let c' := { c with
      ctl := setBits (v &&& maskOf [(0, 9), (13, 31)]) 10 12 c.clu
      st := if bad then qSuspend else nxt }
    let s := s.setQueue q c'
    let s := if bad then
        (s.orPreg pgQueue 3 (fld 34 34 1)).log 11 pgQueue 0 q
      else s
    (0, if start || bit v 6 then s.setClu q (bits v 7 9) else s)

/-- A write of Q_LINK: RANGE for FN and for ERRQ naming the queue itself (13 R311). -/
def State.wrQlink (s : State) (v : Word) : Answer :=
  let q := s.qsel
  let fn := bits v 14 20
  if (64 < fn ∧ fn ≠ 127) ∨ bits v 0 13 = q then (cRange, s)
  else (0, s.setQueue q { s.queue q with link := v })

/-- A write of Q_ATT: stopped-only, aligned as the ring's area asks (13 R311, R312). -/
def State.wrQatt (s : State) (v : Word) : Answer :=
  let q := s.qsel
  let c := s.queue q
  if c.st ≠ qOff then (cBusy, s)
  else if bit v 34 ∧ bits v 0 33 * 64 % min (32 * c.size) 2048 ≠ 0 then (cAlign, s)
  else (0, s.setQueue q { c with att := v })

/-- A write of Q_ATTV: stopped-only. -/
def State.wrQattv (s : State) (v : Word) : Answer :=
  let q := s.qsel
  let c := s.queue q
  if c.st ≠ qOff then (cBusy, s) else (0, s.setQueue q { c with attv := v })

/-- A write of Q_FLEN: at most 4,096 entries. -/
def State.wrQflen (s : State) (v : Word) : Answer :=
  if 4096 < v.toNat then (cRange, s)
  else (0, s.setQueue s.qsel { s.queue s.qsel with flen := v })

/-- A write of PARKQ: BUSY while a bucket is MOVING (13 R316). -/
def State.wrParkq (s : State) (v : Word) : Answer :=
  if s.anyMoving then (cBusy, s) else (0, s.setPreg pgQueue 0o033 v)

/-- A write of QREL: the core must be in reset or in Halt-check (13 R323). -/
def State.wrQrel (s : State) (v : Word) : Answer :=
  let n := bits v 30 35
  let r := (s.core n).run
  if r = .reset ∨ r = .halted then (0, s.releaseTicket n) else (cState, s)

/-- A write of a register of the RING group: to the shadow, or live in direct-write mode, only in OFF
(13 R312, 17 R422). -/
def State.wrRing (s : State) (dw : Bool) (off : Nat) (v : Word) : Answer :=
  let q := s.qsel
  let c := s.queue q
  if !dw then
    (0, s.setQueue q (if off = 0o021 then { c with shRing := v } else { c with shShape := v }))
  else if c.st ≠ qOff then (cBusy, s)
  else
    (0, s.setQueue q
      (if off = 0o021 then c.withRing v c.shape c.committed else c.withRing c.ring v c.committed))

/-- COMMIT of group RING (13 R312). -/
def State.commitRing (s : State) : Answer :=
  let q := s.qsel
  let c := s.queue q
  if c.st ≠ qOff then (cBusy, s)
  else
    match ringCode c.shRing c.shShape c.att with
    | 0 => (0, s.setQueue q (c.withRing c.shRing c.shShape true))
    | code => (code, s)

/-- A register of the selected queue as it reads; in direct-write mode the RING group reads live (17 R420). -/
def State.rdQueue (s : State) (dw : Bool) (off : Nat) : Word :=
  let c := s.queue s.qsel
  match off with
  | 0o021 => if dw then c.ring else c.shRing
  | 0o022 => if dw then c.shape else c.shShape
  | 0o023 => fld 2 18 c.head ||| fld 19 35 c.tail
  | 0o024 => fld 2 8 c.inServ.length ||| fld 19 35 c.ret
  | 0o025 => setBits c.ctl 0 2 c.st
  | 0o026 => c.link
  | 0o027 => c.att
  | 0o030 => c.attv
  | 0o031 => c.flist
  | 0o032 => c.flen
  | 0o037 => s.dirEntry (bits (s.preg pgQueue 0o036) 20 35)
  | _ => s.preg pgQueue off

end Sys2Proof.Machine
end

