-- ==== Sys2Proof/Machine/Buckets.lean ====
section
/-! DEFINITION. Events of the Maltster, the bucket directory and bucket moves across devices
(13 R334-R338; 15 R387, R388). -/

namespace Sys2Proof.Machine

/-! ### Events and command status -/

/-- An event in the Maltster's ring, with the epoch that decided it, or one lost: to a full ring, or while no ring has
been set up (13 R334). -/
def State.malEvent (s : State) (epoch ty from_ to_ obj other heat victim : Nat) : State :=
  let log := bits (s.preg pgMal 0o045) 31 35
  let w := s.preg pgMal 0o046
  let head := bits w 2 18
  let tail := bits w 19 35
  let used : Nat := (tail + 2 ^ 17 - head) % 2 ^ 17
  if log < 4 ∨ 2 ^ log ≤ used then s.bump pgMal 0o047 1
  else
    let pa := bits (s.preg pgMal 0o044) 0 33 * 64 + 4 * (tail % 2 ^ log)
    let ws := [fld 0 3 ty ||| fld 4 7 from_ ||| fld 8 11 to_ ||| fld 12 35 epoch, wd obj,
      fld 20 27 other ||| fld 28 35 heat, wd victim]
    let s := ws.zipIdx.foldl (fun s wi => s.engineWrite (pa + wi.2) wi.1) s
    let s := s.setPregF pgMal 0o046 19 35 ((tail + 1) % 2 ^ 17)
    if used = 0 ∧ bit (s.preg pgMal 0o020) 34 = true then s.pendInt 64 36 else s

/-- MAL_EPOCH (13 Table 13-10). -/
def State.epoch (s : State) : Nat := (s.preg pgMal 0o043).toNat

/-- MAL_CSTAT while a command runs, and when it ends, with vector 36 under NOTE (13 R334, Table 13-10). -/
def State.malStat (s : State) (stat op stage code : Nat) : State :=
  let s := s.setPreg pgMal 0o054 (fld 0 2 stat ||| fld 3 5 op ||| fld 6 8 stage ||| fld 27 35 code)
  if stat ≠ 1 ∧ bit (s.preg pgMal 0o020) 34 = true then s.pendInt 64 36 else s

/-! ### The directory -/

/-- The other members. -/
def State.others (s : State) : List Nat := s.members.filter (· != s.own)

/-- A message to each device of a list; those that cannot be reached are passed over. -/
def State.sendAll (s : State) (ds : List Nat) (body : MsgBody) : State :=
  ds.foldl (fun s d => (s.sendMsg d body).getD s) s

/-- An entry of the original, spread to every replica (13 R335). -/
def State.spreadEntry (s : State) (b : Nat) (e : Word) : State :=
  (s.setDir b e).sendAll s.others (.dirUpdate (BitVec.ofNat 16 b) e)

/-- A directory update is still spreading: some member has not acknowledged it (13 R335). -/
def State.spreading (s : State) : Bool :=
  s.tr.owing.any fun e => match e.1 with
    | .dirUpdate _ _ => true
    | _ => false

/-- A write of DIR_ENT (13 R335, 15 R388). -/
def State.wrDirEnt (s : State) (v : Word) : Answer :=
  let b := bits (s.preg pgQueue 0o036) 20 35
  if s.isManager = false then (cState, s)
  else if dirState (s.dirEntry b) = 1 ∨ s.spreading = true then (cBusy, s)
  else if s.mismatched (bits v 0 4) then (cState, s)
  else (0, s.spreadEntry b (dirNormal (bits v 0 4) (bits v 5 18)))

/-- Members' versions and VMIX as the manager tells them (15 R388; log entry 14). -/
def State.clusterBody (s : State) : MsgBody :=
  .cluster s.vmixNow ((s.own, s.steep.runVer) :: s.tr.vers.filter fun e => e.1 != s.own)

/-- The manager tells every member (15 R388). -/
def State.tellCluster (s : State) : State := if s.isManager then s.sendAll s.others s.clusterBody else s

/-- The manager's whole replica sent to a device, as many messages as it takes, and then the members' versions
(15 R387, R388; log entry 14). -/
def State.sendDirectory (s : State) (d : Nat) : State :=
  let parts := match chunks 126 s.que.dir with
    | [] => [[]]
    | l => l
  let s := parts.zipIdx.foldl
    (fun s e => (s.sendMsg d (.directory (e.2 == 0) s.steep.runVer s.vmixNow e.1)).getD s) s
  (s.sendMsg d s.clusterBody).getD s

/-- A device is known to be at a port's far end, or a member's version is new: the manager notes it, and a device that
joins is sent the directory; another member tells the manager (15 R387, R388; log entry 14). -/
def State.noteJoined (s : State) (fresh : Bool) (d : Nat) (v : Word) : State :=
  let s := s.noteVersion d v
  if s.isManager then
    let s := if fresh && decide (d ≠ s.own) then s.sendDirectory d else s
    s.tellCluster
  else
    match s.manager with
    | some g => s.sendAll [g] (.joined (BitVec.ofNat 5 d) v)
    | none => s

/-! ### Bucket moves -/

/-- Both ends of a move as ARG0 and ARG1 name them. -/
def moveEnd (dev q : Nat) : Word := fld 0 4 dev ||| fld 5 18 q

/-- The object word of a bucket event (13 Table 13-12). -/
def BMove.obj (b : BMove) : Nat := (fld 0 4 b.srcDev ||| fld 5 18 b.srcQ ||| fld 19 23 b.dstDev).toNat

/-- A bucket event. -/
def State.bEvent (s : State) (ty : Nat) (b : BMove) : State := s.malEvent s.epoch ty 15 15 b.obj 0 b.stage 0

/-- The move in which this device takes part, replaced. -/
def State.setMove (s : State) (b : Option BMove) : State := { s with que := { s.que with bmove := b } }

/-- The manager's twin is told the stage of the move (15 R387; log entry 14). -/
def State.noteMove (s : State) : State :=
  let body (b : BMove) : MsgBody := .moveNote b.stage b.failed (moveEnd b.srcDev b.srcQ) (moveEnd b.dstDev b.dstQ) b.devs
  if s.isManager = false ∨ s.straps.twin = false then s
  else
    match s.que.bmove with
    | some b => s.sendAll [Nat.xor s.own 1] (body b)
    | none => s.sendAll [Nat.xor s.own 1] (.moveNote 0 false 0 0 [])

/-- A local queue's state set by the hardware. -/
def State.setQst (s : State) (q st : Nat) : State := s.setQueue q { s.queue q with st }

/-- Entries that name a source, or that are MOVING from it. -/
def State.bucketsOf (s : State) (b : BMove) : List (Nat × Word) :=
  s.que.dir.filter fun e => dirDev e.2 == b.srcDev && dirQueue e.2 == b.srcQ && dirState e.2 != 2

/-- Entries rewritten by the manager and spread. -/
def State.rewrite (s : State) (b : BMove) (f : Word → Word) : State :=
  (s.bucketsOf b).foldl (fun s e => s.spreadEntry e.1 (f e.2)) s

/-- Parked tickets go in order to a queue (13 R337 stage 5, R338). -/
def State.flushPark (s : State) (dev q : Nat) : State :=
  let pq := s.parkq
  (List.range (s.queue pq).waiting).foldl
    (fun s _ =>
      let c := s.queue pq
      let (t, s) := s.readWords (c.slotPa c.head) 4
      let attn := bits (t.getD 1 0) 22 26
      let (att, s) := if attn ≠ 0 ∧ c.attEn = true then s.readWords (c.attSlotPa c.head) attn else ([], s)
      let s :=
        if dev = s.own then s.deliverTicket q t att
        else
          match s.sendMsg dev (.ticket (BitVec.ofNat 14 q) (ticketOf t) att) (some pq) with
          | some s => s
          | none => s.divert pq 2 t
      let c := s.queue pq
      s.settleRet pq { c with head := (c.head + 1) % 2 ^ 17 }) s

/-- A target queue as BMOVE asks for it: of kind work, in HOLD and empty (13 R337). -/
def State.targetReady (s : State) (q : Nat) : Bool :=
  let c := s.queue q
  decide (c.kind = 0) && decide (c.st = qHold) && decide (c.waiting = 0) && s.halfOn q

/-- A fence for queue q reaches the source device, sent by device d (13 R337). One that comes before this device has
itself been told of the move is kept for it. -/
def State.fenceFrom (s : State) (d q : Nat) : State :=
  match s.que.bmove with
  | some b => s.setMove (some { b with fences := d :: b.fences.filter (· != d) })
  | none =>
    if s.isManager = true then s
    else s.setMove (some
      { srcDev := s.own, srcQ := q, dstDev := s.own, dstQ := q, mgr := d, devs := [], stage := 0, acks := []
        fences := [d], sent := false, failed := false, op := 3 })

/-- This device joins stage 1: its PARKQ must be ready, a target queue of its own as BMOVE asks; then it sends
its fence to the source device (13 R316, R337). The code it answers. -/
def State.joinMove (s : State) (b : BMove) : Answer :=
  if s.parkReady = false ∨ (b.dstDev = s.own ∧ s.targetReady b.dstQ = false) then (cState, s)
  else if b.srcDev = s.own then (0, s.fenceFrom s.own b.srcQ)
  else (0, (s.sendMsg b.srcDev (.fence (BitVec.ofNat 5 s.own) (BitVec.ofNat 14 b.srcQ))).getD s)

/-- A move that fails in stages 1 to 3, or is aborted there: entries and parked tickets go back to the source,
whose queue runs again (13 R338). -/
def State.undoMove (s : State) (b : BMove) : State :=
  let s := s.rewrite b fun _ => dirNormal b.srcDev b.srcQ
  let s := s.sendAll (s.others.filter b.devs.contains) (.stage 0 (moveEnd b.srcDev b.srcQ) (moveEnd b.dstDev b.dstQ) b.devs)
  let s := if b.srcDev = s.own ∧ (s.queue b.srcQ).st = qMoving then s.setQst b.srcQ qRun else s
  ((s.flushPark b.srcDev b.srcQ).setMove none).noteMove

/-- A local end of a move is put in HOLD (13 R338). -/
def State.holdEnds (s : State) (b : BMove) : State :=
  let s := if b.srcDev = s.own then s.setQst b.srcQ qHold else s
  if b.dstDev = s.own then s.setQst b.dstQ qHold else s

/-- The manager's move fails at its stage (13 R338). -/
def State.failMove (s : State) (b : BMove) (code : Nat) : State :=
  if b.stage ≤ 3 then ((s.undoMove b).bEvent 12 b).malStat 3 b.op b.stage code
  else
    let s := s.holdEnds b
    let s := s.sendAll (s.others.filter fun d => d == b.srcDev || d == b.dstDev)
      (.stage 6 (moveEnd b.srcDev b.srcQ) (moveEnd b.dstDev b.dstQ) b.devs)
    (s.setMove (some { b with failed := true })).noteMove.malStat 3 b.op b.stage code

/-- A stage's work passes to the source device, here or elsewhere. -/
def State.startStage (s : State) (b : BMove) : State :=
  let s := (s.setMove (some b)).noteMove
  let s := s.malStat 1 b.op b.stage 0
  if b.stage = 5 then s
  else if b.srcDev = s.own then
    if b.stage = 2 ∨ b.stage = 4 then s.setQst b.srcQ qMoving else s
  else
    match s.sendMsg b.srcDev (.stage b.stage (moveEnd b.srcDev b.srcQ) (moveEnd b.dstDev b.dstQ) b.devs) with
    | some s => s
    | none => s.failMove b cAbsent

/-- The manager finds a stage ended (13 Table 13-11). -/
def State.endStage (s : State) (b : BMove) : State :=
  let s := s.bEvent 10 b
  s.startStage { b with stage := b.stage + 1, acks := [], sent := false }

/-- The move is complete (13 Table 13-11 stage 5). -/
def State.finishMove (s : State) (b : BMove) : State := ((s.setMove none).noteMove.bEvent 11 b).malStat 2 b.op 5 0

/-- The stage's work at the source device is done: the manager goes on, or is told (13 R337). -/
def State.sourceDone (s : State) (b : BMove) (code : Nat) : State :=
  if b.mgr = s.own then (if code = 0 then s.endStage b else s.failMove b code)
  else (s.setMove (some { b with stage := 0 })).sendAll [b.mgr] (.stageEnd b.stage code)

/-- A command of the Maltster is running: PLACE or EVICT, or a bucket move of which it is the manager (13 R334). -/
def State.malBusy (s : State) : Bool :=
  s.mal.cmdOp.isSome || (match s.que.bmove with
    | some b => decide (b.mgr = s.own) && !b.failed
    | none => false)

/-- BMOVE (13 R337): the checks at the write, then stage 1. -/
def State.startMove (s : State) : Answer :=
  let a0 := s.preg pgMal 0o051
  let a1 := s.preg pgMal 0o052
  let b : BMove :=
    { srcDev := bits a0 0 4, srcQ := bits a0 5 18, dstDev := bits a1 0 4, dstQ := bits a1 5 18, mgr := s.own
      devs := s.members, stage := 1, acks := s.others, fences := [], sent := false, failed := false, op := 3 }
  if s.isManager = false ∨ (b.dstDev = s.own ∧ s.targetReady b.dstQ = false) then (cState, s)
  else if s.que.bmove.isSome ∨ s.mal.cmdOp.isSome then (cBusy, s)
  else if [b.srcDev, b.dstDev].any (fun d => !s.reachable d || s.mismatched d) then (cAbsent, s)
  else
    let s := (s.setMove (some b)).noteMove
    let s := s.malStat 1 3 1 0
    let s := s.rewrite b fun e => setBits (setBits e 19 20 1) 21 25 b.dstDev
    let s := s.sendAll b.acks (.stage 1 (moveEnd b.srcDev b.srcQ) (moveEnd b.dstDev b.dstQ) b.devs)
    match s.joinMove b with
    | (0, s) =>
      let b := s.que.bmove.getD b
      (0, if b.acks = [] then s.endStage b else s)
    | (code, s) => (0, s.failMove b code)

/-- An acknowledgement of stage 1 or 5, or the end of a source stage, reaches the manager. -/
def State.stageReply (s : State) (d n code : Nat) : State :=
  match s.que.bmove with
  | none => s
  | some b =>
    if b.mgr ≠ s.own ∨ n ≠ b.stage ∨ b.failed = true then s
    else if code ≠ 0 then s.failMove b code
    else if n = 1 ∨ n = 5 then
      let b := { b with acks := b.acks.filter (· != d) }
      let s := s.setMove (some b)
      if b.acks ≠ [] then s else if n = 1 then s.endStage b else s.finishMove b
    else s.endStage b

/-- DRAIN: every fence is in and no ticket of the source queue is in service (13 R337). -/
def execDrain (s : State) : Host.Outcome State Fault Refusal :=
  match s.que.bmove with
  | some b =>
    .next (if b.srcDev = s.own ∧ b.stage = 2 ∧ b.sent = false ∧ b.devs.all b.fences.contains = true ∧
        (s.queue b.srcQ).inServ = [] then s.sourceDone b 0 else s)
  | none => .next s

/-- The frames of a frame list as the Maltster reads it (13 R336): CHECK where a word cannot be read, RESERVED where a
reserved bit is set. -/
def State.frameList (s : State) (q : Nat) : Except (Nat × State) (List (Nat × Nat) × State) :=
  let c := s.queue q
  match s.engineWords (bits c.flist 0 33 * 64) (2 * bits c.flen 23 35) with
  | .error s => .error (cCheck, s.engineUe pgMal)
  | .ok (ws, s) =>
    if ws.any fun w => decide (bits w 0 6 ≠ 0) then .error (cReserved, s)
    else .ok ((chunks 2 ws).map fun l => (bits (l.getD 0 0) 7 35, bits (l.getD 1 0) 7 35), s)

/-- The cells of a frame's line as an engine reads them; an error on a failed read. -/
def State.lineCells (s : State) (f line : Nat) : Except State (List Cell × State) :=
  (List.range 16).foldl
    (fun r i => r.bind fun (cs, s) => (s.engineRead (f * 2048 + line * 16 + i)).map fun (c, s) => (cs ++ [c], s))
    (.ok ([], s))

/-- A line written with its tags (02 R33). -/
def State.putLine (s : State) (f line : Nat) (cs : List Cell) : State :=
  cs.zipIdx.foldl (fun s ci => s.engineCell (f * 2048 + line * 16 + ci.2) ci.1) s

/-- One frame copied to its target frame, here or on another device; CHECK on a failed read, ABSENT without a way
there. -/
def State.copyFrame (s : State) (dev f g : Nat) : Except (Nat × State) State :=
  (List.range 128).foldl
    (fun r j => r.bind fun s => match s.lineCells f j with
      | .error s => .error (cCheck, s.engineUe pgMal)
      | .ok (cs, s) =>
        if dev = s.own then .ok (s.putLine g j cs)
        else
          match s.sendMsg dev (.frameLine (BitVec.ofNat 29 g) j (cs.map fun c => (c.w, c.tag))) with
          | some s => .ok s
          | none => .error (cAbsent, s))
    (.ok s)

/-- Frames copied one after another. -/
def State.copyFrames (s : State) (dev : Nat) (fs : List (Nat × Nat)) : Except (Nat × State) State :=
  fs.foldl (fun r p => r.bind fun s => s.copyFrame dev p.1 p.2) (.ok s)

/-- A prepared posting holds a frame (13 R337, 07 R157). -/
def State.prepHeld (s : State) (f : Nat) : Bool := match s.lockOf f with
  | some (.prepared _ _) => true
  | _ => false

/-- COPY: the listed frames go to their target frames; `good` is false where a line read meets uncorrectable data
(13 R337). -/
def execCopy (good : Bool) (s : State) : Host.Outcome State Fault Refusal :=
  match s.que.bmove with
  | some b =>
    if b.srcDev ≠ s.own ∨ b.stage ≠ 3 ∨ b.sent = true ∨ b.failed = true then .next s
    else
      match s.frameList b.srcQ with
      | .error (code, s) => .next (s.sourceDone b code)
      | .ok (fs, s) =>
        if fs.any (fun p => s.prepHeld p.1) then .next (s.sourceDone b cBusy)
        else if !good then .next ((s.engineUe pgMal).sourceDone b cCheck)
        else
          match s.copyFrames b.dstDev fs with
          | .error (code, t) => .next (t.sourceDone b code)
          | .ok t => .next (if b.dstDev = s.own then t.sourceDone b 0 else t.setMove (some { b with sent := true }))
  | none => .next s

/-- One ticket of the source queue at slot pointer p goes to the target. -/
def State.shipOne (s : State) (b : BMove) (p : Nat) : State :=
  let c := s.queue b.srcQ
  let (t, s) := s.readWords (c.slotPa p) 4
  let attn := bits (t.getD 1 0) 22 26
  let (att, s) := if attn ≠ 0 ∧ c.attEn = true then s.readWords (c.attSlotPa p) attn else ([], s)
  if b.dstDev = s.own then s.deliverTicket b.dstQ t att
  else (s.sendMsg b.dstDev (.ticket (BitVec.ofNat 14 b.dstQ) (ticketOf t) att) (some b.srcQ)).getD s

/-- SHIP: the tickets from RET to TAIL with their attachments, and the source queue OFF; `room` says whether a
target ring on another device can hold them (13 R337). -/
def execShip (room : Bool) (s : State) : Host.Outcome State Fault Refusal :=
  match s.que.bmove with
  | some b =>
    if b.srcDev ≠ s.own ∨ b.stage ≠ 4 ∨ b.sent = true ∨ b.failed = true then .next s
    else
      let c := s.queue b.srcQ
      let d := s.queue b.dstQ
      let n := (c.tail + 2 ^ 17 - c.ret) % 2 ^ 17
      let fits := if b.dstDev = s.own then decide ((d.tail + 2 ^ 17 - d.ret) % 2 ^ 17 + n ≤ d.size) else room
      if !fits then .next (s.sourceDone b cFull)
      else
        let t := (List.range n).foldl (fun s i => s.shipOne b ((c.ret + i) % 2 ^ 17)) s
        let t := t.settleRet b.srcQ
          { t.queue b.srcQ with st := qOff, head := c.tail, deliver := c.tail, inServ := [], released := [] }
        .next (if b.dstDev = s.own then t.sourceDone b 0 else t.setMove (some { b with sent := true }))
  | none => .next s

/-- The work of stage 5 at the manager: entries point at the target, parked tickets go there, its queue runs. -/
def State.flip (s : State) (b : BMove) : State :=
  let b := { b with stage := 5, failed := false, sent := true, acks := s.others.filter b.devs.contains }
  let s := (s.setMove (some b)).noteMove
  let s := s.rewrite b fun _ => dirNormal b.dstDev b.dstQ
  let s := s.sendAll b.acks (.stage 5 (moveEnd b.srcDev b.srcQ) (moveEnd b.dstDev b.dstQ) b.devs)
  let s := s.flushPark b.dstDev b.dstQ
  let s := if b.dstDev = s.own then (s.setQst b.dstQ qRun).signal b.dstQ else s
  if b.acks = [] then s.finishMove b else s

/-- FLIP_OUT (13 R337). -/
def execFlipOut (s : State) : Host.Outcome State Fault Refusal :=
  match s.que.bmove with
  | some b => .next (if b.mgr = s.own ∧ b.stage = 5 ∧ b.sent = false ∧ b.failed = false then s.flip b else s)
  | none => .next s

/-- BABORT (13 R338): stages 1 to 3 alone. -/
def State.abortMove (s : State) : Answer :=
  match s.que.bmove with
  | some b =>
    if b.mgr ≠ s.own ∨ 4 ≤ b.stage then (cState, s)
    else (0, ((s.undoMove b).bEvent 12 b).malStat 2 4 b.stage 0)
  | none => (cState, s)

/-- BFORCE (13 R338): a move that failed in stage 4 or 5 is finished from that stage on, or every entry and parked
ticket goes back to the source. -/
def State.forceMove (s : State) : Answer :=
  match s.que.bmove with
  | some b =>
    if b.mgr ≠ s.own ∨ b.failed = false then (cState, s)
    else if bit (s.preg pgMal 0o051) 35 then
      (let b := { b with failed := false, sent := false, op := 5 }
       (0, if b.stage = 5 then s.flip b else s.startStage b))
    else
      let s := s.rewrite b fun _ => dirNormal b.srcDev b.srcQ
      let s := s.sendAll (s.others.filter b.devs.contains)
        (.stage 7 (moveEnd b.srcDev b.srcQ) (moveEnd b.dstDev b.dstQ) b.devs)
      (0, (((s.flushPark b.srcDev b.srcQ).setMove none).noteMove.bEvent 12 b).malStat 2 5 b.stage 0)
  | none => (cState, s)

/-- A stage message of a bucket move reaches a device that is not its manager (13 R337, R338): 1 joins, 2 to 4 tell
the source device, 5 flushes to the target and runs it, 0 and 7 flush back to the source, 6 holds both queues. -/
def State.onStage (s : State) (mgr n : Nat) (src dst : Word) (devs : List Nat) : State :=
  let old := match s.que.bmove with
    | some o => if o.srcQ = bits src 5 18 then o.fences else []
    | none => []
  let b : BMove :=
    { srcDev := bits src 0 4, srcQ := bits src 5 18, dstDev := bits dst 0 4, dstQ := bits dst 5 18, mgr, devs
      stage := n, acks := [], fences := old, sent := false, failed := false, op := 3 }
  match n with
  | 1 =>
    let (code, s) := (s.setMove (some b)).joinMove b
    s.sendAll [mgr] (.stageEnd 1 code)
  | 2 | 4 => (s.setMove (some b)).setQst b.srcQ qMoving
  | 3 => s.setMove (some b)
  | 5 =>
    let s := (s.setMove none).flushPark b.dstDev b.dstQ
    let s := if b.dstDev = s.own then (s.setQst b.dstQ qRun).signal b.dstQ else s
    s.sendAll [mgr] (.stageEnd 5 0)
  | 6 => s.holdEnds b
  | _ =>
    let s := if n = 0 ∧ b.srcDev = s.own ∧ (s.queue b.srcQ).st = qMoving then s.setQst b.srcQ qRun else s
    (s.setMove none).flushPark b.srcDev b.srcQ

/-- After acknowledgements have come in: a copy or a shipment to another device ends when none of its messages is
outstanding (13 Table 13-11). -/
def State.afterAcks (s : State) : State :=
  match s.que.bmove with
  | some b =>
    let left := s.tr.owing.any fun e => match e.1 with
      | .frameLine _ _ _ => decide (b.stage = 3)
      | .ticket _ _ _ => decide (b.stage = 4) && e.2 == some b.srcQ
      | _ => false
    if b.srcDev = s.own ∧ b.dstDev ≠ s.own ∧ b.sent = true ∧ (b.stage = 3 ∨ b.stage = 4) ∧ left = false then
      s.sourceDone b 0
    else s
  | none => s

/-- The device is treated as unreachable: tickets kept for it are diverted, a bucket move that needs it fails
(15 R373; 13 R338). -/
def State.giveUp (s : State) (t : Nat) : State :=
  let kept := (s.tr.unacked.filter fun e => e.1.dst.toNat == t).map (fun e => (e.1.body, e.2)) ++
    (s.tr.backlog.filter fun e => e.1 == t).map (·.2)
  let first := ((s.tr.unacked.find? fun e => e.1.dst.toNat == t).map fun e => e.1.seq.toNat).getD (tget 0 s.tr.sendSeq t)
  let before := s.members
  let s := { s with tr := { s.tr with
    unreach := t :: s.tr.unreach.filter (· != t)
    unacked := s.tr.unacked.filter fun e => e.1.dst.toNat != t
    backlog := s.tr.backlog.filter fun e => e.1 != t
    sendSeq := tset 0 s.tr.sendSeq t first } }
  let s := kept.foldl
    (fun s e => match e.1 with
      | .ticket q k _ =>
        let ws := [k.key, k.tflags, k.ptrA, k.ptrB]
        (match e.2 with
          | some o => s.divert o 2 ws
          | none => (s.pendInt 64 33).discardTicket q.toNat)
      | _ => s) s
  let s := match s.que.bmove with
    | some b =>
      if b.mgr = s.own ∧ b.failed = false ∧ (b.acks.contains t = true ∨ b.srcDev = t ∨ b.dstDev = t) then
        s.failMove b cAbsent
      else s
    | none => s
  s.noteMembers before

end Sys2Proof.Machine
end

