-- ==== Sys2Proof/Machine/Control.lean ====
section
/-! DEFINITION. Control transfers, the return instruction, waits and barriers, translation control and the moves
of special registers (03 R55-R71; 09 R205-R225; 10 R236, R249; 11 R270, R276-R279; 12 R294, R299). -/

namespace Sys2Proof.Machine

/-- A held IB becomes live (03 R60). -/
def Core.releaseIb (k : Core) : Core :=
  match k.ibHeld with
  | some v => { k with ib := v, ibHeld := none }
  | none => k

/-- The predictor after a conditional branch at PC with this outcome (12 R303). -/
def Core.predict (k : Core) (taken : Bool) : Core :=
  let i := (BitVec.ofNat 10 (bits k.pc 22 31) ^^^ k.hist).toNat
  let c := tget 1 k.pred i
  { k with
    pred := tset 1 k.pred i (if taken then min 3 (c + 1) else c - 1)
    hist := BitVec.ofNat 10 (k.hist.toNat * 2 + taken.toNat) }

/-- The target of a branch within the bank (03 R59). -/
def bankTarget (k : Core) (o : LB) : Word :=
  mkPtr (bits k.ib 20 35 * 2 ^ 16 + nat o.off) (nat o.par)

/-- A branch's end: a taken one makes a held IB live before a long form's target is formed (03 R59, R60, R62;
12 R303). -/
def branchFlow (n cnd : Nat) (target : Core → Word) : M Flow := do
  let k ← getC n
  let taken := k.cond cnd
  if 1 ≤ cnd && !k.resting then modC n fun k => k.predict taken
  if taken then
    modC n Core.releaseIb
    return .delayed (some (target (← getC n)))
  else return .delayed none

/-- BC, short and long (03 R56, R59). -/
def execBc (c : CoreId) (o : BranchForm) : State → Host.Outcome State Fault Refusal :=
  match o with
  | .sb o => issue c (insSB 0o13 o)
      (branchFlow c.val (nat o.cond) fun k => advanceI k.pc o.disp.toInt 2)
  | .lb o => issue c (insLB 0 o false) (branchFlow c.val (nat o.cond) fun k => bankTarget k o)

/-- BAL: RL receives the pointer after the slot whether or not the branch is taken (03 R62); `o.long` tells that the slot
has two parcels (log entry 10). -/
def execBal (c : CoreId) (o : LBSlot) : State → Host.Outcome State Fault Refusal :=
  issue c (insLB 1 o.b true) do
    let k ← getC c.val
    setGr c.val (nat o.b.rl) (parcelAfter k.pc (if o.long then 4 else 3))
    branchFlow c.val (nat o.b.cond) fun k => bankTarget k o.b

/-- JR (03 R59, R60; 02 R19). -/
def execJr (c : CoreId) (o : SX) : State → Host.Outcome State Fault Refusal :=
  issue c { insSX 0o00 0o014 o with barred := true } do
    let t ← gr c.val (nat o.ra)
    if 1 < ptrNib t then alignFault 0 (nat o.ra)
    modC c.val fun k => k.ibFrom t
    return .delayed (some t)

/-- LOOP (03 R70); `o.long` tells that the last instruction of the body has two parcels (log entry 10). -/
def execLoop (c : CoreId) (o : SLEnd) (s : State) : Host.Outcome State Fault Refusal :=
  let k := s.core c.val
  let ls := parcelAfter k.pc 1
  let le := parcelAfter ls (nat o.l.endp)
  issue c
    { insSL 0o16 o.l with place := [(1, k.loopAct), (3, decide (bits le 0 15 ≠ bits ls 0 15))] }
    (do
      let v ← gr c.val (nat o.l.rc)
      if v = 0 then return .jump (parcelAfter le (if o.long then 2 else 1))
      else
        modC c.val fun k =>
          ({ k with
            lc := v, ls := wd (bankOff ls), le := wd (bankOff le)
            shadow := k.shadow.filter fun (x : Shadow) => decide (x.what ≠ Exposed.spr 3 ∧ x.what ≠ Exposed.spr 4 ∧ x.what ≠ Exposed.spr 5) }).setPsw
            24 24 1
        return .seq) s

/-- ENTER and LEAVE are allowed in bank T outside its trap window (09 R210). -/
def Core.barGate (k : Core) : Bool := decide (k.bank ≠ 0) || k.inTrap

/-- Bank T's ring moves to a window and its C0 to a token, at once (09 R201, R205, R210; 03 R64). -/
def Core.gateTo (k : Core) (t : Tok) (ring : Ring) (target : Word) : Core :=
  ((({ (k.touch 8) with
      tRing := ring, c0T := t
      shadow := k.shadow.filter fun (x : Shadow) => decide (x.what ≠ Exposed.c0) }).setPsw 20 23 ring.cwp).mirrorKey).ibFrom target

/-- ENTER k (09 R209, R210). -/
def execEnter (c : CoreId) (o : SX) (s : State) : Host.Outcome State Fault Refusal :=
  issue c { insSX0 0o00 0o007 16 o with barred := true, grp := 9, place := [(4, (s.core c.val).barGate)] }
    (do
      let k ← getC c.val
      let t := k.tok 15
      if t.tag = true ∧ t.type = 2 then raise 5 2 (nat o.ra)
      let e := tget 0 k.en (nat o.ra)
      if bit e 0 = false then raise 5 2 (nat o.ra)
      if k.tRing.res = 10 then raise 18 0 k.tRing.old
      let d := k.domTok
      let ret := parcelAfter k.pc 1
      let a := fld 0 3 2 ||| fld 4 4 1 ||| fld 11 11 d.system.toNat ||| fld 13 16 d.key ||| fld 17 17 (ptrNib ret) |||
        fld 24 35 d.dom
      let gate := (← get).creg c.val 0o024
      let target := mkPtr (bits gate 0 14 * 2 ^ 17 + bits e 18 34) (bits e 35 35)
      modC c.val fun k =>
        (k.setTok 15 { a, b := mkPtr (ptrWord ret) 15, tag := true }).gateTo
          (domainToken (bits e 1 12) (bits e 13 16) (bit e 17))
          { k.tRing with cwp := (k.tRing.cwp + 1) % 11, res := k.tRing.res + 1 } target
      return .jump target) s

/-- LEAVE (09 R210). -/
def execLeave (c : CoreId) (o : SX) (s : State) : Host.Outcome State Fault Refusal :=
  issue c { insSX0 0o00 0o006 1 o with barred := true, grp := 9, place := [(4, (s.core c.val).barGate)] }
    (do
      let k ← getC c.val
      let r := k.tok 15
      if r.tag = false ∨ r.type ≠ 2 ∨ r.stype ≠ 15 then raise 5 2 16
      if k.tRing.res = 1 then raise 19 0 ((k.tRing.cwp + 10) % 11)
      let target := mkPtr (ptrWord r.b) (bits r.a 17 17)
      modC c.val fun k =>
        (k.setTok 15 { r with tag := false }).gateTo (domainToken r.dom r.key r.system)
          { k.tRing with cwp := (k.tRing.cwp + 10) % 11, res := k.tRing.res - 1 } target
      return .jump target) s

/-- An exception taken after its instruction of `len` parcels has completed (10 R231, R233). -/
def raiseAfter (n len vec detail : Nat) : M Flow := do
  let k ← getC n
  if 2 ≤ k.bank ∨ k.inTrap = true then
    modify fun s => s.retire n len .seq
    raise vec 0 detail
  else
    modC n fun k => { k with after := some (vec, detail) }
    return .seq

/-- TRAP (10 R236). -/
def execTrap (c : CoreId) (o : SX) : State → Host.Outcome State Fault Refusal :=
  issue c { insSX0 0o00 0o010 32 o with barred := true } (raiseAfter c.val 1 24 (nat o.ra))

/-- WAIT (09 R221). -/
def execWait (c : CoreId) (o : SX) (s : State) : Host.Outcome State Fault Refusal :=
  let k := s.core c.val
  issue c { insSX0 0o00 0o001 1 o with place := [(4, decide (k.bank = 2) || k.inTrap)] }
    (do
      needEmpty c.val
      let k ← getC c.val
      if k.bank = 3 ∧ k.pend ≠ 0 then return .seq
      else
        modC c.val fun k => { k with run := .waiting }
        await .interrupt) s

/-- SYNC (12 R294). -/
def execSync (c : CoreId) (o : SX) : State → Host.Outcome State Fault Refusal :=
  issue c (insSX0 0o00 0o002 1 o) do
    needEmpty c.val
    return .seq

/-- IFLUSH (12 R299). -/
def execIflush (c : CoreId) (o : SX) : State → Host.Outcome State Fault Refusal :=
  issue c (insSX0 0o00 0o003 1 o) do
    needEmpty c.val
    modC c.val fun k => { k.settleInstr with icache := [] }
    return .seq

/-- A delivery point that first waits for the floating unit (04 R89, R97, R99). -/
def floatPoint (n : Nat) : M Unit := do
  let k ← getC n
  if !k.fpu.isEmpty then await .floating
  if bit k.fsr 19 then raise 17 0 0

/-- FBAR (04 R99). -/
def execFbar (c : CoreId) (o : SX) : State → Host.Outcome State Fault Refusal :=
  issue c (insSX0 0o00 0o004 1 o) do
    floatPoint c.val
    return .seq

/-- Authority for a translation instruction (11 R278). -/
def needSystem (n sub detail : Nat) : M Unit := do
  if (← getC n).domTok.system then pure () else raise 5 sub detail

/-- A special register as an instruction sees it (03 Table 03-7). -/
def Core.sprSeen (k : Core) (n : Nat) (live : Word) : Word := k.loopSeen n live

/-- The entry that the three TLB registers spell (11 Tables 11-8 to 11-10). -/
def tlbEntryOf (ix tag dat : Word) : TlbEntry :=
  { valid := true, va := BitVec.ofNat 32 (bits tag 0 31), size := BitVec.ofNat 2 (bits tag 32 33), g := bit tag 34,
    asid := BitVec.ofNat 12 (bits ix 1 12), pfn := BitVec.ofNat 29 (bits dat 0 28), r := bit dat 29, w := bit dat 30,
    x := bit dat 31, u := bit dat 32, c := bit dat 33, dev := bit dat 34, wt := bit dat 35 }

/-- The SPR at fault in a TLBW, if any (11 R276). -/
def tlbwFault (ix tag dat : Word) : Option Nat :=
  let i := bit ix 0
  let e := tlbEntryOf ix tag dat
  let size := bits tag 32 33
  if size = 3 then some 49
  else if (size = 1 ∧ bits dat 23 28 ≠ 0) ∨ (size = 2 ∧ bits dat 17 28 ≠ 0) then some 50
  else if i = true ∧ 31 < bits ix 13 19 then some 48
  else if (!i && e.x) || (i && (e.r || e.w)) || (e.dev != bit dat 0) || (e.dev && (e.c || e.wt)) || (e.wt && !e.c) ||
      (i && (e.dev || e.wt)) then some 50
  else none

/-- A change of the TLBs of one side or both (03 Table 03-7; 11 R278). -/
def Core.tlbChange (k : Core) (dside iside : Bool) (c : TlbChange) : Core :=
  { k with
    dtlbPend := if dside then k.dtlbPend ++ [(c, 4)] else k.dtlbPend
    itlbPend := if iside then k.itlbPend ++ [c] else k.itlbPend }

/-- The first TLBW after a core reset ends the identity translation: for data at its distance, for fetches with the next
IFLUSH (18 R436). -/
def Core.endIdentity (k : Core) : Core :=
  { k with
    idDEnd := if k.idD && k.idDEnd.isNone then some 4 else k.idDEnd
    idIEnd := k.idI }

/-- TLBW (11 R276). -/
def execTlbw (c : CoreId) (o : SX) : State → Host.Outcome State Fault Refusal :=
  issue c (insSX0 0o00 0o011 1 o) do
    needSystem c.val 0 0
    let k ← getC c.val
    let ix := k.sprSeen 48 k.tlbIndex
    let tag := k.sprSeen 49 k.tlbTag
    let dat := k.sprSeen 50 k.tlbData
    match tlbwFault ix tag dat with
    | some r => raise 4 1 r
    | none =>
      modC c.val fun k =>
        (k.tlbChange (!bit ix 0) (bit ix 0) (.write (bits ix 13 19) (tlbEntryOf ix tag dat))).endIdentity
      return .seq

/-- TLBI (11 R278). -/
def execTlbi (c : CoreId) (o : SX) : State → Host.Outcome State Fault Refusal :=
  issue c (insSX 0o00 0o012 o) do
    needSystem c.val 0 0
    let k ← getC c.val
    let v := k.g (nat o.ra)
    if bits v 2 35 ≠ 0 then raise 4 2 (roleReg 0 (nat o.ra))
    let ix := k.sprSeen 48 k.tlbIndex
    let tag := k.sprSeen 49 k.tlbTag
    modC c.val fun k =>
      match bits v 0 1 with
      | 0 => k.tlbChange (!bit ix 0) (bit ix 0) (.invIndex (bits ix 13 19))
      | 1 => k.tlbChange true true (.invAsid (BitVec.ofNat 12 (bits ix 1 12)))
      | 2 => k.tlbChange true true .invAll
      | _ => k.tlbChange true true
          (.invAddr (BitVec.ofNat 12 (bits ix 1 12)) (BitVec.ofNat 32 (bits tag 0 31)))
    return .seq

/-- KINV (11 R270; 12 R295). -/
def execKinv (c : CoreId) (o : SX) : State → Host.Outcome State Fault Refusal :=
  issue c (insSX 0o00 0o013 o) do
    needEmpty c.val
    needSystem c.val 0 0
    let k ← getC c.val
    let p := k.g (nat o.ra)
    if ptrNib p ≠ 0 then alignFault 0 (nat o.ra)
    match k.lookup .read (ptrWord p) k.domTok.dom with
    | none => accessFault 8 2 .read (ptrWord p) k.domTok.dom 0 0 true
    | some e =>
      if e.dev then accessFault 9 2 .read (ptrWord p) k.domTok.dom 0 0 false
      modify fun s => s.kcDrop (e.phys (ptrWord p) / 2048)
      return .seq

/-! ### Special registers -/

/-- A special register that the table lists (03 Table 03-5). -/
def sprListed (n : Nat) : Bool := decide (n ≤ 16) || (decide (32 ≤ n) && decide (n ≤ 52))

/-- A special register that no MOV writes. -/
def sprReadOnly (n : Nat) : Bool := decide (n = 9) || decide (n = 10) || decide (n = 11) || decide (n = 52)

/-- A special register that needs SYSTEM to be read (03 Table 03-5; 10 R247). -/
def sprReadSystem (n : Nat) : Bool := decide (n = 8) || (decide (48 ≤ n) && decide (n ≤ 52))

/-- The newest value of a special register. -/
def Core.sprLive (k : Core) (n : Nat) : Word :=
  match n with
  | 0 => setBit k.psw 25 false
  | 1 => k.fsr
  | 2 => k.dsr
  | 3 => k.lc
  | 4 => k.ls
  | 5 => k.le
  | 6 => k.prog
  | 7 => k.vfl
  | 8 => k.esp
  | 9 => k.badins
  | 10 => k.cause
  | 11 => k.fq
  | 12 => k.ibRead
  | 13 => tget 0 k.db 0
  | 14 => tget 0 k.db 1
  | 15 => tget 0 k.db 2
  | 16 => tget 0 k.db 3
  | 48 => k.tlbIndex
  | 49 => k.tlbTag
  | 50 => k.tlbData
  | 51 => k.kcIndex
  | 52 => k.kcData
  | n => tget 0 k.en (n - 32)

/-- What a MOV reads (03 R61, R65); PSW.KEY is that of the C0 in force (09 R201). -/
def Core.sprRead (k : Core) (n : Nat) : Word :=
  if n = 0 then setBit (setBits k.seenPsw 4 7 k.domTok.key) 25 false
  else if (3 ≤ n ∧ n ≤ 5) ∨ (12 ≤ n ∧ n ≤ 16) then k.sprLive n
  else if n = 52 ∧ (k.shadowOf (.spr 51)).isSome then k.sprSeen 52 k.kcData
  else k.sprSeen n (k.sprLive n)

/-- A value that may not be written to a special register (03 R55, 04 R89, 05 R104, 08 R193, 10 R247). -/
def Core.sprBad (k : Core) (n : Nat) (v : Word) : Bool :=
  match n with
  | 0 => decide (bits v 26 35 ≠ 0) || decide (bits v 18 23 ≠ bits k.psw 18 23) || bit v 25
  | 1 => decide (5 ≤ bits v 0 2) || decide (bits v 19 20 ≠ 0) || decide (bits v 22 35 ≠ 0)
  | 2 => decide (bits v 5 35 ≠ 0)
  | 4 | 5 => decide (bits v 0 18 ≠ 0)
  | 7 => decide (bits v 0 30 ≠ 0) || decide (16 < bits v 31 35)
  | 8 => decide (bits v 33 35 ≠ 0)
  | 12 | 13 | 14 | 15 | 16 => decide (bits v 0 19 ≠ 0)
  | 48 => decide (bits v 21 35 ≠ 0)
  | 49 => bit v 35
  | 51 => decide (bits v 0 6 ≠ 0)
  | _ => false

/-- Writing this value needs SYSTEM (03 R55). -/
def Core.sprWriteSystem (k : Core) (n : Nat) (v : Word) : Bool :=
  match n with
  | 0 => decide (bits v 8 14 ≠ bits k.psw 8 14) || decide (bits v 17 25 ≠ bits k.psw 17 25)
  | 8 => true
  | n => decide (32 ≤ n)

/-- Put a new value into a special register. -/
def Core.sprPut (k : Core) (n : Nat) (v : Word) : Core :=
  match n with
  | 0 => { k with psw := setBits v 4 7 (bits k.psw 4 7) }
  | 1 => { k with fsr := v }
  | 2 => { (k.touch 4) with dsr := v }
  | 3 => { k with lc := v }
  | 4 => { k with ls := v }
  | 5 => { k with le := v }
  | 6 => { k with prog := v }
  | 7 => { k with vfl := v }
  | 8 => { k with esp := v }
  | 13 => { k with db := tset 0 k.db 0 v }
  | 14 => { k with db := tset 0 k.db 1 v }
  | 15 => { k with db := tset 0 k.db 2 v }
  | 16 => { k with db := tset 0 k.db 3 v }
  | 48 => { k with tlbIndex := setBit v 20 (bit k.tlbIndex 20) }
  | 49 => { k with tlbTag := v }
  | 50 => { k with tlbData := v }
  | n => if 32 ≤ n ∧ n ≤ 47 then { k with en := tset 0 k.en (n - 32) v } else k

/-- A special register written with its exposed distance (03 R60, Table 03-7): `left` counts the MOV's own
parcel. DESIGN CHOICE: the distance to an end-of-body decision ends at the first parcel of the instruction at LE, whose own
parcels do not count (03 R67; log entry 57). -/
def Core.sprWrite (k : Core) (n : Nat) (v : Word) : Core :=
  if n = 12 then { k with ibHeld := some v }
  else
    let what : Exposed := if n = 0 then .psw else .spr n
    (k.expose what (k.sprLive n) Tok.clear (if 3 ≤ n ∧ n ≤ 5 then 5 else 3)).sprPut n v

/-- A probe of the cluster's key cache (11 R271). -/
def probeKc (n : Nat) (v : Word) : M Unit := do
  let s ← get
  let f := bits v 7 35
  let r := s.kcFind (s.kcCluster n f) f
  modC n fun k =>
    let k := (k.expose (.spr 51) k.kcIndex Tok.clear 3).expose (.spr 52) k.kcData Tok.clear 3
    { k with kcIndex := setBit v 0 r.isSome, kcData := r.getD 0 }

/-- The fields of a special-register move: the SPR field is at fault where the table lists no such register, or
where it is written and read-only (03 R55). -/
def sprIns (maj : Nat) (o : SC) : Ins := { insSC maj o with late := true }

/-- Reserved use for a special register, with BADINS as its cause lies in the encoding (03 R55, R75). -/
def sprFault (o : SC) (maj : Nat) : M Unit :=
  throw (.trap { vec := 4, sub := 1, detail := nat o.spr, badins := some (sprIns maj o).badins, tlb := none })

/-- The group of a special register: DSR is of group D (09 R228). -/
def sprGroup (n : Nat) : BitVec 4 := if n = 2 then 4 else 0

/-- MOV to and from a special register (03 R55, R60, R61, R65; 04 R89; 11 R271). -/
def execSprMove (c : CoreId) (m : SprMove) : State → Host.Outcome State Fault Refusal :=
  match m with
  | .toG o => issue c (sprIns 0o14 o) do
      let n := nat o.spr
      if sprListed n = false then sprFault o 0o14
      if n = 1 then floatPoint c.val
      if sprReadSystem n then needSystem c.val 1 n
      groupCheck c.val [nat o.ra] (sprGroup n)
      lazySave c.val (sprGroup n)
      modC c.val fun k => k.setG (nat o.ra) (k.sprRead n)
      return .seq
  | .toS o => issue c (sprIns 0o15 o) do
      let n := nat o.spr
      if sprListed n = false ∨ sprReadOnly n = true then sprFault o 0o15
      if n = 1 then floatPoint c.val
      let k ← getC c.val
      let v := k.g (nat o.ra)
      if k.sprBad n v then raise 4 1 n
      if k.sprWriteSystem n v then needSystem c.val 1 n
      groupCheck c.val [nat o.ra] (sprGroup n)
      lazySave c.val (sprGroup n)
      if n = 51 then probeKc c.val v else modC c.val fun k => k.sprWrite n v
      return .seq

/-! ### RETI -/

/-- Return to a saved PC, NPC and PSW: C0 and PSW of the bank returned to hold at once, every distance ends
(09 R201, R208; 10 R239, R240; 11 R279). -/
def Core.returnTo (k : Core) (pc npc psw : Word) : Core :=
  ((({ k with
      psw := setBit psw 25 false
      pc := pc, npc := some npc, slot := bit psw 25 }).mirrorKey).settleAll).ibFrom pc

/-- RETI in a trap window (09 R208). -/
def retiTrap (n : Nat) : M Flow := do
  let k ← getC n
  let h := if k.bank = 0 then k.hidT else k.hidH
  let size := k.ringSize
  let r := k.ring
  let r : Ring :=
    if h.under then { r with old := (r.old + size - 1) % size, res := r.res + 1 }
    else { r with old := (r.old + 1) % size, res := r.res - 1 }
  modC n fun k =>
    let k :=
      if k.bank = 0 then { (k.touch 8) with tRing := r, hidT := { h with live := false } }
      else { k with hRing := r, hidH := { h with live := false } }
    { (k.returnTo h.pc h.npc h.psw) with cause := h.cause }
  return .ret k.trace

/-- RETI in bank F (09 R212). -/
def retiF (n : Nat) : M Flow := do
  let k ← getC n
  let h := k.hidF
  modC n fun k => { ({ k with hidF := { h with live := false } }.returnTo h.pc h.npc h.psw) with cause := h.cause }
  return .ret k.trace

/-- Words 0 to 8 of a frame put back (09 R213, R214, R217). -/
def Core.unframe (k : Core) (w : List Word) : Core :=
  let g (i : Nat) : Word := w.getD i 0
  let k := k.returnTo (g 0) (g 1) (g 2)
  { k with
    prog := g 3, lc := g 4, ls := wd (bits (g 5) 0 16), le := wd (bits (g 5) 17 33)
    ibHeld := if bit (g 7) 33 then some (wd (bits (g 6) 0 15)) else none
    db := [(0, bits (g 6) 16 31), (1, bits (g 7) 0 15), (2, bits (g 7) 16 31), (3, bits (g 8) 0 15)].foldl
      (fun t e => tset 0 t e.1 (wd e.2)) k.db
    cause := wd (bits (g 8) 16 35) }

/-- The checks of a frame's PSW, PC and NPC; `win` tells whether its window is the one return leads to
(09 R217; 10 R249, Table 10-3). -/
def frameChecks (n : Nat) (w : List Word) (maxBank : Nat) (win : Nat → Nat → Bool) : M Unit := do
  let k ← getC n
  let psw := w.getD 2 0
  let bank := bits psw 18 19
  if bits psw 26 35 ≠ 0 ∨ maxBank < bank ∨ win bank (bits psw 20 23) = false then raise 4 7 0
  let differs := decide (bits psw 8 14 ≠ bits k.psw 8 14) || decide (bits psw 17 17 ≠ bits k.psw 17 17)
  if differs && !k.domTok.system then raise 5 3 0
  if 1 < ptrNib (w.getD 0 0) ∨ 1 < ptrNib (w.getD 1 0) then alignFault 6 0

/-- Words of the frame at H.G7, in program order after this core's stores. -/
def readFrame (n off len : Nat) : M (List Word) := do
  let k ← getC n
  let ps ← (List.range len).mapM fun i =>
    let va := (ptrWord k.hg7 + off + i) % 2 ^ 32
    do return (← access n k.domTok .read 2 storeOpt va 6 (off + i), va)
  if ps.any fun p => !(k.sbNaming p.1.pa).isEmpty then await .storeBuffer
  let cs ← ps.mapIdxM fun i p => fetchWord n p.1 p.2 k.domTok.dom 6 (off + i)
  return cs.map Cell.w

/-- Tail chain (09 R225): the frame stays, the new handler is entered with its level, CLI and hold. -/
def Core.tailChain (k : Core) (v : Nat) (e : VecEntry) : Core :=
  let psw := setBits k.psw 9 12 e.level
  let psw := if e.cli then setBits psw 8 8 0 else psw
  ({ k with
    psw, cause := mkCause v 0 0, pc := e.pc, npc := none, slot := false
    pend := k.pend &&& ~~~(BitVec.ofNat 32 (2 ^ (31 - (v - 32))))
    holding := decide (e.hold ≠ 0) }.settleAll).ibFrom e.pc

/-- RETI in bank H at a full frame (09 R205, R217, R225-R227; 10 R234). -/
def retiH (n : Nat) : M Flow := do
  let k ← getC n
  if ptrNib k.hg7 ≠ 0 then alignFault 6 7
  let w ← readFrame n 0 12
  frameChecks n w 1 fun b x =>
    if b = 0 then decide (x = k.tRing.cwp) else decide (x = (k.hRing.cwp + 2) % 3)
  let psw := w.getD 2 0
  let mark := k.mark
  let traced := bit k.seenPsw 17
  let tied := mark.after || (mark.trace && bit psw 17)
  let s ← get
  let chain := if bit k.seenPsw 14 && !tied && !s.deferred n then s.eligibleInt n psw else none
  match chain.bind fun v => (s.vecEntry n v).map fun e => (v, e) with
  | some (v, e) =>
    modC n fun k => k.tailChain v e
    return .ret false
  | none =>
    let bank := bits psw 18 19
    if bank = 1 ∧ k.hRing.res = 1 then raise 19 1 ((k.hRing.cwp + 2) % 3)
    let d ← if bit (w.getD 5 0) 34 then readFrame n 12 32 else pure []
    let v ← if bit (w.getD 5 0) 35 then readFrame n 44 64 else pure []
    modC n fun k =>
      let k :=
        if d.isEmpty then k
        else
          let k := (List.range 4).foldl (fun k i => k.setAcc i (accOfWords ((d.drop (8 * i)).take 8))) k
          { k with dsr := fld 0 3 (bits (w.getD 6 0) 32 35) ||| fld 4 4 (bits (w.getD 7 0) 32 32) }
      let k :=
        if v.isEmpty then k
        else (List.range 16).foldl (fun k i => k.setV i (vOfWords ((v.drop (4 * i)).take 4))) k
      let ring : Ring :=
        if bank = 1 then { k.hRing with cwp := (k.hRing.cwp + 2) % 3, res := k.hRing.res - 1 }
        else { k.hRing with res := 0 }
      let cause := wd (bits (w.getD 8 0) 16 35)
      let regs := [(9, w.getD 9 0), (10, w.getD 10 0), (11, w.getD 11 0), (15, k.hg7 + 0o3300)].foldl
        (fun t e => tset 0 t e.1 e.2) k.regs
      { (k.unframe w) with
        regs, hRing := ring, depth := k.depth - 1, frames := k.frames.tail
        fresh := k.fresh && decide (k.depth ≠ 1)
        after := if mark.after then some (bits cause 16 21, bits cause 26 35) else none }
    return .ret (traced || (mark.trace && bit psw 17))

/-- RETI in bank E (10 R249): the frame at ESP, after this core's stores to it; a trace pending there goes on (10 R234). -/
def retiE (n : Nat) : M Flow := do
  let k ← getC n
  let base := bits k.esp 0 31 * 256
  if k.sb.any fun e => decide (base ≤ e.addr) && decide (e.addr < base + 9) then await .storeBuffer
  let s ← get
  let w := (List.range 9).map fun i => (s.rd (base + i)).w
  frameChecks n w 2 fun b x =>
    match b with
    | 0 => decide (x = if k.hidT.live then 11 else k.tRing.cwp)
    | 1 => decide (x = if k.hidH.live then 3 else k.hRing.cwp)
    | _ => decide (x = 0)
  modC n fun k => { k.unframe w with traceE := false }
  let t ← getC n
  return .ret (bit k.seenPsw 17 || (k.traceE && (decide (t.bank = 2) || t.inTrap || bit (w.getD 2 0) 17)))

/-- RETI (09 R208, R212, R217; 10 R249). -/
def execReti (c : CoreId) (o : SX) (s : State) : Host.Outcome State Fault Refusal :=
  let k := s.core c.val
  issue c
    { insSX0 0o00 0o005 1 o with
      barred := true
      more := if k.bank = 1 ∧ k.inTrap = false then [1, 2, 3, 7] else []
      place := [(4, decide (k.bank = 0) && !k.inTrap), (5, decide (k.bank = 1) && !k.inTrap && decide (k.depth = 0))] }
    (do
      let k ← getC c.val
      if k.inTrap then retiTrap c.val
      else
        match k.bank with
        | 1 => retiH c.val
        | 2 => retiF c.val
        | _ => retiE c.val) s

end Sys2Proof.Machine
end

