-- ==== Sys2Proof/Machine/Decimal.lean ====
section
/-! DEFINITION. The decimal instructions (02 R22-R27; 05 R102-R122). -/

namespace Sys2Proof.Machine

/-- A register value that an instruction refuses (10 Table 10-3 SUB 2). -/
def regFault {α : Type} (role r : Nat) : M α := raise 4 2 (roleReg role r)

/-! ### Numbers and nibbles -/

/-- The nibbles of an accumulator, digit 0 first, the sign last. -/
def accNibs (a : Acc) : List Nat := (List.range 72).map fun i => a.toNat / 16 ^ (71 - i) % 16

/-- Digits, most significant first, as a number. -/
def digitsNat (ds : List Nat) : Nat := ds.foldl (fun r d => r * 10 + d) 0

/-- A sign nibble that is minus (02 Table 02-3). -/
def minusNib (n : Nat) : Bool := decide (n = 11) || decide (n = 13)

/-- The offset of the first invalid nibble of a packed field of L digits and its sign (02 R24). -/
def badNib (nibs : List Nat) (l : Nat) : Option Nat :=
  (nibs.zipIdx.find? fun x => if x.2 < l then decide (9 < x.1) else decide (x.1 < 10)).map Prod.snd

/-- The value of a packed field. -/
def nibsInt (nibs : List Nat) (l : Nat) : Int :=
  let m : Int := (digitsNat (nibs.take l) : Nat)
  if minusNib (nibs.getD l 12) then -m else m

/-- The low L digits of a result with the sign of R105, and whether it overflows (05 R105, R107). -/
def nibsOf (l : Nat) (v : Int) : List Nat × Bool :=
  let m := v.natAbs % 10 ^ l
  let ds := (List.range l).map fun i => m / 10 ^ (l - 1 - i) % 10
  (ds ++ [if m ≠ 0 ∧ v < 0 then 13 else 12], decide (10 ^ l ≤ v.natAbs))

/-- The value as stored: what the low L digits of a result hold. -/
def storedInt (l : Nat) (v : Int) : Int :=
  let m : Int := (v.natAbs % 10 ^ l : Nat)
  if v < 0 then -m else m

/-- An accumulator of nibbles. -/
def accOf (nibs : List Nat) : Acc := BitVec.ofNat 288 (nibs.foldl (fun r d => r * 16 + d) 0)

/-- A magnitude with its low k digits discarded and rounded under RM, and whether any of them was not 0
(05 R108, Table 05-3). -/
def roundDrop (m k rm : Nat) : Nat × Bool :=
  let q := m / 10 ^ k
  let d := m % 10 ^ k
  let up :=
    match rm with
    | 0 => false
    | 1 => decide (10 ^ k ≤ 2 * d) && decide (0 < k)
    | 2 => decide (10 ^ k < 2 * d) || (decide (10 ^ k = 2 * d) && decide (q % 2 = 1))
    | _ => decide (d ≠ 0)
  (if up then q + 1 else q, decide (d ≠ 0))

/-- The result with the operand's sign. -/
def withSign (v : Int) (m : Nat) : Int := if v < 0 then -(m : Int) else m

/-! ### Modes and flags -/

/-- DSR as an instruction sees it (05 R104). -/
def Core.dsrSeen (k : Core) : Word := k.sprSeen 2 k.dsr

/-- Sticky bits set in DSR, and in the older value still seen (05 R104). -/
def Core.orDsr (k : Core) (w : Word) : Core :=
  if w = 0 then k
  else
    { (k.touch 4) with
      dsr := k.dsr ||| w
      shadow := k.shadow.map fun (x : Shadow) => if x.what = .spr 2 then { x with old := x.old ||| w } else x }

/-- DV and DX. -/
def dsrBits (dv dx : Bool) : Word := fld 3 3 dv.toNat ||| fld 4 4 dx.toNat

/-- The end of a decimal instruction of `len` parcels with a result: flags N, Z, V, DSR, and Decimal overflow
after completion where it traps (05 R106, R107). -/
def finishDec (n len : Nat) (neg zero ovf dx : Bool) : M Flow := do
  let trap := ovf && bit (← getC n).dsrSeen 2
  modC n fun k => (k.orDsr (dsrBits ovf dx)).setFlags (some neg) (some zero) (some ovf) none
  if trap then raiseAfter n len 13 0 else return .seq

/-- A result of 71 digits put into an accumulator. -/
def finishAcc (n len dd : Nat) (v : Int) (dx : Bool) : M Flow := do
  let (nibs, ovf) := nibsOf 71 v
  let st := storedInt 71 v
  modC n fun k => k.setAcc dd (accOf nibs)
  finishDec n len (decide (st < 0)) (decide (st = 0)) ovf dx

/-- The value of an accumulator, every nibble checked; `sub` names it in CAUSE (05 R119 item 5). -/
def accValue (n d sub : Nat) : M Int := do
  let nibs := accNibs ((← getC n).acc d)
  match badNib nibs 71 with
  | some i => raise 12 sub i
  | none => return nibsInt nibs 71

/-- The flags of a comparison (05 Table 05-2). -/
def Core.compareFlags (k : Core) (a b : Int) : Core :=
  k.setFlags (some (decide (a < b))) (some (decide (a = b))) (some false) (some (decide (b ≤ a)))

/-! ### Accumulator instructions -/

/-- An instruction that an interruption abandons: nothing has changed and it runs again (05 R113, R120). -/
def abandonIf (stop : Bool) : M Unit := if stop then await .microTrap else pure ()

/-- DADD and DSUB. -/
def decAdd (n : Nat) (neg : Bool) (o : SD) : M Flow := do
  let a ← accValue n (nat o.dd) 2
  let b ← accValue n (nat o.ds) 3
  finishAcc n 1 (nat o.dd) (if neg then a - b else a + b) false

/-- DADD. -/
def execDadd (c : CoreId) (o : SD) : State → Host.Outcome State Fault Refusal :=
  issue c (insSD 0 o true false) (decAdd c.val false o)

/-- DSUB. -/
def execDsub (c : CoreId) (o : SD) : State → Host.Outcome State Fault Refusal :=
  issue c (insSD 1 o true false) (decAdd c.val true o)

/-- DMUL. -/
def execDmul (c : CoreId) (o : SD) (stop : Bool) : State → Host.Outcome State Fault Refusal :=
  issue c { insSD 2 o true false with ctl := true } do
    let a ← accValue c.val (nat o.dd) 2
    let b ← accValue c.val (nat o.ds) 3
    abandonIf stop
    finishAcc c.val 1 (nat o.dd) (a * b) false

/-- DDIV (05 R110). -/
def execDdiv (c : CoreId) (o : SD) (stop : Bool) : State → Host.Outcome State Fault Refusal :=
  let i := insSD 3 o true true
  issue c { i with ctl := true, fields := (5, decide (nat o.dd % 2 ≠ 0)) :: i.fields } do
    let s := (← gr c.val (nat o.rg)).toNat
    if 71 < s then regFault 0 (nat o.rg)
    let a ← accValue c.val (nat o.dd) 2
    let b ← accValue c.val (nat o.ds) 3
    if b = 0 then raise 14 0 0
    abandonIf stop
    let m := a.natAbs * 10 ^ s
    let q := withSign (a * b) (m / b.natAbs)
    let r := withSign a (m % b.natAbs)
    modC c.val fun k => k.setAcc (nat o.dd + 1) (accOf (nibsOf 71 r).1)
    finishAcc c.val 1 (nat o.dd) q false

/-- DCMP. -/
def execDcmp (c : CoreId) (o : SD) : State → Host.Outcome State Fault Refusal :=
  issue c (insSD 4 o true false) do
    let a ← accValue c.val (nat o.dd) 2
    let b ← accValue c.val (nat o.ds) 3
    modC c.val fun k => k.compareFlags a b
    return .seq

/-- DSHF (05 R111). -/
def execDshf (c : CoreId) (o : SD) : State → Host.Outcome State Fault Refusal :=
  issue c (insSD 5 o false true) do
    let k ← getC c.val
    let cnt := (k.g (nat o.rg)).toInt
    let a ← accValue c.val (nat o.dd) 2
    if 0 ≤ cnt then finishAcc c.val 1 (nat o.dd) (a * 10 ^ (min cnt 72).toNat) false
    else
      let (m, dx) := roundDrop a.natAbs (min cnt.natAbs 72) (bits k.dsrSeen 0 1)
      finishAcc c.val 1 (nat o.dd) (withSign a m) dx

/-- DRND (05 R111). -/
def execDrnd (c : CoreId) (o : SD) : State → Host.Outcome State Fault Refusal :=
  issue c (insSD 6 o false true) do
    let k ← getC c.val
    let cnt := (k.g (nat o.rg)).toNat
    if 71 < cnt then regFault 0 (nat o.rg)
    let a ← accValue c.val (nat o.dd) 2
    if cnt = 0 then
      modC c.val fun k => k.setFlags (some (decide (a < 0))) (some (decide (a = 0))) none none
      return .seq
    else
      let (m, dx) := roundDrop a.natAbs cnt (bits k.dsrSeen 0 1)
      finishAcc c.val 1 (nat o.dd) (withSign a (m * 10 ^ cnt)) dx

/-- The fields of DCVB and DCVD: RG names a pair. -/
def cvIns (min : Nat) (o : SD) : Ins :=
  let i := insSD min o false true
  { i with ctl := true, fields := i.fields ++ [(9, decide (nat o.rg % 2 ≠ 0))], more := [nat o.rg + 1] }

/-- DCVB (05 R112). -/
def execDcvb (c : CoreId) (o : SD) (stop : Bool) : State → Host.Outcome State Fault Refusal :=
  issue c (cvIns 7 o) do
    let a ← accValue c.val (nat o.dd) 2
    abandonIf stop
    let v : BitVec 72 := BitVec.ofInt 72 a
    modC c.val fun k =>
      (k.setG (nat o.rg) (wd (v.toNat / 2 ^ 36))).setG (nat o.rg + 1) (wd v.toNat)
    finishDec c.val 1 v.msb (decide (v = 0)) (decide (v.toInt ≠ a)) false

/-- DCVD (05 R112). -/
def execDcvd (c : CoreId) (o : SD) (stop : Bool) : State → Host.Outcome State Fault Refusal :=
  issue c (cvIns 8 o) do
    let k ← getC c.val
    abandonIf stop
    let v : BitVec 72 :=
      BitVec.ofNat 72 ((k.g (nat o.rg)).toNat * 2 ^ 36 + (k.g (nat o.rg + 1)).toNat)
    finishAcc c.val 1 (nat o.dd) v.toInt false

/-! ### Fields in memory -/

/-- Words that `count` pieces, k to the word, span from a pointer. -/
def spanWords (p : Word) (count k : Nat) : Nat := (ptrNib p + count + k - 1) / k

/-- The pieces of a field, read word by word from its first (05 R116, R119). -/
def readPieces (n : Nat) (p : Word) (count k role : Nat) (piece : Word → Nat → Nat) : M (List Nat) := do
  let ws ← (List.range (spanWords p count k)).mapM fun i =>
    readWord n ((ptrWord p + i) % 2 ^ 32) role i
  let all := ws.flatMap fun c => (List.range k).map (piece c.w)
  return (all.drop (ptrNib p)).take count

/-- A packed field of L digits and its sign. -/
def readPacked (n : Nat) (p : Word) (l role : Nat) : M (List Nat) := readPieces n p (l + 1) 9 role digitOf

/-- A zoned field of L digits and its sign character. -/
def readZoned (n : Nat) (p : Word) (l role : Nat) : M (List Nat) := readPieces n p (l + 1) 4 role charOf

/-- The words of a result field, probed for writing. -/
def probeField (n : Nat) (p : Word) (count k role : Nat) : M (List Phys) :=
  (List.range (spanWords p count k)).mapM fun i => probeWrite n ((ptrWord p + i) % 2 ^ 32) role i

/-- A word stored with some of its pieces replaced, indivisibly, its tag cleared (05 R117; 06 R130). -/
def State.storeVia (s : State) (n : Nat) (p : Phys) (f : Word → Word) : State :=
  if p.bad then s
  else
    match s.openFor p.pa p.sl with
    | some (true, s) => s.storeWord n p fullMask (f (s.rd p.pa).w) false
    | _ => s.storeWord n p fullMask 0 false

/-- The pieces of a probed result field are written. -/
def writePieces (n : Nat) (p : Word) (k : Nat) (ps : List Phys) (put : Word → Nat → Nat → Word)
    (vs : List Nat) : M Unit :=
  for x in ps.zipIdx do
    modify fun s => s.storeVia n x.1 fun w =>
      (List.range k).foldl
        (fun w j =>
          let at_ := x.2 * k + j
          if at_ < ptrNib p then w
          else
            match vs[at_ - ptrNib p]? with
            | some v => put w j v
            | none => w) w

/-- A packed operand's value, checked; `sub` 0 the first operand, 1 the second. -/
def packedValue (nibs : List Nat) (l sub : Nat) : M Int :=
  match badNib nibs l with
  | some i => raise 12 sub i
  | none => return nibsInt nibs l

/-- Alignment of a digit pointer and of a character pointer (00 R5). -/
def alignDigit (p : Word) (role r : Nat) : M Unit := if 8 < ptrNib p then alignFault role r else pure ()
def alignChar (p : Word) (role r : Nat) : M Unit := if 3 < ptrNib p then alignFault role r else pure ()

/-- A length register of 1 to 255 (05 R114). -/
def lengthReg (n r role : Nat) : M Nat := do
  let v := (← gr n r).toNat
  if v = 0 ∨ 255 < v then regFault role r else return v

/-- A scale register of 0 to 71. -/
def scaleReg (n r role : Nat) : M Nat := do
  let v := (← gr n r).toNat
  if 71 < v then regFault role r else return v

/-- The fields of a memory decimal instruction that works on an accumulator: MOD[33:35] zero. -/
def dldIns (min : Nat) (o : LR) : Ins :=
  let i := insLR 0o34 min o
  { i with
    fields := i.fields ++ [(33, decide (nat o.mod % 8 ≠ 0))]
    regs := [(5, nat o.ra), (10, nat o.rb), (26, nat o.rc)], grp := 4, ctl := true }

/-- DLD (05 R115). -/
def execDld (c : CoreId) (o : LR) (stop : Bool) : State → Host.Outcome State Fault Refusal :=
  issue c (dldIns 0o000 o) do
    let n := c.val
    let l ← lengthReg n (nat o.rc) 2
    let s ← scaleReg n (nat o.ra) 0
    let p ← gr n (nat o.rb)
    alignDigit p 1 (nat o.rb)
    let nibs ← readPacked n p l 1
    let v ← packedValue nibs l 0
    abandonIf stop
    finishAcc n 2 (nat o.mod / 8) (v * 10 ^ s) false

/-- DST (05 R115). -/
def execDst (c : CoreId) (o : LR) (stop : Bool) : State → Host.Outcome State Fault Refusal :=
  issue c (dldIns 0o001 o) do
    let n := c.val
    let l ← lengthReg n (nat o.rc) 2
    let r ← scaleReg n (nat o.ra) 0
    let p ← gr n (nat o.rb)
    alignDigit p 1 (nat o.rb)
    let ps ← probeField n p (l + 1) 9 1
    let a ← accValue n (nat o.mod / 8) 2
    abandonIf stop
    let (m, dx) := roundDrop a.natAbs r (bits (← getC n).dsrSeen 0 1)
    let v := withSign a m
    let (nibs, ovf) := nibsOf l v
    writePieces n p 9 ps setDigit nibs
    finishDec n 2 (decide (storedInt l v < 0)) (decide (storedInt l v = 0)) ovf dx

/-- The fields of a form whose MOD names the length word's register. -/
def arithIns (min : Nat) (useRa : Bool) (o : LR) : Ins :=
  let i := insLR 0o34 min o
  { i with
    fields := (5, !useRa && decide (nat o.ra ≠ 0)) :: i.fields
    regs := (if useRa then [(5, nat o.ra)] else []) ++ [(10, nat o.rb), (26, nat o.rc), (31, nat o.mod)]
    grp := 4, ctl := true }

/-- The lengths LR, L1 and L2 of a length word (05 R114). -/
def lengthWord (n r : Nat) (noResult : Bool) (max2 : Nat) : M (Nat × Nat × Nat) := do
  let w ← gr n r
  let lr := bits w 12 19
  let l1 := bits w 20 27
  let l2 := bits w 28 35
  if bits w 0 11 ≠ 0 ∨ (if noResult then lr ≠ 0 else lr = 0) ∨ l1 = 0 ∨ l2 = 0 ∨ max2 < l2 then regFault 3 r
  else return (lr, l1, l2)

/-- DADDM, DSUBM and DMULM (05 R115-R117). -/
def decArith (n : Nat) (f : Int → Int → Int) (max2 : Nat) (o : LR) (stop : Bool) : M Flow := do
  let (lr, l1, l2) ← lengthWord n (nat o.mod) false max2
  let pb ← gr n (nat o.rb)
  let pc ← gr n (nat o.rc)
  let pa ← gr n (nat o.ra)
  alignDigit pb 1 (nat o.rb)
  alignDigit pc 2 (nat o.rc)
  alignDigit pa 0 (nat o.ra)
  let x ← readPacked n pb l1 1
  let y ← readPacked n pc l2 2
  let ps ← probeField n pa (lr + 1) 9 0
  let a ← packedValue x l1 0
  let b ← packedValue y l2 1
  abandonIf stop
  let v := f a b
  let (nibs, ovf) := nibsOf lr v
  writePieces n pa 9 ps setDigit nibs
  finishDec n 2 (decide (storedInt lr v < 0)) (decide (storedInt lr v = 0)) ovf false

/-- DADDM. -/
def execDaddm (c : CoreId) (o : LR) (stop : Bool) : State → Host.Outcome State Fault Refusal :=
  issue c (arithIns 0o002 true o) (decArith c.val (· + ·) 255 o stop)

/-- DSUBM. -/
def execDsubm (c : CoreId) (o : LR) (stop : Bool) : State → Host.Outcome State Fault Refusal :=
  issue c (arithIns 0o003 true o) (decArith c.val (· - ·) 255 o stop)

/-- DMULM. -/
def execDmulm (c : CoreId) (o : LR) (stop : Bool) : State → Host.Outcome State Fault Refusal :=
  issue c (arithIns 0o004 true o) (decArith c.val (· * ·) 16 o stop)

/-- DCMPM. -/
def execDcmpm (c : CoreId) (o : LR) (stop : Bool) : State → Host.Outcome State Fault Refusal :=
  issue c (arithIns 0o005 false o) do
    let n := c.val
    let (_, l1, l2) ← lengthWord n (nat o.mod) true 255
    let pb ← gr n (nat o.rb)
    let pc ← gr n (nat o.rc)
    alignDigit pb 1 (nat o.rb)
    alignDigit pc 2 (nat o.rc)
    let x ← readPacked n pb l1 1
    let y ← readPacked n pc l2 2
    let a ← packedValue x l1 0
    let b ← packedValue y l2 1
    abandonIf stop
    modC n fun k => k.compareFlags a b
    return .seq

/-- The fields of ZPK and PKZ: MOD[32:35] zero. -/
def zonedIns (min : Nat) (o : LR) : Ins :=
  let i := insLR 0o34 min o
  { i with
    fields := i.fields ++ [(32, decide (nat o.mod % 16 ≠ 0))]
    regs := [(5, nat o.ra), (10, nat o.rb), (26, nat o.rc)], grp := 4, ctl := true }

/-- The lengths L1 of the result and L2 of the source of ZPK and PKZ (05 Table 05-6). -/
def zonedLengths (n r : Nat) : M (Nat × Nat) := do
  let w ← gr n r
  if bits w 0 19 ≠ 0 ∨ bits w 20 27 = 0 ∨ bits w 28 35 = 0 then regFault 2 r
  else return (bits w 20 27, bits w 28 35)

/-- The value of a zoned field, or the offset of its first invalid character (02 R26, R27). -/
def zonedValue (cs : List Nat) (first : Bool) : Except Nat Int :=
  let l := cs.length - 1
  let sAt := if first then 0 else l
  let bad := cs.zipIdx.find? fun x =>
    if x.2 = sAt then !(decide (x.1 = 0o053) || decide (x.1 = 0o040) || decide (x.1 = 0o055))
    else decide (x.1 < 0o060) || decide (0o071 < x.1)
  match bad with
  | some x => .error x.2
  | none =>
    let ds := (if first then cs.drop 1 else cs.take l).map (· - 0o060)
    let m : Int := (digitsNat ds : Nat)
    .ok (if cs.getD sAt 0 = 0o055 then -m else m)

/-- ZPK (05 R115). -/
def execZpk (c : CoreId) (o : LR) (stop : Bool) : State → Host.Outcome State Fault Refusal :=
  issue c (zonedIns 0o006 o) do
    let n := c.val
    let (l1, l2) ← zonedLengths n (nat o.rc)
    let pb ← gr n (nat o.rb)
    let pa ← gr n (nat o.ra)
    alignChar pb 1 (nat o.rb)
    alignDigit pa 0 (nat o.ra)
    let cs ← readZoned n pb l2 1
    let ps ← probeField n pa (l1 + 1) 9 0
    match zonedValue cs (o.mod.getMsbD 0) with
    | .error i => raise 12 0 i
    | .ok v =>
      abandonIf stop
      let (nibs, ovf) := nibsOf l1 v
      writePieces n pa 9 ps setDigit nibs
      finishDec n 2 (decide (storedInt l1 v < 0)) (decide (storedInt l1 v = 0)) ovf false

/-- The characters of a zoned result (05 R115; 02 Table 02-5). -/
def zonedOf (l : Nat) (v : Int) (first : Bool) : List Nat :=
  let nibs := (nibsOf l v).1
  let ds := (nibs.take l).map (· + 0o060)
  let sgnc := if nibs.getD l 12 = 13 then 0o055 else 0o053
  if first then sgnc :: ds else ds ++ [sgnc]

/-- PKZ (05 R115). -/
def execPkz (c : CoreId) (o : LR) (stop : Bool) : State → Host.Outcome State Fault Refusal :=
  issue c (zonedIns 0o007 o) do
    let n := c.val
    let (l1, l2) ← zonedLengths n (nat o.rc)
    let pb ← gr n (nat o.rb)
    let pa ← gr n (nat o.ra)
    alignDigit pb 1 (nat o.rb)
    alignChar pa 0 (nat o.ra)
    let x ← readPacked n pb l2 1
    let ps ← probeField n pa (l1 + 1) 4 0
    let v ← packedValue x l2 0
    abandonIf stop
    writePieces n pa 4 ps setChar (zonedOf l1 v (o.mod.getMsbD 0))
    finishDec n 2 (decide (storedInt l1 v < 0)) (decide (storedInt l1 v = 0)) (nibsOf l1 v).2 false

/-! ### Check digits -/

/-- The check value of a payload, most significant digit first (05 R121). -/
def checkValue (alg : Nat) (p : List Nat) : Nat :=
  let r := p.reverse.zipIdx
  match alg with
  | 0 =>
    let sum := r.foldl
      (fun t x => t + (if x.2 % 2 = 0 then (if 9 < 2 * x.1 then 2 * x.1 - 9 else 2 * x.1) else x.1)) 0
    (10 - sum % 10) % 10
  | 1 => (11 - r.foldl (fun t x => t + x.1 * (2 + x.2 % 6)) 0 % 11) % 11
  | _ => 98 - digitsNat p * 100 % 97

/-- CKD (05 R121, R122). -/
def execCkd (c : CoreId) (o : LR) (stop : Bool) : State → Host.Outcome State Fault Refusal :=
  let i := insLR 0o34 0o010 o
  let alg := nat o.mod / 8
  issue c
    { i with
      fields := i.fields ++ [(31, decide (alg = 3)), (34, decide (nat o.mod % 4 ≠ 0))]
      regs := [(5, nat o.ra), (10, nat o.rb), (26, nat o.rc)], ctl := true } do
    let n := c.val
    let verify := o.mod.getMsbD 2
    let l ← lengthReg n (nat o.rc) 2
    let chk := if alg = 2 then 2 else 1
    if verify = true ∧ l < chk + 1 then regFault 2 (nat o.rc)
    let p ← gr n (nat o.rb)
    alignDigit p 1 (nat o.rb)
    let ds ← readPieces n p l 9 1 digitOf
    match ds.findIdx? fun d => decide (9 < d) with
    | some i => raise 12 0 i
    | none =>
      abandonIf stop
      let v := checkValue alg (if verify then ds.take (l - chk) else ds)
      let z := if verify then decide (digitsNat (ds.drop (l - chk)) = v) else decide (v = 0)
      modC n fun k => (k.setG (nat o.ra) (wd v)).setFlags (some false) (some z) (some false) none
      return .seq

end Sys2Proof.Machine
end

