-- ==== Sys2Proof/Machine/Tokens.lean ====
section
/-! DEFINITION. The token instructions between registers (02 R34-R37; 11 R256-R265). -/

namespace Sys2Proof.Machine

/-- Token register r as an instruction sees it: a load of C0 is seen 2 parcels later (03 Table 03-7). -/
def Core.tokSeen (k : Core) (r : Nat) : Tok := if r = 0 then k.domTok else k.tok r

/-- A token put into C[ra] by an instruction of `len` parcels; C0 takes only a token that R256 lets in, checked as
register `from_` in `role`. -/
def putTok (n ra : Nat) (t : Tok) (from_ role len : Nat) : M Unit := do
  if ra = 0 then
    useToken t from_ role 6
    modC n fun k => (k.expose .c0 0 k.c0 (2 + len)).setC0 t
  else modC n fun k => k.setTok ra t

/-- The encoding of a form with token fields RA and RB. -/
def tokIns (min : Nat) (o : LR) (useRc useMod : Bool) : Ins :=
  let i := insLR 0o35 min o
  { i with
    fields := i.fields ++ [(26, !useRc && decide (nat o.rc ≠ 0)), (31, !useMod && decide (nat o.mod ≠ 0))]
    regs := (if useRc then [(26, nat o.rc)] else []) ++ (if useMod then [(31, nat o.mod)] else [])
    toks := [(5, nat o.ra), (10, nat o.rb)], grp := 1, ctl := true }

/-- CMOV (11 R262). -/
def execCmov (c : CoreId) (o : LR) : State → Host.Outcome State Fault Refusal :=
  issue c (tokIns 0o020 o false false) do
    let t := (← getC c.val).tokSeen (nat o.rb)
    putTok c.val (nat o.ra) t (nat o.rb) 1 2
    return .seq

/-- The proposed words lie within what a source token reaches (11 R263). -/
def narrowWithin (s t : Tok) : Bool :=
  decide (t.type = s.type) && (decide (t.key = s.key) || decide (s.key = 0)) &&
    (if t.type = 0 then decide (s.lo ≤ t.lo) && decide (t.hi ≤ s.hi)
      else decide (bits t.a 17 35 = bits s.a 17 35) && decide (bits t.b 0 31 = bits s.b 0 31))

/-- CNARROW (11 R263). -/
def execCnarrow (c : CoreId) (o : LR) : State → Host.Outcome State Fault Refusal :=
  issue c (tokIns 0o021 o true true) do
    let n := c.val
    let k ← getC n
    let rb := nat o.rb
    let s := k.tokSeen rb
    if !s.tag then raise 5 0 rb
    if s.illFormed then raise 4 8 (roleReg 1 rb)
    if s.sealed || !s.derive then raise 5 0 rb
    let t : Tok := { a := k.g (nat o.rc), b := k.g (nat o.mod), tag := true }
    if t.badA || t.sealed || decide (t.type = 2) then regFault 2 (nat o.rc)
    if t.badB || decide (t.stype ≠ 0) then regFault 3 (nat o.mod)
    let mint := decide (s.type = 6) && s.system
    if !mint && !narrowWithin s t then raise 5 0 rb
    if t.rights &&& s.rights ≠ t.rights then raise 5 0 rb
    if t.type = 0 ∧ 2 ^ 32 < t.hi then raise 5 0 rb
    putTok n (nat o.ra) t 0 0 2
    return .seq

/-- The seal type in G[RC], with authority for it (11 R264). -/
def sealType (n : Nat) (o : LR) : M Nat := do
  let k ← getC n
  let t := (k.g (nat o.rc)).toNat
  if t = 0 ∨ 15 ≤ t then regFault 2 (nat o.rc)
  let own := bits ((← get).preg pgSys (0o020 + t)) 24 35
  if k.domTok.system || decide (k.domTok.dom = own) then return t else raise 5 0 0

/-- The source of CSEAL and CUNSEAL: tagged and well formed. -/
def sealSource (n : Nat) (o : LR) : M Tok := do
  let t := (← getC n).tokSeen (nat o.rb)
  if !t.tag then raise 5 0 (nat o.rb)
  if t.illFormed then raise 4 8 (roleReg 1 (nat o.rb))
  return t

/-- CSEAL (11 R264). -/
def execCseal (c : CoreId) (o : LR) : State → Host.Outcome State Fault Refusal :=
  issue c (tokIns 0o022 o true false) do
    let ty ← sealType c.val o
    let t ← sealSource c.val o
    if t.sealed || decide (t.type = 2) then raise 5 0 (nat o.rb)
    putTok c.val (nat o.ra) { t with a := setBit t.a 4 true, b := setBits t.b 32 35 ty } 0 0 2
    return .seq

/-- CUNSEAL (11 R264). -/
def execCunseal (c : CoreId) (o : LR) : State → Host.Outcome State Fault Refusal :=
  issue c (tokIns 0o023 o true false) do
    let ty ← sealType c.val o
    let t ← sealSource c.val o
    if !t.sealed || decide (t.stype ≠ ty) then raise 5 0 (nat o.rb)
    putTok c.val (nat o.ra) { t with a := setBit t.a 4 false, b := setBits t.b 32 35 0 } 0 0 2
    return .seq

/-- The word that CTEST writes (11 Table 11-4). -/
def ctestWord (a b : Cell) : Word :=
  let t : Tok := { a := a.w, b := b.w, tag := a.tag && b.tag }
  let ok := t.tag && !t.illFormed
  fld 0 0 a.tag.toNat ||| fld 1 1 b.tag.toNat ||| fld 2 2 ok.toNat ||| fld 3 3 t.sealed.toNat ||| fld 4 7 t.type |||
    fld 8 15 t.rights ||| fld 16 19 t.stype

/-- CTEST (11 R265). -/
def execCtest (c : CoreId) (o : LR) : State → Host.Outcome State Fault Refusal :=
  let i := insLR 0o35 0o024 o
  let mem := o.mod.getMsbD 0
  let rb := nat o.rb
  issue c
    { i with
      fields := i.fields ++ [(26, decide (nat o.rc ≠ 0)), (32, decide (nat o.mod % 16 ≠ 0))]
      regs := (5, nat o.ra) :: (if mem then [(10, rb)] else [])
      toks := if mem then [] else [(10, rb)], grp := 1, ctl := true } do
    let n := c.val
    let k ← getC n
    let w ← if mem then do
        let p := k.g rb
        if ptrNib p ≠ 0 ∨ ptrWord p % 2 ≠ 0 then alignFault 1 rb
        let a ← readWord n (ptrWord p) 1 0
        let b ← readWord n (ptrWord p + 1) 1 1
        pure (ctestWord a b)
      else do
        let t := k.tokSeen rb
        pure (ctestWord { w := t.a, tag := t.tag } { w := t.b, tag := t.tag })
    modC n fun k =>
      (k.setG (nat o.ra) w).setFlags (some false) (some (!bit w 2)) (some false) none
    return .seq

end Sys2Proof.Machine
end

