-- ==== Sys2Proof/Machine/Posting.lean ====
section
/-! DEFINITION. Balanced posting: POST, PREP, CONF, ABRT, JRD, and the events of the Cellar that carry a posting on
(07 R149-R181). -/

namespace Sys2Proof.Machine

/-! ### The checks of POST and PREP -/

/-- A step of the checks: a refusal's status ends the posting. -/
abbrev P (α : Type) := ExceptT Word M α

/-- Refuse with a status. -/
def refuse {α : Type} (code : Nat) (leg : Option Nat) : P α := throw (postStatus code leg 0 false)

/-- Refuse where a condition holds. -/
def refuseIf (bad : Bool) (code : Nat) (leg : Option Nat) : P Unit := if bad then refuse code leg else pure ()

/-- The checks that come before a descriptor or a prepared record is read (07 R152, R165). -/
def postGate : P Unit := do
  let code := (← get).postCode
  refuseIf (decide (code ≠ 0)) code none

/-- A word of the descriptor (07 R149, R156). -/
def descWord (n : Nat) (p : Word) (i : Nat) : M Word := do
  return (← readWord n ((ptrWord p + i) % 2 ^ 32) 6 i).w

/-- A balance word translated: a TLB miss is an exception (07 R152, R156). -/
def balanceEntry (n va i : Nat) : P TlbEntry := do
  let k ← liftM (getC n)
  let d := k.domTok
  match k.lookup .write va d.dom with
  | some e => return e
  | none => liftM (accessFault (α := TlbEntry) 8 3 .write va d.dom 6 i true)

/-- Rights and the Guard let a balance word be written (07 R152). -/
def balanceRight (d : Tok) (e : TlbEntry) : Bool := e.w && (d.system || e.u) && !e.dev && !(d.system && e.u)

/-- The storage key of a balance word: KEY where it does not match; a refused key record is an exception, and a record or
a frame above DRAM a machine check of class 3, with nothing done (07 R152; 11 R268, R269). -/
def balanceKey (n pa i leg : Nat) : P Unit := do
  let key := (← liftM (getC n)).domTok.key
  let above : M Unit := do
    modify (·.mcheck n 3 1023)
    await .microTrap
  match (← get).keyCheck n (pa / 2048) key .write true with
  | .reserved => liftM (raise (α := Unit) 4 6 (roleOff 6 i))
  | .refused s =>
    set s
    refuse 0o045 (some leg)
  | .missing cl => liftM (await (α := Unit) (.keyRecord cl (pa / 2048)))
  | .noTable => liftM above
  | .pass _ s =>
    set s
    if s.populated n pa then pure () else liftM above

/-- The physical words of a leg's balance field: all translated, then their rights, then their keys (07 R152). -/
def balanceWords (n bal leg : Nat) : P (List Nat) := do
  let va (j : Nat) : Nat := (bal + j) % 2 ^ 32
  let es ← (List.range 3).mapM fun j => balanceEntry n (va j) j
  let d := (← liftM (getC n)).domTok
  refuseIf (es.any fun e => !balanceRight d e) 0o001 (some leg)
  let addrs := es.mapIdx fun j e => e.phys (va j)
  let _ ← addrs.mapIdxM fun j pa => balanceKey n pa j leg
  return addrs

/-- The token that a leg names covers its balance with POST (07 R152). -/
def legToken (k : Core) (creg : Nat) (bal : Word) : Bool :=
  let t := k.tok creg
  t.tag && !t.illFormed && !t.sealed && decide (t.type = 0) && t.post && decide (t.lo ≤ ptrWord bal) &&
    decide (ptrWord bal + 3 ≤ t.hi)

/-- One leg's checks, in the order of R152: the leg and its currency. -/
def checkLeg (n : Nat) (p : Word) (ncur i : Nat) (before : List (Leg × Nat)) : P (Leg × Nat) := do
  let ws ← (List.range 6).mapM fun j => liftM (descWord n p (2 + 6 * i + j))
  let w (j : Nat) : Word := ws.getD j 0
  let lf := w 2
  let creg := bits lf 4 7
  let cur := bits lf 1 2
  refuseIf (decide (bits lf 8 35 ≠ 0) || decide (creg = 0) || decide (creg = 15)) 0o003 (some i)
  refuseIf (decide (ncur < cur)) 0o002 (some i)
  refuseIf (decide (ptrNib (w 1) ≠ 0)) 0o004 (some i)
  refuseIf (!legToken (← liftM (getC n)) creg (w 1)) 0o001 (some i)
  let addrs ← balanceWords n (ptrWord (w 1)) i
  refuseIf (before.any fun l => decide (l.1.addrs ≠ addrs) && l.1.addrs.any (addrs.contains ·)) 0o046 (some i)
  let amt := [w 3, w 4, w 5]
  match packed26 amt with
  | none => refuse 0o042 (some i)
  | some v =>
    refuseIf (decide (v = 0)) 0o002 (some i)
    refuseIf (bit lf 0 == decide (v < 0)) 0o043 (some i)
    return ({ acct := w 0, lflags := lf, amt, addrs, new := [] }, cur)

/-- Every leg's checks in turn. -/
def checkLegs (n : Nat) (p : Word) (ncur : Nat) : Nat → Nat → Option Nat → List (Leg × Nat) → P (List (Leg × Nat))
  | 0, _, _, done => return done
  | m + 1, i, left, done => do
    let l ← checkLeg n p ncur i done
    if left = some 0 then liftM (await (α := Unit) .microTrap)
    checkLegs n p ncur m (i + 1) (left.map (· - 1)) (done ++ [l])

/-- The first currency whose amounts do not sum to zero (07 R152). -/
def unbalanced (ncur : Nat) (legs : List (Leg × Nat)) : Option Nat :=
  (List.range (ncur + 1)).find? fun c =>
    decide ((legs.filter fun l => l.2 == c).foldl (fun t l => t + (packed26 l.1.amt).getD 0) (0 : Int) ≠ 0)

/-- Frames in ascending order without repeats (07 R157). -/
def framesOf (addrs : List Nat) : List Nat := addrs.foldr (fun a t => insertNat (a / 2048) t) []

/-! ### Locks and balances -/

/-- What the taking of a posting's locks comes to (07 R157). -/
inductive LockResult where
  | all (s : State)
  | busy (frame : Nat) (s : State)
  | waits (frame : Nat) (s : State)
  deriving Repr

/-- Locks taken in order until one is held, or a directory is full (07 R157). -/
def takeLocks (core : Nat) : List Nat → State → LockResult
  | [], s => .all s
  | f :: t, s =>
    match s.lockOf f with
    | some (.prepared _ _) => .busy f s
    | some (.core m) => if m = core then takeLocks core t s else .waits f s
    | none =>
      if (s.dirLocks f).length < 1024 then
        takeLocks core t (s.modCel fun c => { c with locks := (f, .core core) :: c.locks })
      else .waits f s

/-- Why a posting's balances cannot be computed: it is refused with a status, or a word of a field could not be read. -/
inductive NoBalance where
  | refused (st : Word)
  | unread (off : Nat) (s : State)
  deriving DecidableEq, Repr

/-- The new balances of the legs in order, each seeing what the previous ones left, or why there are none
(07 R150, R152). `cur` holds the words computed so far by first physical word. -/
def newBalances (s : State) : Nat → List Leg → List (Nat × List Word) → List Leg → Except NoBalance (List Leg)
  | _, [], _, done => .ok done
  | i, l :: t, cur, done =>
    let key := l.addrs.getD 0 0
    let words : Except (Nat × State) (List Word) :=
      match cur.find? fun e => e.1 == key with
      | some e => .ok e.2
      | none => l.addrs.zipIdx.mapM fun a => ((s.engineRead a.1).map fun r => r.1.w).mapError fun s => (a.2, s)
    match words with
    | .error (j, s) => .error (.unread j s)
    | .ok ws =>
      match packed26 ws with
      | none => .error (.refused (postStatus 0o042 (some i) 0 false))
      | some b =>
        let v := b + (packed26 l.amt).getD 0
        if 10 ^ 26 ≤ v.natAbs then .error (.refused (postStatus 0o044 (some i) 0 false))
        else if bit l.lflags 3 ∧ v < 0 then .error (.refused (postStatus 0o041 (some i) 0 false))
        else
          let nw := toPacked26 v
          newBalances s (i + 1) t ((key, nw) :: cur) (done ++ [{ l with new := nw }])

/-- The posting of a core replaced. -/
def State.setPosting (s : State) (p : Posting) : State :=
  s.modCel fun c => { c with posts := p :: c.posts.filter fun q => q.core != p.core }

/-- A posting whose checks are done takes its locks and computes its balances: refused, waiting for a lock, or
waiting for admission; true where the instruction has ended. A balance that cannot be read is a machine check of
class 1 (07 R152, R157). -/
def State.lockPosting (s : State) (p : Posting) : State × Bool :=
  match takeLocks p.core p.frames s with
  | .busy f s =>
    let leg := p.legs.findIdx? fun l => l.addrs.any fun a => a / 2048 == f
    (s.refusePosting p.core (postStatus 0o005 leg 0 false), true)
  | .waits f s =>
    ((s.setPosting { p with stage := .lockWait }).modCore p.core fun k => { k with wait := some (.frameLock f) }, false)
  | .all s =>
    match newBalances s 0 p.legs [] [] with
    | .error (.refused st) => (s.refusePosting p.core st, true)
    | .error (.unread j s) =>
      ((((s.setPosting p).abandonPosting p.core).modCore p.core fun k =>
        { k with wait := some .microTrap }).mcheck p.core 1 (512 + j), false)
    | .ok legs =>
      ((s.setPosting { p with stage := .admission, legs }).modCore p.core fun k =>
        { k with wait := some .admission }, false)

/-- A posting instruction's encoding (07 R151): legal in banks T and H, never in a slot. -/
def postIns (k : Core) (min : Nat) (o : LR) : Ins :=
  let i := insLR 0o35 min o
  { i with
    fields := i.fields ++ [(5, decide (nat o.ra ≠ 0)), (26, decide (nat o.rc ≠ 0))]
    regs := [(10, nat o.rb)], more := [1, 2, 3], barred := true, grp := 1, ctl := true
    place := [(4, decide (2 ≤ k.bank))] }

/-- A refusal ends the instruction: G1 and the flags, and the counter (07 R152, R180). -/
def endRefused (n : Nat) (st : Word) : M Flow := do
  modify fun s => s.refusePosting n st
  return .seq

/-- A posting record in the making. -/
def newPosting (core : Nat) (kind : PKind) (dom : Nat) : Posting :=
  { core, kind, stage := .admission, legs := [], ref := 0, dom, frames := [], seq0 := 0, seq1 := 0, prep0 := 0
    prep1 := 0, pos := 0, len := 0, sync := false }

/-- PREPs in progress on other cores. -/
def State.prepsUnderWay (s : State) (n : Nat) : List Posting :=
  s.cel.posts.filter fun p => decide (p.kind = .prep) && decide (p.core ≠ n)

/-- One more prepared posting has its entry, those of PREPs under way counted (07 R164). -/
def State.prepRoom (s : State) (n : Nat) : Bool :=
  decide (s.cel.prepared.length + ((s.prepsUnderWay n).filter fun p => !p.committed).length < 256)

/-- The prepared quota of every directory a PREP would lock in, with the frames of PREPs under way (07 R157, R164). -/
def State.prepQuota (s : State) (n : Nat) (frames : List Nat) : Bool :=
  let want := ((s.prepsUnderWay n).flatMap Posting.frames ++ frames).foldr insertNat []
  frames.all fun f =>
    let held := ((s.dirLocks f).filter fun l => l.2.isPrepared).length
    let more := (want.filter fun g => s.homeOf g == s.homeOf f && !((s.lockOf g).any Holder.isPrepared)).length
    decide (held + more ≤ 768)

/-- All checks of a POST or PREP up to its locks. -/
def postChecks (n : Nat) (kind : PKind) (p : Word) (stop : Option Nat) : P Posting := do
  postGate
  let ctl ← liftM (descWord n p 0)
  let ref ← liftM (descWord n p 1)
  refuseIf (decide (bits ctl 0 25 ≠ 0) || decide (bits ctl 31 33 ≠ 0)) 0o003 none
  let nleg := bits ctl 26 30
  let ncur := bits ctl 34 35
  refuseIf (decide (nleg = 0) || decide (16 < nleg)) 0o002 none
  let legs ← checkLegs n p ncur nleg 0 stop []
  match unbalanced ncur legs with
  | some c => throw (postStatus 0o040 none c false)
  | none =>
    let frames := framesOf (legs.flatMap fun l => l.1.addrs)
    let s ← get
    refuseIf (decide (kind = .prep) && (!s.prepRoom n || !s.prepQuota n frames)) 0o047 none
    let dom := (← liftM (getC n)).domTok.dom
    return { newPosting n kind dom with legs := legs.map Prod.fst, ref, frames }

/-- POST and PREP. DESIGN CHOICE: Alignment of G[RB] comes before STATE, LOCKED and ABSENT too, which do not depend on it
(07 R156; log entry 61). -/
def posting (c : CoreId) (min : Nat) (kind : PKind) (o : LR) (stop : Option Nat) (s : State) :
    Host.Outcome State Fault Refusal :=
  let i := postIns (s.core c.val) min o
  issue c { i with fields := i.fields ++ [(31, decide (nat o.mod ≠ 0))] }
    (do
      let n := c.val
      let p ← gr n (nat o.rb)
      if ptrNib p ≠ 0 then alignFault 1 (nat o.rb)
      match ← (postChecks n kind p stop).run with
      | .error st => endRefused n st
      | .ok q =>
        let (s, ended) := (← get).lockPosting q
        set s
        if ended then return .seq else await ((s.core n).wait.getD .admission)) s

/-- POST (07 R151, R152). -/
def execPost (c : CoreId) (o : LR) (stop : Option Nat) : State → Host.Outcome State Fault Refusal :=
  posting c 0o000 .post o stop

/-- PREP (07 R164). -/
def execPrep (c : CoreId) (o : LR) (stop : Option Nat) : State → Host.Outcome State Fault Refusal :=
  posting c 0o001 .prep o stop

/-- The prepared posting that CONF and ABRT name, and their authority (07 R165). -/
def prepChecks (n : Nat) (o : LR) : P Prepared := do
  postGate
  let k ← liftM (getC n)
  let s ← get
  match s.openPrepared (k.g (nat o.rb)) (k.g (nat o.rb + 1)) with
  | none => refuse 0o050 none
  | some q =>
    let t := k.tok (nat o.mod % 16)
    let ok :=
      if o.mod.getMsbD 0 then t.tag && !t.illFormed && !t.sealed && decide (t.type = 7) && t.post
      else decide (k.domTok.dom = q.dom)
    refuseIf (!ok) 0o001 none
    return q

/-- CONF and ABRT up to their admission. -/
def settlement (c : CoreId) (min : Nat) (kind : PKind) (o : LR) (s : State) : Host.Outcome State Fault Refusal :=
  let i := postIns (s.core c.val) min o
  issue c
    { i with
      fields := i.fields ++ [(10, decide (nat o.rb % 2 ≠ 0)), (32, !o.mod.getMsbD 0 && decide (nat o.mod ≠ 0))]
      more := (nat o.rb + 1) :: i.more }
    (do
      let n := c.val
      match ← (prepChecks n o).run with
      | .error st => endRefused n st
      | .ok q =>
        let dom := (← getC n).domTok.dom
        modify fun s => s.setPosting { newPosting n kind dom with prep0 := q.seq0, prep1 := q.seq1 }
        await .admission) s

/-- CONF. -/
def execConf (c : CoreId) (o : LR) : State → Host.Outcome State Fault Refusal := settlement c 0o002 .conf o

/-- ABRT. -/
def execAbrt (c : CoreId) (o : LR) : State → Host.Outcome State Fault Refusal := settlement c 0o003 .abrt o

/-! ### JRD -/

/-- The words of a record from its header word 0. -/
def recLen (h : Word) : Nat := if bits h 0 3 = 1 ∨ bits h 0 3 = 2 then 4 + 8 * bits h 4 8 else 6

/-- The record that a cursor leads to past pads, or the status that ends the search (07 R178). -/
def findRecord (c : Cellar) : Nat → Word → Except Nat Word
  | 0, _ => .error 0o015
  | fuel + 1, p =>
    if p = c.append then .error 0o051
    else if ringPairs < posDist p c.append then .error 0o052
    else
      let h := c.word p 0
      if bits h 21 32 ≠ posLap p then .error 0o052
      else if bits h 33 35 ≠ 0 ∨ (bits h 0 3 ∉ [1, 2, 3, 4, 15]) then .error 0o015
      else if bits h 0 3 ≠ 15 then .ok p
      else findRecord c fuel (mkPos ((posLap p + 1) % 4096) 0)

/-- JRD (07 R178, R179). -/
def execJrd (c : CoreId) (o : LR) (stop : Option Nat) (s : State) : Host.Outcome State Fault Refusal :=
  let (ra, rb, rc) := (nat o.ra, nat o.rb, nat o.rc)
  let i := insLR 0o35 0o004 o
  issue c
    { i with
      fields := i.fields ++
        distinctRegs [(5, ra), (10, rb), (26, rc)] ++ [(31, o.mod.getMsbD 0)]
      regs := [(5, ra), (10, rb), (26, rc)], more := [1], grp := 1, ctl := true
      place := [(4, decide (2 ≤ (s.core c.val).bank))] }
    (do
      let n := c.val
      let k ← getC n
      let p := k.g rb
      if ptrNib p ≠ 0 then alignFault 1 rb
      let s ← get
      let t := k.tok (nat o.mod)
      let cur := k.g ra
      let finish (code : Nat) : M Flow := do
        modC n fun k =>
          (k.setG 1 (postStatus code none 0 false)).setFlags (some false) (some (decide (code = 0))) (some false) none
        return .seq
      if s.cel.st = .off ∨ s.cel.st = .scan then finish 0o010
      else if !(t.tag && !t.illFormed && !t.sealed && decide (t.type = 7) && t.read) then finish 0o001
      else if ringPairs ≤ posPair cur ∨ posBefore s.cel.append cur then finish 0o002
      else
        match findRecord s.cel 4 cur with
        | .error code => finish code
        | .ok q =>
          let w := recLen (s.cel.word q 0)
          if (k.g rc).toNat < w then
            setGr n rc (wd w)
            finish 0o053
          else
            let unit (i : Nat) : M Unit :=
              writeWord n ((ptrWord p + i) % 2 ^ 32) 1 i fullMask (s.cel.word q i)
            for i in List.range w do
              if stop = some i then await .microTrap
              unit i
            modC n fun k => (k.setG rc (wd w)).setG ra (posAdv q (w / 2))
            finish 0) s
where
  /-- The registers must differ and be neither G0 nor G1 (07 R178). -/
  distinctRegs : List (Nat × Nat) → List (Nat × Bool)
    | [] => []
    | l => l.zipIdx.map fun x => (x.1.1, decide (x.1.2 < 2) || (l.take x.2).any fun y => y.2 == x.1.2)

/-! ### Events -/

/-- LOCK_WAIT_END: the posting that waited for a lock goes on (07 R157). -/
def execLockWaitEnd (c : CoreId) (s : State) : Host.Outcome State Fault Refusal :=
  match s.postingOf c.val with
  | some p =>
    if p.stage = .lockWait then
      let (s, ended) := s.lockPosting p
      .next (if ended then s.retire c.val 2 .seq else s)
    else .next s
  | none => .next s

/-- ADMISSION: a posting that has passed its checks is admitted, refused with FULL, or waits on (07 R160). -/
def execAdmission (c : CoreId) (s : State) : Host.Outcome State Fault Refusal :=
  match s.postingOf c.val with
  | some p => .next (if p.stage = .admission then s.admitPosting p else s)
  | none => .next s

/-- RECORD_DURABLE: the oldest record in flight is durable in MRAM (07 R161, R171). -/
def execRecordDurable (s : State) : Host.Outcome State Fault Refusal := .next s.recordDurable

/-- LONE: 4.0 µs without the twin's acknowledgement (07 R162). -/
def execLone (c : CoreId) (s : State) : Host.Outcome State Fault Refusal := .next (s.completeLone c.val)

/-- What a tail scan has found: the position reached, the next COUNT, the TERM, and the sequence numbers of the prepared
records and of those that confirm and abort records settle. -/
structure Scan where
  pos : Word
  count : Nat
  term : Nat
  preps : List (Word × Word)
  settled : List (Word × Word)
  deriving DecidableEq, Repr

/-- The walk of a tail scan (07 R171, R173). -/
def scanWalk (c : Cellar) : Nat → Scan → Scan
  | 0, x => x
  | fuel + 1, x =>
    let h := c.word x.pos 0
    let kind := bits h 0 3
    if bits h 21 32 ≠ posLap x.pos ∨ bits h 33 35 ≠ 0 then x
    else if kind = 15 then scanWalk c fuel { x with pos := mkPos ((posLap x.pos + 1) % 4096) 0 }
    else if kind ∉ [1, 2, 3, 4] then x
    else
      let q := (c.word x.pos 1, c.word x.pos 2)
      scanWalk c fuel
        { pos := posAdv x.pos (recLen h / 2), count := (seqCount q.1 q.2 + 1) % 2 ^ 56, term := seqTerm q.1
          preps := if kind = 2 then q :: x.preps else x.preps
          settled := if kind = 3 ∨ kind = 4 then (c.word x.pos 4, c.word x.pos 5) :: x.settled else x.settled }

/-- TAIL_SCAN: the records from the checkpoint give the append position and the next sequence number; prepared
postings without a durable record, or settled by one, leave the table; the others' frames are locked (07 R167, R173). The
terms compare as 15 R376 says. Service begins, or DRAIN where power is failing (07 R176, R181). -/
def State.tailScan (s : State) : State :=
  let c := s.cel
  let x := scanWalk c (ringPairs + 1) { pos := c.ckpt, count := c.ckptCount, term := c.ckptTerm, preps := [], settled := [] }
  let prepared := c.prepared.filter fun q =>
    let sq := (q.seq0, q.seq1)
    !q.settled && !x.settled.contains sq && (countBefore (seqCount q.seq0 q.seq1) c.ckptCount || x.preps.contains sq)
  let locks := prepared.flatMap fun q => (framesOf q.addrs).map fun f => (f, Holder.prepared q.seq0 q.seq1)
  { s with cel := { c with
      st := if s.pins.pwrFailLow then .drain else .service
      append := x.pos, count := x.count, term := if termGt c.term x.term then c.term else x.term, prepared, locks } }

/-- TAIL_SCAN. -/
def execTailScan (s : State) : Host.Outcome State Fault Refusal :=
  .next (if s.cel.st = .scan then s.tailScan else s)

/-- MRAM_FAILURE: the Cellar goes from SCAN or SERVICE to FAULT and the steward gets a machine check of class 6 (07 R181, 10
R252). -/
def execMramFailure (s : State) : Host.Outcome State Fault Refusal :=
  .next (if s.cel.st = .scan ∨ s.cel.st = .service then (s.modCel fun c => { c with st := .fault }).mcheck 64 6 0 else s)

end Sys2Proof.Machine
end

