-- ==== Sys2Proof/Machine/Steep.lean ====
section
/-! DEFINITION. The control image, its store and field update (16 R391-R412). -/

namespace Sys2Proof.Machine

/-! ### The store -/

/-- Areas of the image store by first byte: copy A, the steeping area, copy B, the delta area (16 Table 16-2). -/
abbrev areaA : Nat := 0
abbrev areaS : Nat := 2 ^ 22
abbrev areaB : Nat := 2 * 2 ^ 22
abbrev areaD : Nat := 3 * 2 ^ 22

/-- Bytes of the store. -/
def State.bytes (s : State) (a n : Nat) : List Nat := (List.range n).map fun i => (tget 0 s.store (a + i)).toNat

/-- Bytes written to the store. -/
def State.putBytes (s : State) (a : Nat) (bs : List Octet) : State :=
  { s with store := bs.zipIdx.foldl (fun t bi => tset 0 t (a + bi.2) bi.1) s.store }

/-- An area of 4 MiB cleared. -/
def State.clearArea (s : State) (a : Nat) : State :=
  { s with store := s.store.filter fun e => !(decide (a ≤ e.1) && decide (e.1 < a + 2 ^ 22)) }

/-- One area copied over another. -/
def State.copyArea (s : State) (src dst : Nat) : State :=
  let s := s.clearArea dst
  { s with store :=
      ((s.store.filter fun e => decide (src ≤ e.1) && decide (e.1 < src + 2 ^ 22)).foldl
        (fun t e => tset 0 t (e.1 - src + dst) e.2) s.store) }

/-- Word i of an image of bytes: two words per 9 bytes (16 R391). -/
def imageWord (bs : List Nat) (i : Nat) : Nat :=
  let v := beNat ((bs.drop (9 * (i / 2))).take 9)
  if i % 2 = 0 then v / 2 ^ 36 else v % 2 ^ 36

/-- The directory's sections: ID, start and length; none where it breaks R391. -/
def imageSections (bs : List Nat) : Option (List (Nat × Nat × Nat)) :=
  let pairs := (List.range 15).map fun k => (wd (imageWord bs (2 + 2 * k)), wd (imageWord bs (3 + 2 * k)))
  let used := pairs.filter fun p => p.1 ≠ 0 ∨ p.2 ≠ 0
  let secs := used.map fun p => (bits p.1 30 35, bits p.1 0 19, bits p.2 16 35)
  let words := bs.length / 9 * 2
  let bad :=
    decide (bits (wd (imageWord bs 1)) 0 29 ≠ 0) ||
    used.any (fun p => decide (bits p.1 20 29 ≠ 0 ∨ bits p.2 0 15 ≠ 0)) ||
    secs.any (fun x => decide (x.1 < 1 ∨ 10 < x.1 ∨ words < x.2.1 + x.2.2)) ||
    decide ((secs.map (·.1)).eraseDups.length ≠ secs.length) ||
    secs.any (fun x => secs.any fun y =>
      decide (x.1 ≠ y.1) && decide (x.2.1 < y.2.1 + y.2.2) && decide (y.2.1 < x.2.1 + x.2.2)) ||
    [1, 2, 10].any fun i => !(secs.map (·.1)).contains i
  if bad then none else some secs

/-- The words of a section of an image, at most as many as Table 16-1 gives it; none where the image lacks it. -/
def imageSection (img : List Nat) (id most : Nat) : List Word :=
  match imageSections img with
  | some l =>
    match l.find? fun x => x.1 == id with
    | some (_, start, len) => (List.range (min len most)).map fun i => wd (imageWord img (start + i))
    | none => []
  | none => []

/-- Micro-words of 96 bits packed without gaps into words (16 Table 16-1; 12 R306). -/
def microWords (ws : List Word) : List (BitVec 96) :=
  ((chunks 8 ws).flatMap fun l =>
    let v := l.foldl (fun r w => r * 2 ^ 36 + w.toNat) 0 * 2 ^ (36 * (8 - l.length))
    (List.range (36 * l.length / 96)).map fun i => BitVec.ofNat 96 (v / 2 ^ (96 * (2 - i)))).take 4096

/-- The start check of an image (16 R391, R394 step 3). -/
def State.imageGood (s : State) (area len : Nat) (dig : List Octet) : Bool :=
  let bs := s.bytes area len
  decide (0 < len) && decide (sha384 bs = dig.map BitVec.toNat) && (imageSections bs).isSome &&
    decide (s.steep.fuseEpoch ≤ bits (wd (imageWord bs 1)) 30 35)

/-- The image store and what an update needs are in service: the Cellar interface is powered and its MRAM has not failed
(01 R10). -/
def State.storeUp (s : State) : Bool := decide (s.cel.st ≠ .off) && decide (s.cel.st ≠ .fault)

/-- Modify the update machinery. -/
def State.modSteep (s : State) (f : Steep → Steep) : State := { s with steep := f s.steep }

/-- A STEEP_EV bit and vector 39 where enabled (16 R411). -/
def State.steepEvent (s : State) (b : Nat) : State :=
  let s := s.orPreg pgSteep 0o035 (fld b b 1)
  if bit (s.preg pgSteep 0o036) b then s.pendInt 64 39 else s

/-- STEEP_CSTAT (16 Table 16-8). -/
def State.steepStat (s : State) (stat op code : Nat) : State :=
  s.setPreg pgSteep 0o023 (fld 0 2 stat ||| fld 3 5 op ||| fld 27 35 code)

/-- The running command ends. -/
def State.endSteep (s : State) (op code : Nat) : State :=
  (s.modSteep fun x => { x with cmd := none }).steepStat (if code = 0 then 2 else 3) op code

/-! ### Headers -/

/-- A header piece read as Table 16-3 lays it out. -/
structure Header where
  magic : Nat
  format : Nat
  keyId : Nat
  epoch : Nat
  flags : Nat
  base : Nat
  target : Nat
  ilen : Nat
  dlen : Nat
  npiece : Nat
  ntable : Nat
  idig : List Nat
  tdig : List (List Nat)
  sig : List Nat
  zeros : Bool
  deriving DecidableEq, Repr

/-- A header from its 4,096 bytes. -/
def headerOf (bs : List Nat) : Header :=
  let at_ (a n : Nat) : List Nat := (bs.drop a).take n
  let num (a n : Nat) : Nat := beNat (at_ a n)
  let compat := decide (num 4 1 = 1)
  let nt := num 0x22 1
  let zero (l : List Nat) : Bool := l.all (· == 0)
  { magic := num 0 4, format := num 4 1, keyId := num 5 1, epoch := num 6 1, flags := num 7 1, base := num 8 8
    target := num 0x10 8, ilen := num 0x18 4, dlen := num 0x1C 4, npiece := num 0x20 2, ntable := nt
    idig := at_ 0x24 48, tdig := (List.range 12).map fun k => at_ (0x54 + 48 * k) 48, sig := at_ 0xFA0 96
    zeros := zero (at_ 0x23 1) && zero (at_ 0x294 (0xFA0 - 0x294)) && decide (num 7 1 ≤ 1) &&
      decide (num 8 8 < 2 ^ 36) && decide (num 0x10 8 < 2 ^ 36) &&
      (if compat then zero (at_ 0x54 576) && zero (at_ 0xFA0 96)
        else (List.range 12).all fun k => decide (k < nt) || zero (at_ (0x54 + 48 * k) 48)) }

/-- The session's header. -/
def State.header (s : State) : Header := headerOf (s.bytes (areaD + 4128768) 4096)

/-- A signature under a mask-ROM key (16 R397, R398). -/
def imageSigOk (key : Nat) (sig msg : List Nat) : Bool :=
  let (x, y) := Config.imageKey key
  ecdsaVerify p384 x y (beNat (sha384 msg)) (beNat (sig.take 48)) (beNat ((sig.drop 48).take 48))

/-- Codes of updates (17 Table 17-3). -/
abbrev uVersion : Nat := 0o11
abbrev uSignature : Nat := 0o12
abbrev uBase : Nat := 0o13
abbrev uBusy : Nat := 0o14
abbrev uSpent : Nat := 0o20

/-- Steps 1 to 7 of Table 16-4. -/
def State.headerCode (s : State) (bs : List Nat) (h : Header) : Nat :=
  let compat := decide (h.format = 1)
  let per := if compat then 4092 else 4096
  if s.steep.spent then uSpent
  else if h.magic ≠ 0x4A365544 ∨ h.zeros = false ∨ 1 < h.format ∨
      (compat = true ∧ bit (s.preg pgSteep 0o021) 26 = false) then cReserved
  else if s.steep.st = .apply ∨ s.steep.st = .provisional ∨ s.steep.st = .confirm then cState
  else if 3 < h.keyId ∨ h.keyId < s.steep.fuseEpoch / 16 ∨
      (compat = false ∧ imageSigOk h.keyId h.sig (bs.take 0xFA0) = false) then uSignature
  else if h.base ≠ s.steep.runVer.toNat then uBase
  else if h.target ≤ s.steep.confVer.toNat ∨ h.target = 2 ^ 36 - 1 ∨ h.epoch < s.steep.fuseEpoch then uVersion
  else if h.ilen % 9 ≠ 0 ∨ h.ilen = 0 ∨ 4194297 < h.ilen ∨ h.dlen = 0 ∨ 4128768 < h.dlen ∨
      h.npiece ≠ (h.dlen + per - 1) / per ∨ 1008 < h.npiece ∨
      h.ntable ≠ (if compat then 0 else (h.npiece + 84) / 85) ∨ 63 < h.epoch then cRange
  else 0

/-- A header piece (16 R397, R400, R402). -/
def State.submitHeader (s : State) (src : Nat) (bs : List Octet) : Answer :=
  let ns := bs.map BitVec.toNat
  let h := headerOf ns
  match s.headerCode ns h with
  | 0 =>
    if s.steep.st = .idle ∨ s.steep.st = .failed then
      (0, (s.putBytes (areaD + 4128768) bs).modSteep fun x =>
        { x with
          st := .gather, owner := src, joined := 0, have_ := [], tables := [], sig1040 := false, fail := 0
          idleUs := 0 })
    else if h.idig = s.header.idig then
      (0, s.modSteep fun x =>
        { x with
          idleUs := 0
          joined := if src = x.owner then x.joined else x.joined ||| BitVec.ofNat 3 (2 ^ (3 - src)) })
    else (uBusy, s)
  | code => (code, s)

/-- The source takes part in the session. -/
def Steep.takesPart (x : Steep) (src : Nat) : Bool := decide (x.owner = src) || x.joined.getMsbD (src - 1)

/-- All pieces have arrived. -/
def State.gathered (s : State) : Bool :=
  let h := s.header
  decide (s.steep.have_.length = h.npiece) && (decide (h.format ≠ 1) || s.steep.sig1040)

/-- A piece is kept; the last one to arrive takes the session to APPLY (16 R401). -/
def State.keepPiece (s : State) (a : Nat) (bs : List Octet) (f : Steep → Steep) : State :=
  let s := (s.putBytes a bs).modSteep fun x => f { x with idleUs := 0 }
  if s.gathered then s.modSteep fun x => { x with st := .apply } else s

/-- A table or delta piece, or piece 1,040 (16 R396, R398, R401, R402). -/
def State.submitPiece (s : State) (src num : Nat) (bs : List Octet) : Answer :=
  let x := s.steep
  let h := s.header
  let ns := bs.map BitVec.toNat
  let compat := decide (h.format = 1)
  if x.st ≠ .gather then (cState, s)
  else if x.takesPart src = false then (uBusy, s)
  else if num = 1040 then
    if compat = false then (cRange, s)
    else if !(ns.drop 96).all (· == 0) then (cReserved, s)
    else if x.sig1040 then (0, s)
    else (0, s.keepPiece (areaD + 4132864) bs fun x => { x with sig1040 := true })
  else if 1024 < num then
    let k := num - 1025
    if h.ntable ≤ k then (cRange, s)
    else if sha384 ns ≠ h.tdig.getD k [] then (cCheck, s)
    else if x.tables.contains k then (0, s)
    else (0, s.keepPiece (areaD + 4132864 + 4096 * k) bs fun x => { x with tables := insertNat k x.tables })
  else if h.npiece ≤ num then (cRange, s)
  else if compat = false ∧ x.tables.contains (num / 85) = false then (cAbsent, s)
  else
    let good :=
      if compat then decide (crcRefl 0xEDB88320 (ns.take 4092) = beNat (ns.drop 4092))
      else decide (sha384 ns = s.bytes (areaD + 4132864 + 4096 * (num / 85) + 48 * (num % 85)) 48)
    if !good then (cCheck, s)
    else if x.have_.contains num then (0, s)
    else (0, s.keepPiece (areaD + 4096 * num) bs fun x => { x with have_ := insertNat num x.have_ })

/-- A submission from a source: 1 the host, 2 SMBus, 3 the link (16 R395, R400-R402, R410). With the image store
out of service the session stays as it is (01 R10; log entry 69). -/
def State.submit (s : State) (src num : Nat) (bs : List Octet) : Answer :=
  if s.steep.spent then (uSpent, s)
  else if s.storeUp = false then (cAbsent, s)
  else if num = 1024 then s.submitHeader src bs
  else if num ≤ 1007 ∨ (1025 ≤ num ∧ num ≤ 1036) ∨ num = 1040 then s.submitPiece src num bs
  else (cRange, s)

/-- A source's piece buffer. -/
def State.buffer (s : State) (src : Nat) : List Octet :=
  (List.range 4096).map fun i => tget 0 s.steep.buf (4096 * src + i)

/-- Bytes written into a source's piece buffer; those past its end are not. -/
def State.fillBuffer (s : State) (src off : Nat) (bs : List Octet) : State :=
  let put (t : Tab Octet) (bi : Octet × Nat) : Tab Octet :=
    if off + bi.2 < 4096 then tset 0 t (4096 * src + off + bi.2) bi.1 else t
  s.modSteep fun x => { x with buf := bs.zipIdx.foldl put x.buf }

/-- A write of MB_SUBMIT: the answer stands in MB_STAT (19 R464). -/
def State.mbWrite (s : State) (v : Word) : State :=
  if s.mgmt.mbDone = false then s
  else
    let r := s.submit 1 (bits v 24 35) (s.buffer 1)
    { r.2 with mgmt := { r.2.mgmt with mbDone := true, mbCode := r.1 } }

/-! ### The build -/

/-- Delta commands run over a stream, writing the image from offset 0 upward; none where R399 fails it. -/
def deltaRun (run : List Nat) (ilen : Nat) : Nat → List Nat → List Nat → Option (List Nat)
  | 0, _, _ => none
  | fuel + 1, stream, out =>
    let go (n : Nat) (l : List Nat) (rest : List Nat) : Option (List Nat) :=
      if n = 0 ∨ l.length ≠ n ∨ ilen < out.length + n then none else deltaRun run ilen fuel rest (out ++ l)
    match stream with
    | [] => none
    | 0x01 :: t =>
      let src := beNat (t.take 4)
      let n := beNat ((t.drop 4).take 4)
      if t.length < 8 then none else go n ((run.drop src).take n) (t.drop 8)
    | 0x02 :: t =>
      let n := beNat (t.take 2)
      if t.length < 2 then none else go n ((t.drop 2).take n) (t.drop (2 + n))
    | 0x03 :: t =>
      let n := beNat ((t.drop 1).take 4)
      if t.length < 5 ∨ ilen < n then none else go n (List.replicate n (t.headD 0)) (t.drop 5)
    | 0x00 :: [] => if out.length = ilen then some out else none
    | _ => none

/-- The delta stream of the session (16 R398, R399). -/
def State.deltaStream (s : State) (h : Header) : List Nat :=
  let per := if h.format = 1 then 4092 else 4096
  ((List.range h.npiece).flatMap fun i => (s.bytes (areaD + 4096 * i) 4096).take per).take h.dlen

/-- The session fails with a code (16 Table 16-8). -/
def State.failSession (s : State) (code : Nat) : State :=
  (s.modSteep fun x => { x with st := .failed, fail := code }).steepEvent 32

/-- The running image's bytes. -/
def State.runningImage (s : State) : List Nat :=
  if s.steep.sel = 1 then s.bytes areaS s.steep.lenSteep else s.bytes areaA s.steep.lenConf

/-- BUILD (16 R398, R399). -/
def execBuild (s : State) : Host.Outcome State Fault Refusal :=
  if s.steep.st ≠ .apply ∨ s.storeUp = false then .next s
  else
    let h := s.header
    match deltaRun s.runningImage h.ilen (h.dlen + 1) (s.deltaStream h) [] with
    | none => .next (s.failSession cCheck)
    | some img =>
      if sha384 img ≠ h.idig then .next (s.failSession cCheck)
      else if h.format = 1 ∧ imageSigOk h.keyId (s.bytes (areaD + 4132864) 96)
          ((s.bytes (areaD + 4128768) 0xFA0) ++ img) = false then .next (s.failSession uSignature)
      else
        let s := (s.clearArea areaS).putBytes areaS (img.map (BitVec.ofNat 8))
        .next ((s.modSteep fun x =>
          { x with st := .ready, digSteep := h.idig.map (BitVec.ofNat 8), lenSteep := h.ilen }).steepEvent 31)

/-! ### Ends of a session -/

/-- The session is over and the delta area cleared (16 R403). -/
def State.endSession (s : State) : State :=
  (s.clearArea areaD).modSteep fun x =>
    { x with
      st := .idle, owner := 0, joined := 0, have_ := [], tables := [], sig1040 := false, fail := 0, idleUs := 0
      clearing := false }

/-- The microseconds of STEEP_CTL.LAPSE days (16 R403). -/
def State.lapseUs (s : State) : Nat := bits (s.preg pgSteep 0o021) 27 35 * 86400000000

/-- LAPSE: the session has accepted no piece for the days of STEEP_CTL.LAPSE (16 R403). -/
def execLapse (s : State) : Host.Outcome State Fault Refusal :=
  .next (if (s.steep.st = .gather ∨ s.steep.st = .ready) ∧ s.lapseUs ≤ s.steep.idleUs then s.endSession.steepEvent 33 else s)

/-- ABORT from a writer (16 R403). -/
def State.abortSession (s : State) (src : Option Nat) : Answer :=
  let x := s.steep
  if !(x.st = .gather ∨ x.st = .apply ∨ x.st = .ready ∨ x.st = .failed) then (cState, s)
  else
    match src with
    | some k => if x.owner ≠ k ∧ x.joined.getMsbD (k - 1) = true then (uBusy, s) else (0, s.endSession.endSteep 3 0)
    | none => (0, s.endSession.endSteep 3 0)

/-! ### Activation, confirmation, revert -/

/-- A core's control store is loaded from the running image: section 1, or section 2 for the steward (16 R394 step 6; 10
R254; 12 R306). -/
def State.pitchCore (s : State) (n : Nat) : State :=
  let img := s.runningImage
  s.modCore n fun k =>
    { k with csBad := false, micro := microWords (imageSection img (if n < 64 then 1 else 2) 10923) }

/-- Every ledger core's control store is loaded from the running image (16 R394, Table 16-6). -/
def State.pitchAll (s : State) : State := (List.range 64).foldl State.pitchCore s

/-- Sections 3 to 9 of the running image, the engines' tables (16 Table 16-1). -/
def State.engineTables (s : State) : List (Nat × List Word) :=
  let img := s.runningImage
  (List.range 7).map fun i => (i + 3, imageSection img (i + 3) 16384)

/-- The activation pause (16 Table 16-6): postings before their commit point are abandoned, those past it finish; the
selector is written; the control stores are pitched, and the engines' tables stand in their shadow stores. -/
def State.beginPause (s : State) (op sel : Nat) : State :=
  let s := (List.range 65).foldl (fun s n => s.completeCommitted n) s
  let s := (s.modSteep fun x =>
    { x with pausing := true, reverting := decide (op = 4), cmd := some op, sel, starts := 0 }).steepStat 1 op 0
  let s := s.pitchAll
  s.modSteep fun x => { x with engineNext := s.engineTables }

/-- ACTIVATE (16 R404). -/
def State.startActivate (s : State) : Answer :=
  if s.steep.st ≠ .ready then (cState, s)
  else if s.twin.st = 5 ∧ s.rackMode = 2 then (cState, s)
  else (0, s.beginPause 1 1)

/-- The steeping area is discarded and the confirmed image runs (16 R407). -/
def State.revertDone (s : State) : State :=
  let s := (s.endSession.clearArea areaS).modSteep fun x =>
    { x with sel := 0, starts := 0, digSteep := [], lenSteep := 0, runVer := x.confVer, runFrom := 0 }
  (s.modSteep fun x =>
    { x with runEpoch := bits (wd (imageWord (s.bytes areaA s.steep.lenConf) 1)) 30 35 }).steepEvent 30

/-- REVERT (16 R407). -/
def State.startRevert (s : State) : Answer :=
  if s.steep.st ≠ .provisional then (cState, s) else (0, s.beginPause 4 0)

/-- ENGINE_TABLE_SWITCH: engines switch, cores resume, and the manager learns the version (16 Table 16-6; 15 R388). -/
def execEngineTableSwitch (s : State) : Host.Outcome State Fault Refusal :=
  if s.steep.pausing = false then .next s
  else
    let rev := s.steep.reverting
    let s := s.modSteep fun x =>
      { x with pausing := false, reverting := false, engine := x.engineNext, engineNext := [] }
    if rev then
      let s := s.revertDone
      .next ((s.noteJoined false s.own s.steep.runVer).endSteep 4 0)
    else
      let img := s.bytes areaS s.steep.lenSteep
      let s := (s.modSteep fun x =>
        { x with
          st := .provisional, runVer := wd s.header.target, runEpoch := bits (wd (imageWord img 1)) 30 35
          runFrom := 1 }).steepEvent 34
      .next ((s.noteJoined false s.own s.steep.runVer).endSteep 1 0)

/-- VPP_FUSE is present: a free value each time it is asked for (16 R406; log entry 3). -/
def State.vpp (s : State) : Bool × State :=
  let (i, s) := s.draw
  (Config.vppFuse i, s)

/-- CONFIRM: step 1 (16 R406). -/
def State.startConfirm (s : State) : Answer :=
  if s.steep.st ≠ .provisional then (cState, s)
  else
    let h := s.header
    let adv := decide (h.flags = 1)
    let (vpp, s) := if adv then s.vpp else (true, s)
    if !vpp then (cAbsent, s)
    else
      (0, (s.modSteep fun x =>
        { x with
          st := .confirm, cfm := true, cmd := some 2, epend := x.epend || adv
          ept := if adv then h.epoch else x.ept }).steepStat 1 2 0)

/-- Steps 2 and 3 of a confirmation: copies A and B rewritten, the digest and the selector (16 R406). CONF_VER becomes the
header's TARGET, which is greater (R397, R408; log entry 68). -/
def State.confirmCopies (s : State) : State :=
  let s := (s.copyArea areaS areaA).copyArea areaS areaB
  s.modSteep fun x =>
    { x with
      digConf := x.digSteep, lenConf := x.lenSteep, confVer := wd s.header.target
      sel := 0, starts := 0, cfm := false, runFrom := 0 }

/-- Step 4: an owed epoch advance is made where VPP_FUSE is present (16 R406). -/
def State.payEpoch (s : State) : State :=
  if s.steep.epend then
    let (vpp, s) := s.vpp
    if vpp then s.modSteep fun x => { x with fuseEpoch := max x.fuseEpoch x.ept, epend := false } else s
  else s

/-- Step 5 (16 R406). -/
def State.confirmEnd (s : State) : State :=
  ((s.endSession.clearArea areaS).modSteep fun x => { x with digSteep := [], lenSteep := 0 }).steepEvent 35

/-! ### Relay -/

/-- The pieces a relay sends, in order (16 R412). -/
def State.relayPieces (s : State) : List (Nat × List Octet) :=
  let oct (a : Nat) : List Octet := (s.bytes a 4096).map (BitVec.ofNat 8)
  (1024, oct (areaD + 4128768)) ::
    (s.steep.tables.map fun k => (1025 + k, oct (areaD + 4132864 + 4096 * k))) ++
    (s.steep.have_.map fun i => (i, oct (areaD + 4096 * i)))

/-- A piece goes to the device of the relay, in the messages that carry it, or the relay ends with ABSENT (16 R412). -/
def State.relayNext (s : State) : State :=
  match s.steep.relayed.head?.bind fun n => s.relayPieces.find? fun p => p.1 == n with
  | none => s.endSteep 5 0
  | some (n, bs) =>
    let parts := (chunks 1024 bs).mapIdx fun i l => MsgBody.piece n (1024 * i) l
    match parts.foldl (fun r b => r.bind fun s => s.sendMsg s.steep.relayDev b) (some s) with
    | some s => s
    | none => s.endSteep 5 cAbsent

/-- RELAY (16 R412): one piece after another. -/
def State.startRelay (s : State) : Answer :=
  let d := bits (s.preg pgSteep 0o054) 31 35
  if s.isManager = false ∨ ¬(s.steep.st = .gather ∨ s.steep.st = .ready) then (cState, s)
  else
    let s := (s.modSteep fun x =>
      { x with cmd := some 5, relayed := s.relayPieces.map Prod.fst, relayDev := d }).steepStat 1 5 0
    (0, s.relayNext)

/-- The answer of a device to a relayed piece: the first that is not OK ends the relay, and so does the last (16 R412).
One from elsewhere, or about another piece, is none of its. -/
def State.relayAnswer (s : State) (d n code : Nat) : State :=
  if s.steep.cmd ≠ some 5 ∨ d ≠ s.steep.relayDev ∨ s.steep.relayed.head? ≠ some n then s
  else if code ≠ 0 then s.endSteep 5 code
  else (s.modSteep fun x => { x with relayed := x.relayed.tail }).relayNext

/-- A relay toward a device that has become unreachable ends with ABSENT (16 R412). -/
def State.relayLost (s : State) (d : Nat) : State :=
  if s.steep.cmd = some 5 ∧ d = s.steep.relayDev then s.endSteep 5 cAbsent else s

/-! ### Commands -/

/-- A write of STEEP_CMD (16 R411); `src` is the update source of an outside writer. -/
def State.wrSteepCmd (s : State) (src : Option Nat) (op : Nat) : Answer :=
  if op = 0 ∨ 6 ≤ op then (cReserved, s)
  else if s.steep.cmd.isSome then (cBusy, s)
  else if s.storeUp = false then (cAbsent, s)
  else
    match op with
    | 1 => s.startActivate
    | 2 => s.startConfirm
    | 3 => s.abortSession src
    | 4 => s.startRevert
    | _ => s.startRelay

/-- STEEP_COMMAND_COMPLETION: a confirmation runs to its end; a relay ends with the code (16 R406, R412). -/
def execSteepCommandCompletion (code : BitVec 9) (s : State) : Host.Outcome State Fault Refusal :=
  match s.steep.cmd with
  | some 2 => .next (if s.storeUp = false then s else (s.confirmCopies.payEpoch.confirmEnd).endSteep 2 0)
  | some 5 => .next (s.endSteep 5 (nat code))
  | _ => .next s

/-! ### The start check -/

/-- The SPENT pin (16 R410, 18 Table 18-5). -/
def State.spentPin (s : State) : Bool := s.steep.spent

/-- No confirmed image remains: the Spent fuse (16 R410). -/
def State.becomeSpent (s : State) : State :=
  ((s.modSteep fun x => { x with spent := true }).setPreg pgSticky 0o022 5).log 2 pgSys 0 5

/-- A copy passes its check: what the event says of the cells, and the digest and directory where the model holds the
image's bytes (16 R394 step 3; log entry 5). -/
def State.copyGood (s : State) (area : Nat) (sound : Bool) : Bool :=
  sound && (decide (s.steep.lenConf = 0) || s.imageGood area s.steep.lenConf s.steep.digConf)

/-- Copies A and B checked, one repaired from the other (16 R394 step 4). -/
def State.checkCopies (s : State) (a b : Bool) : State :=
  match s.copyGood areaA a, s.copyGood areaB b with
  | true, true => s
  | true, false => s.copyArea areaA areaB
  | false, true => s.copyArea areaB areaA
  | false, false => s.becomeSpent

/-- The mask ROM's work at a start (16 R394, R403, R406, R409): the image that runs is chosen and pitched. A
REVERT whose selector write stood is completed (R407). -/
def State.startCheck (s : State) (a b : Bool) : State :=
  let s := s.modSteep fun x => { x with cmd := none, pausing := false, reverting := false, relayed := [] }
  let s := if s.steep.clearing then s.endSession else s
  let s := if s.steep.cfm then s.confirmCopies.payEpoch.confirmEnd else s.payEpoch
  let s := if s.steep.sel = 0 ∧ s.steep.st = .provisional then s.revertDone else s
  let s :=
    if s.steep.sel = 1 then
      if s.steep.starts + 1 = 4 ∨ s.imageGood areaS s.steep.lenSteep s.steep.digSteep = false then
        s.revertDone.checkCopies a b
      else s.modSteep fun x => { x with starts := x.starts + 1, st := .provisional }
    else s.checkCopies a b
  if s.steep.spent ∨ (s.steep.sel = 0 ∧ s.steep.lenConf = 0) then s
  else
    let img := s.runningImage
    (s.pitchAll.pitchCore 64).modSteep fun x =>
      { x with
        runVer := if x.sel = 0 then x.confVer else wd s.header.target
        runEpoch := bits (wd (imageWord img 1)) 30 35, runFrom := x.sel, engine := s.engineTables }

/-! ### Registers -/

/-- Numbers of SteepState (16 Table 16-8). -/
def SteepState.num : SteepState → Nat
  | .idle => 0
  | .gather => 1
  | .apply => 2
  | .ready => 3
  | .provisional => 4
  | .confirm => 5
  | .failed => 6

/-- The Steep page's read-only registers (16 Table 16-8). -/
def State.rdSteep (s : State) (off : Nat) : Option Word :=
  let x := s.steep
  let live := decide (x.st ≠ .idle)
  let h := s.header
  match off with
  | 0o020 =>
    some (fld 23 25 x.joined.toNat ||| fld 26 26 x.epend.toNat ||| fld 29 31 x.owner ||| fld 32 35 x.st.num)
  | 0o024 => some x.runVer
  | 0o025 => some x.confVer
  | 0o026 => some (if live then wd h.target else 0)
  | 0o027 => some (if live then fld 12 23 h.npiece ||| fld 24 35 x.have_.length else 0)
  | 0o030 =>
    some (if live then
      fld 20 23 h.ntable ||| (x.tables.foldl (fun w k => w ||| fld (24 + k) (24 + k) 1) 0) |||
        (if x.sig1040 then fld 24 24 1 else 0)
      else 0)
  | 0o031 => some (wd (x.idleUs / 3600000000))
  | 0o032 => some (wd x.fail)
  | 0o033 => some (fld 20 25 x.fuseEpoch ||| fld 26 31 x.runEpoch)
  | 0o034 => some (wd x.starts)
  | 0o040 =>
    let w := bits (s.preg pgSteep 0o037) 31 35
    some ((List.range 36).foldl (fun v b => if x.have_.contains (36 * w + b) then v ||| fld b b 1 else v) 0)
  | _ =>
    if 0o041 ≤ off ∧ off ≤ 0o053 then
      let v := if live then beNat h.idig * 2 ^ 12 else 0
      some (wd (v / 2 ^ (36 * (10 - (off - 0o041)))))
    else none

end Sys2Proof.Machine
end

