-- ==== Sys2Proof/Machine/Maltster.lean ====
section
/-! DEFINITION. The Maltster: epochs, frame and queue decisions, frame moves, its commands and its page
(13 R328-R334). -/

namespace Sys2Proof.Machine

/-! ### What the decisions look at -/

/-- A switched domain is on (18 R440). -/
def State.domOn (s : State) (d : Domain) : Bool := !s.pwr.off.contains d

/-- The endpoint answers the host: main power good, its domain on, not held in reset, and not a Spent device's
(16 R410; 18 Table 18-2, Table 18-4). -/
def State.endpointUp (s : State) : Bool :=
  s.pins.pwrGood && s.domOn .pcie && !s.pins.perstLow && !s.steep.spent

/-- Core n of the ledger cores as a Fin. -/
def coreFin (n : Nat) : Fin 64 := ⟨n % 64, Nat.mod_lt _ (by decide)⟩
def clusterFin (n : Nat) : Fin 8 := ⟨n % 8, Nat.mod_lt _ (by decide)⟩

/-- A ledger core that runs, waits, or may: powered, out of reset and of Halt-check (13 R330). -/
def State.coreUp (s : State) (n : Nat) : Bool :=
  let r := (s.core n).run
  decide (r ≠ .reset) && decide (r ≠ .halted) && s.domOn (.core (coreFin n))

/-- A cluster is present (13 R330). -/
def State.present (s : State) (c : Nat) : Bool :=
  s.domOn (.fabric (clusterFin c)) && (List.range 8).any fun i => s.coreUp (8 * c + i)

/-- A present core of cluster c serves the class (13 R330). -/
def State.serves (s : State) (c cls : Nat) : Bool :=
  s.domOn (.fabric (clusterFin c)) &&
    (List.range 8).any fun i => s.coreUp (8 * c + i) && bit (s.preg (8 * c + i) 0o032) (20 + cls)

/-- Registers of the page (13 Table 13-10). -/
def State.malField (s : State) (off a b : Nat) : Nat := bits (s.preg pgMal off) a b
def State.capOf (s : State) (c : Nat) : Nat := s.malField (0o023 + c) 26 35

/-- Resident frames of a cluster. -/
def State.residents (s : State) (c : Nat) : List Nat := (s.mal.home.filter fun e => (e.2 - 1) / 512 == c).map Prod.fst

/-- Heats of a placed frame by cluster, and of a queue. -/
def State.heats (s : State) (f : Nat) : List Nat := (List.range 8).map fun k => tget 0 s.mal.heat (f * 8 + k)
def State.qheats (s : State) (q : Nat) : List Nat := (List.range 8).map fun k => tget 0 s.mal.qheat (q * 8 + k)

/-- The hottest of some clusters: the largest heat, the lowest cluster on ties (13 R330). -/
def hottest (hs : List Nat) (cs : List Nat) : Option Nat :=
  match cs with
  | [] => none
  | c :: t => some (t.foldl (fun m x => if hs.getD m 0 < hs.getD x 0 then x else m) c)

/-- Epochs since one that MAL_EPOCH showed (13 Table 13-10). -/
def State.epochsSince (s : State) (e : Nat) : Nat := (s.epoch + 2 ^ 36 - e) % 2 ^ 36

/-- A frame is movable (13 R330). -/
def State.movable (s : State) (f : Nat) : Bool :=
  let sl := s.sealFor f
  let last := tget 0 s.mal.fmoved f
  !s.pinOf f && (s.lockOf f).isNone && (decide (sl = 0) || !s.slotEmpty sl) &&
    (decide (last = 0) || decide (s.malField 0o022 28 35 ≤ s.epochsSince (last - 1)))

/-! ### Planning -/

/-- A plan in the making: moves so far, their number against the budget, the resident counts that follow it. -/
structure Plan where
  moves : List Move
  n : Nat
  resident : List Nat
  deriving DecidableEq, Repr

/-- A frame is in the plan already. -/
def Plan.has (p : Plan) (f : Nat) : Bool := p.moves.any fun m => m.frame == f

/-- A move of the plan. -/
def State.mkMove (s : State) (kind frame src dst other heat victim : Nat) : Move :=
  { kind, frame, src, dst, other, heat, victim, epoch := s.epoch }

/-- The movable resident of a cluster not yet planned with the least heat there, the lowest frame on ties. -/
def State.coolest (s : State) (p : Plan) (c : Nat) : Option Nat :=
  let fs := (s.residents c).filter fun f => s.movable f && !p.has f
  let h (f : Nat) : Nat := (s.heats f).getD c 0
  match fs with
  | [] => none
  | f :: t => some (t.foldl (fun m x => if h x < h m then x else m) f)

/-- Demotions of one cluster above its cap; the fuel is the budget. -/
def State.demote (s : State) (c : Nat) : Nat → Plan → Plan
  | 0, p => p
  | fuel + 1, p =>
    if p.resident.getD c 0 ≤ s.capOf c then p
    else
      match s.coolest p c with
      | none => p
      | some f =>
        s.demote c fuel
          { moves := p.moves ++ [s.mkMove 4 f c 8 0 ((s.heats f).getD c 0) 0]
            n := p.n + 1
            resident := p.resident.set c (p.resident.getD c 0 - 1) }

/-- Candidates for a move to a hotter cluster: heat, frame, source, destination, heat compared against. -/
def State.wishes (s : State) : List (Nat × Nat × Nat × Nat × Nat) :=
  let promote := s.malField 0o021 12 19
  let hyst := s.malField 0o021 20 27
  let fromDram := s.mal.cand.filterMap fun e =>
    let f := e.2.frame
    if e.2.valid && s.movable f && (s.placed f).isNone then
      (match hottest e.2.heats (List.range 8) with
        | some h =>
          let k := e.2.heats.getD h 0
          if s.present h && decide (promote ≤ k) then some (k, f, 8, h, 0) else none
        | none => none)
    else none
  let fromCluster := (List.range 8).flatMap fun c =>
    (s.residents c).filterMap fun f =>
      if s.movable f then
        (let hs := s.heats f
         match hottest hs ((List.range 8).filter (· != c)) with
          | some h =>
            let k := hs.getD h 0
            if s.present h && decide (promote ≤ k) && decide (hs.getD c 0 + hyst ≤ k) then some (k, f, c, h, hs.getD c 0)
            else none
          | none => none)
      else none
  sortBy (fun a b => decide (b.1 < a.1) || (a.1 == b.1 && decide (a.2.1 ≤ b.2.1))) (fromDram ++ fromCluster)

/-- One wish planned within the budget (13 R330). -/
def State.planWish (s : State) (p : Plan) (w : Nat × Nat × Nat × Nat × Nat) : Plan :=
  let (k, f, src, h, other) := w
  let budget := s.malField 0o021 28 35
  let hyst := s.malField 0o021 20 27
  let kind := if src = 8 then 1 else 3
  let leave (r : List Nat) : List Nat := if src = 8 then r else r.set src (r.getD src 0 - 1)
  if budget ≤ p.n then p
  else if p.resident.getD h 0 < s.capOf h then
    { moves := p.moves ++ [s.mkMove kind f src h other k 0]
      n := p.n + 1
      resident := leave (p.resident.set h (p.resident.getD h 0 + 1)) }
  else
    match s.coolest p h with
    | none => p
    | some v =>
      let vh := (s.heats v).getD h 0
      if vh + hyst < k ∧ p.n + 2 ≤ budget then
        { moves := p.moves ++ [s.mkMove 2 v h 8 k vh 0, s.mkMove kind f src h vh k v]
          n := p.n + 2
          resident := leave p.resident }
      else p

/-- The frame decisions of an epoch end. -/
def State.planFrames (s : State) : State :=
  let budget := s.malField 0o021 28 35
  let p : Plan := { moves := [], n := 0, resident := (List.range 8).map fun c => (s.residents c).length }
  let p := ((List.range 8).filter s.present).foldl (fun p c => s.demote c (budget - p.n) p) p
  let p := s.wishes.foldl s.planWish p
  { s with mal := { s.mal with plan := s.mal.plan ++ p.moves } }

/-- A queue moves to a cluster, with its event (13 R330). -/
def State.moveQueue (s : State) (q h : Nat) : State :=
  let old := (s.queue q).clu
  let hs := s.qheats q
  let s := s.setClu q h
  let s := { s with mal := { s.mal with qmoved := tset 0 s.mal.qmoved q (s.epoch + 1) } }
  s.malEvent s.epoch 5 old h q (hs.getD old 0) (hs.getD h 0) 0

/-- Work queues that the Maltster may move. -/
def State.freeQueues (s : State) : List Nat :=
  (s.que.q.filter fun e =>
    decide (e.2.kind = 0) && !bit e.2.ctl 6 && (decide (e.2.st = qRun) || decide (e.2.st = qHold))).map Prod.fst

/-- The queue decisions of an epoch end (13 R330). -/
def State.planQueues (s : State) : State :=
  let s := s.freeQueues.foldl
    (fun s q =>
      let c := s.queue q
      if s.serves c.clu c.cls then s
      else
        match hottest (s.qheats q) ((List.range 8).filter fun h => s.serves h c.cls) with
        | some h => s.moveQueue q h
        | none => s) s
  let promote := s.malField 0o021 12 19
  let hyst := s.malField 0o021 20 27
  let dwell := s.malField 0o022 20 27
  let wants := ((s.que.q.filter fun e => !bit e.2.ctl 6).map Prod.fst).filterMap fun q =>
    let c := s.queue q
    let hs := s.qheats q
    let last := tget 0 s.mal.qmoved q
    match hottest hs (List.range 8) with
    | some h =>
      let k := hs.getD h 0
      if (last = 0 ∨ dwell ≤ s.epochsSince (last - 1)) ∧ h ≠ c.clu ∧ s.serves h c.cls = true ∧ promote ≤ k ∧
          hs.getD c.clu 0 + hyst ≤ k then some (k, q, h) else none
    | none => none
  let order := sortBy (fun a b => decide (b.1 < a.1) || (a.1 == b.1 && decide (a.2.1 ≤ b.2.1))) wants
  (order.take (s.malField 0o021 4 11)).foldl (fun s w => s.moveQueue w.2.1 w.2.2) s

/-- A table of heats halved. -/
def halve (t : Tab Nat) : Tab Nat := (t.map fun e => (e.1, e.2 / 2)).filter fun e => e.2 != 0

/-- Every heat halved (13 R328). -/
def State.halveHeats (s : State) : State :=
  { s with mal := { s.mal with
    heat := halve s.mal.heat
    qheat := halve s.mal.qheat
    cand := s.mal.cand.map fun (e : Nat × Cand) => (e.1, { e.2 with heats := e.2.heats.map (· / 2) }) } }

/-- A move of a command rather than of a decision: PLACE 8, EVICTCMD 9, and 10 for the eviction that PLACE asks. -/
def Move.commanded (m : Move) : Bool := decide (8 ≤ m.kind)

/-- The event of a move: an eviction for PLACE is an EVICT. -/
def State.moveEvent (s : State) (ty : Nat) (m : Move) : State :=
  s.malEvent m.epoch ty m.src m.dst m.frame m.other m.heat (if m.kind = 1 ∨ m.kind = 3 then m.victim else 0)

/-- Apply an accepted commit of a group of a page at its safe point: the pending set becomes live (17 R421). -/
def State.applyStaged (s : State) (page grp : Nat) : State :=
  if s.staged.contains (page, grp) then
    let mine (k : Nat) : Bool :=
      decide (k / 256 = page) && (match regAt page (k % 256) with
        | some r => r.grp == grp
        | none => false)
    let s := (s.stagedV.filter fun e => mine e.1).foldl (fun s e => s.setPreg page (e.1 % 256) e.2) s
    { s with staged := s.staged.filter (· != (page, grp)), stagedV := s.stagedV.filter fun e => !mine e.1 }
  else s

/-- EPOCH_END (13 R328, R330, R331, R333). -/
def execEpochEnd (s : State) : Host.Outcome State Fault Refusal :=
  if s.domOn .maltster = false then .next s
  else
    let old := s.mal.plan.filter fun m => !m.commanded
    let s := { s with mal := { s.mal with plan := s.mal.plan.filter Move.commanded } }
    let s := old.foldl (fun s m => s.moveEvent 6 m) s
    let s := (s.bump pgMal 0o043 1).applyStaged pgMal 1
    let s := if bit (s.preg pgMal 0o020) 32 then s.planFrames else s
    let s := if bit (s.preg pgMal 0o020) 33 then s.planQueues else s
    .next s.halveHeats

/-! ### Moves -/

/-- The free slots of a cluster in powered sub-banks. -/
def State.freeSlots (s : State) (c : Nat) : List Nat :=
  let used := (s.mal.home.filter fun e => (e.2 - 1) / 512 == c).map fun e => (e.2 - 1) % 512
  (List.range 512).filter fun i =>
    !used.contains i && s.domOn (.subBank (clusterFin c) ⟨i / 128 % 4, Nat.mod_lt _ (by decide)⟩)

/-- The lowest of them. -/
def State.freeSlot (s : State) (c : Nat) : Option Nat := (s.freeSlots c).head?

/-- A cluster has a free slot beyond those that running moves will take; DRAM always has room. -/
def State.roomFor (s : State) (c : Nat) : Bool :=
  c == 8 || !((s.freeSlots c).drop (s.mal.running.filter fun r => r.dst == c).length).isEmpty

/-- A move waits: four are running, its cluster has no room, or the eviction into its slot is running
(13 R331). -/
def State.moveWaits (s : State) (m : Move) : Bool :=
  decide (4 ≤ s.mal.running.length) || !s.roomFor m.dst ||
    s.mal.running.any fun r => m.dst != 8 && r.frame == m.victim && r.src == m.dst && r.dst == 8

/-- FRAME_MOVE: the next planned move starts, at most 4 at a time, a promotion after its eviction; one whose frame
has become unmovable is dropped (13 R331, R332). -/
def execFrameMove (s : State) : Host.Outcome State Fault Refusal :=
  match s.mal.plan with
  | [] => .next s
  | m :: rest =>
    if s.moveWaits m then .next s
    else
      let s := { s with mal := { s.mal with plan := rest } }
      if !m.commanded && !s.movable m.frame then .next (s.moveEvent 6 m)
      else .next { s with mal := { s.mal with running := s.mal.running ++ [m] } }

/-- The way of the candidate table that a frame takes with its heats (13 R329). -/
def State.putCand (s : State) (f : Nat) (hs : List Nat) : State :=
  let d : Cand := { valid := false, frame := 0, heats := [] }
  let base := f % 4096 * 4
  let ways := (List.range 4).map fun i => (base + i, tget d s.mal.cand (base + i))
  let big (c : Cand) := c.heats.foldl max 0
  let least := ways.foldl (fun m w => min m (big w.2)) 256
  let key :=
    match ways.find? fun w => !w.2.valid || w.2.heats.all (· == 0) with
    | some (k, _) => k
    | none => ((ways.find? fun w => big w.2 == least).map (·.1)).getD base
  { s with mal := { s.mal with cand := tset d s.mal.cand key { valid := true, frame := f, heats := hs } } }

/-- Every line of a sealed frame opened in the package; an error where one fails its check or its key is gone, the
others leaving again. -/
def State.openFrame (s : State) (f : Nat) : Except State State :=
  let lines := List.range 128
  let r : Except State State := lines.foldl
    (fun r j => r.bind fun s => match s.openFor (f * 2048 + 16 * j) (s.sealFor f) with
      | some (true, s) => .ok s
      | some (false, s) => .error s
      | none => .error s) (.ok s)
  match r with
  | .ok s => .ok s
  | .error s => .error (lines.foldl (fun s j => s.leave (f * 128 + j)) s)

/-- A line that an eviction copies is written to DRAM, sealed under its frame's key record (13 R332; 01 R9). -/
def State.homeLine (s : State) (line : Nat) : State :=
  if s.sealFor (line / 128) = 0 ∧ s.opened.all (fun e => e.1 != line) = true then s
  else
    let s := s.takeOpen line true
    let s := { s with opened := s.opened.map fun (e : Nat × Bool) => if e.1 == line then (line, true) else e }
    s.kilnWrite line (s.cachedLine line)

/-- A frame's home becomes a slot of a cluster, or DRAM; its lines are opened into the package or leave it
(13 R329, R332; 14 R345). An error where a line's check fails. -/
def State.rehome (s : State) (f dst : Nat) : Except State State :=
  let d : Cand := { valid := false, frame := 0, heats := [] }
  let heatKeys (t : Tab Nat) : Tab Nat := t.filter fun e => e.1 / 8 != f
  if dst = 8 then
    let hs := s.heats f
    let s := { s with mal := { s.mal with home := tdel s.mal.home f, heat := heatKeys s.mal.heat } }
    let s := s.putCand f hs
    .ok ((List.range 128).foldl (fun s j => s.homeLine (f * 128 + j)) s)
  else
    match s.freeSlot dst with
    | none => .error s
    | some i =>
      (s.openFrame f).map fun s =>
        let hs := ((s.mal.cand.find? fun e => e.2.valid && e.2.frame == f).map fun e => e.2.heats).getD (s.heats f)
        let heat := hs.zipIdx.foldl (fun t hk => tset 0 t (f * 8 + hk.2) hk.1) (heatKeys s.mal.heat)
        { s with mal := { s.mal with
          home := tset 0 s.mal.home f (dst * 512 + i + 1)
          heat
          cand := (s.mal.cand.filter fun e => !(e.2.valid && e.2.frame == f)).filter fun e => e.2 != d } }

/-- The end of a command's move (13 R334); a PLACE whose eviction fails ends with it. -/
def State.endCommand (s : State) (m : Move) (code : Nat) : State :=
  if m.kind = 8 ∨ m.kind = 9 ∨ (m.kind = 10 ∧ code ≠ 0) then
    let s := s.malStat (if code = 0 then 2 else 3) (if m.kind = 9 then 2 else 1) 0 code
    { s with mal := { s.mal with cmdOp := none, plan := s.mal.plan.filter fun p => p.kind != 8 } }
  else s

/-- HOME_CHANGE: a running move ends; `good` is false where a line it read met uncorrectable data (13 R332, R334;
10 R252). -/
def execHomeChange (frame : BitVec 29) (good : Bool) (s : State) : Host.Outcome State Fault Refusal :=
  match s.mal.running.find? fun m => m.frame == frame.toNat with
  | none => .next s
  | some m =>
    let s := { s with mal := { s.mal with running := s.mal.running.erase m } }
    match (if good then s.rehome m.frame m.dst else .error s) with
    | .ok s =>
      let s := { s with mal := { s.mal with fmoved := tset 0 s.mal.fmoved m.frame (s.epoch + 1) } }
      .next ((s.moveEvent (if m.kind = 10 then 2 else m.kind) m).endCommand m 0)
    | .error s => .next (((s.moveEvent 7 m).engineUe pgMal).endCommand m cCheck)

/-! ### Commands and the page -/

/-- PLACE (13 R334). -/
def State.startPlace (s : State) : Answer :=
  let f := bits (s.preg pgMal 0o051) 7 35
  let c := bits (s.preg pgMal 0o052) 33 35
  let sl := s.sealFor f
  let no : Plan := { moves := [], n := 0, resident := [] }
  if s.malBusy = true ∨ s.prepHeld f = true then (cBusy, s)
  else if s.installed ≤ f * 2048 then (cRange, s)
  else if (sl ≠ 0 ∧ s.slotEmpty sl = true) ∨ s.present c = false then (cAbsent, s)
  else if s.placed f = some c then (0, (s.malEvent s.epoch 8 c c f 0 0 0).malStat 2 1 0 0)
  else
    let src := (s.placed f).getD 8
    let go (pre : List Move) (other victim : Nat) : Answer :=
      let s := s.malStat 1 1 0 0
      (0, { s with mal := { s.mal with
        cmdOp := some 1
        plan := pre ++ [s.mkMove 8 f src c other ((s.heats f).getD c 0) victim] ++ s.mal.plan } })
    if s.roomFor c then go [] 0 0
    else
      match s.coolest no c with
      | none => (cFull, s)
      | some v => go [s.mkMove 10 v c 8 0 ((s.heats v).getD c 0) 0] ((s.heats v).getD c 0) v

/-- EVICT (13 R334). -/
def State.startEvict (s : State) : Answer :=
  let f := bits (s.preg pgMal 0o051) 7 35
  match s.placed f with
  | none => (cState, s)
  | some c =>
    if s.malBusy = true ∨ s.prepHeld f = true then (cBusy, s)
    else
      let s := s.malStat 1 2 0 0
      (0, { s with mal := { s.mal with
        cmdOp := some 2, plan := s.mkMove 9 f c 8 0 ((s.heats f).getD c 0) 0 :: s.mal.plan } })

/-- A write of MAL_CMD (13 R334, R337, R338). -/
def State.wrMalCmd (s : State) (v : Word) : Answer :=
  match bits v 33 35 with
  | 1 => s.startPlace
  | 2 => s.startEvict
  | 3 => s.startMove
  | 4 => s.abortMove
  | 5 => s.forceMove
  | _ => (cReserved, s)

/-- The rule of group THR on its two words (13 R333). -/
def thrCode (thresh dwell : Word) : Nat :=
  if bits thresh 12 19 = 0 ∨ bits dwell 28 35 < 4 ∨ bits dwell 20 27 < 8 then cRange else 0

/-- The rule of group EVQ (13 R333, Table 13-10). -/
def evqCode (sz : Word) : Nat := if bits sz 31 35 < 4 ∨ 16 < bits sz 31 35 then cRange else 0

/-- A write of MAL_CAP for a cluster (13 R333). -/
def State.wrMalCap (s : State) (off : Nat) (v : Word) : Answer :=
  let c := off - 0o023
  let pinned := ((s.residents c).filter s.pinOf).length
  if v.toNat < pinned ∨ 512 < v.toNat then (cRange, s) else (0, s.setPreg pgMal off v)

/-- MAL_RES of a cluster as it reads. -/
def State.rdMalRes (s : State) (c : Nat) : Word :=
  let rs := s.residents c
  fld 16 25 (rs.filter s.pinOf).length ||| fld 26 35 rs.length

end Sys2Proof.Machine
end

