-- ==== Sys2Proof/Machine/Links.lean ====
section
/-! DEFINITION. The link ports: training, flow control and retry, and the twin as a PARAM flit finds it (15 R365-R370,
R377, R382, R387, R389; 19 R469). -/

namespace Sys2Proof.Machine

/-! ### States of a port -/

/-- A port's new state; a link port's change sets TW_EV.LINK, and what can be reached may change (15 Tables 15-4a,
15-8). -/
def State.portState (s : State) (p st : Nat) : State :=
  if (s.port p).st = st then s
  else
    let before := s.members
    let s := s.modPort p fun x => { x with st := st }
    if p < 8 then (s.twEvent 34).noteMembers before else s

/-- A port is enabled: PORT_CTL.EN, or ADJ_CTL.EN (15 R389, 19 Table 19-8). -/
def State.portEn (s : State) (p : Nat) : Bool :=
  if p = 8 then bit (s.preg pgAdj 0o021) 35 else bit (s.preg (pgPort p) 0o021) 35

/-- A port begins training with nothing outstanding (15 R370); the Adjunct's clock group applies then (18 R454). -/
def State.startTraining (s : State) (p : Nat) : State :=
  let s := if p = 8 then s.applyStaged pgPower 10 else s
  let s := s.modPort p fun x => { Port.reset with st := x.st, retrains := x.retrains }
  s.portState p psDetect

/-- A port leaves traffic for FAILED or OFF: its replay buffer is discarded (15 R370). -/
def State.dropPort (s : State) (p st : Nat) : State :=
  let s := s.modPort p fun x => { x with replay := [], waiting := [], lanes := 0, paramSent := false, up := false }
  s.portState p st

/-- Retrains of the last second, in microseconds of SR_CLK. -/
def State.recentRetrains (s : State) (p : Nat) : List Nat :=
  (s.port p).retrains.filter fun t => decide (s.pwr.us < t + 1000000)

/-- A port retrains, keeping its replay buffer; the third retrain in 1 s fails it (15 Table 15-4a; log entry 18). -/
def State.retrain (s : State) (p : Nat) : State :=
  let ts := s.pwr.us :: s.recentRetrains p
  let s := if p < 8 then s.bump (pgPort p) 0o026 1 else s
  let s := s.modPort p fun x => { x with crcBad := 0, retrains := ts, nakRun := 0, nakSeen := 0, nakSent := false, paramSent := false }
  if 3 ≤ ts.length then s.dropPort p psFailed else s.portState p psRetrain

/-! ### Sending and receiving -/

/-- The last durable sequence number (15 R370). -/
def State.lastSeq (s : State) : Word × Word := (s.cel.last0, s.cel.last1)

/-- The version a device sends: its running image's, or all ones from a Spent device (16 R410). -/
def State.sentVersion (s : State) : Word := if s.steep.spent then wd (2 ^ 36 - 1) else s.steep.runVer

/-- The PARAM flit of a port (15 R370). -/
def State.paramFlit (s : State) (p : Nat) : Flit :=
  mkFlit 3
    (fld 0 4 s.own ||| fld 5 7 p ||| fld 8 9 s.straps.role.toNat ||| fld 10 10 s.twin.hold.toNat)
    s.sentVersion s.lastSeq.1 s.lastSeq.2

/-- An unreplayed flit sent on a port. -/
def State.sendPlain (s : State) (p : Nat) (f : Flit) : State := s.modPort p fun x => x.sendPlain f


/-- Credits that a flit returns (15 R369). -/
def Port.creditsBack (x : Port) (f : Flit) : Port :=
  let c := f.ccls.toNat
  if c < 6 then { x with credits := tset 0 x.credits c (tget 0 x.credits c - f.ccnt.toNat) } else x

/-- A NAK for the flit expected; the eighth in a row with no flit accepted makes the port retrain (15 R369). -/
def State.sendNak (s : State) (p : Nat) : State :=
  let s := s.modPort p fun x =>
    ({ x with nakRun := x.nakRun + 1, nakSent := true }).sendPlain (mkFlit 2 (fld 20 35 x.recvSeq) 0 0 0)
  if 8 ≤ (s.port p).nakRun then s.retrain p else s

/-- Fewer than 64 records remain unsent: the holder's catch-up ends in PAIRED (15 R383). -/
def State.pairIfClose (s : State) : State :=
  let unsent := ((s.port 0).waiting.filter fun e => e.2.ftype.toNat == 0o020).length
  if s.twin.st = 3 ∧ s.twin.hold = true ∧ unsent < 64 then
    ({ s with twin := { s.twin with st := 5 } }).twEvent 31
  else s

/-- Credits came back or replay room was freed: what waits goes out. -/
def State.flushPort (s : State) (p : Nat) : State :=
  let s := s.sentPort p (s.port p).flush
  if p = 0 then s.pairIfClose else s

/-- A protocol error is counted in PORT_CRCERR, and the port retrains (15 R368). -/
def State.protocolError (s : State) (p : Nat) : State :=
  let s := if p < 8 then s.bump (pgPort p) 0o024 1 else s
  if (s.port p).st = psUp then s.retrain p else s

/-- A flit that is not replayed arrives on a port that is UP: credits, and a gap against the SEQ it carries
(15 R369). -/
def State.recvPlain (s : State) (p : Nat) (f : Flit) : State :=
  let s := (s.modPort p fun x => { x.creditsBack f with crcBad := 0 }).flushPort p
  if f.seq.toNat ≠ (s.port p).recvSeq ∧ (s.port p).nakSent = false then s.sendNak p else s

/-- A replayed flit of credit class c arrives: accepted where it is the next in order, its buffer freed at once, an ACK
every 32 (15 R369). Whether it was accepted. -/
def State.recvIn (s : State) (c p : Nat) (f : Flit) : Bool × State :=
  if (s.port p).st ≠ psUp then (false, s)
  else if badFlit p f then (false, s.protocolError p)
  else
    let s := (s.modPort p fun x => { x.creditsBack f with crcBad := 0 }).flushPort p
    let x := s.port p
    if f.seq.toNat = x.recvSeq then
      let x := { x with
        recvSeq := (x.recvSeq + 1) % 2 ^ 16, nakSent := false, nakRun := 0, sinceAck := x.sinceAck + 1
        owed := tset 0 x.owed c (tget 0 x.owed c + 1) }
      let x := if x.sinceAck < 32 then x
        else ({ x with sinceAck := 0 }).sendPlain (mkFlit 1 (fld 20 35 ((x.recvSeq + 2 ^ 16 - 1) % 2 ^ 16)) 0 0 0)
      let s := s.setPort p x
      (true, if p < 8 then s.bump (pgPort p) 0o030 1 else s)
    else if x.nakSent then (false, s)
    else (false, s.sendNak p)

/-- Replayed flits that arrive one after the other: true where every one is accepted. -/
def State.recvAllIn (s : State) (c p : Nat) (fs : List Flit) : Bool × State :=
  fs.foldl (fun r f => let (ok, s) := r.2.recvIn c p f; (r.1 && ok, s)) (true, s)

/-- Replayed flits that are no messages. -/
def State.recvReplayed (s : State) (p : Nat) (f : Flit) : Bool × State := s.recvIn (classOf p) p f
def State.recvAll (s : State) (p : Nat) (fs : List Flit) : Bool × State := s.recvAllIn (classOf p) p fs

/-! ### Commands of the lanes -/

/-- Start-up has reached the step in which ports train: step 5, or step 2 for a Spent device's port 0,
the only one that it trains (15 R389, 18 Table 18-3). -/
def State.portsMayTrain (s : State) (p : Nat) : Bool :=
  if s.steep.spent then decide (p = 0) && decide (2 ≤ s.sys) else decide (5 ≤ s.sys)

/-- EN of a port becomes v (15 R389, Table 15-4a; 19 Table 19-8). -/
def State.setEn (s : State) (p : Nat) (v : Bool) : State :=
  let st := (s.port p).st
  if !v then (if st = psOff then s else s.dropPort p psOff)
  else if (st = psOff ∧ s.portsMayTrain p = true) ∨ st = psFailed then s.startTraining p
  else s

/-- A write of PORT_CTL (15 R389). -/
def State.wrPortCtl (s : State) (p : Nat) (v : Word) : Answer :=
  if 1 ≤ p ∧ s.straps.role = 2 then (cState, s)
  else if p = 0 ∧ bit v 35 = false ∧ s.twin.st ≠ 0 ∧ s.twin.st ≠ 7 then (cState, s)
  else (0, (s.setPreg (pgPort p) 0o021 v).setEn p (bit v 35))

/-- A write of ADJ_CTL (19 Table 19-8). -/
def State.wrAdjCtl (s : State) (v : Word) : Answer := (0, (s.setPreg pgAdj 0o021 v).setEn 8 (bit v 35))

/-- FAR_END_DETECTION (15 Table 15-4a). -/
def execFarEndDetection (p : Fin 9) (s : State) : Host.Outcome State Fault Refusal :=
  .next (if (s.port p.val).st = psDetect then s.portState p.val psLock else s)

/-- CLOCK_RECOVERY: the lanes whose clocks are recovered (15 Table 15-4a). -/
def execClockRecovery (p : Fin 9) (lanes : BitVec 8) (s : State) : Host.Outcome State Fault Refusal :=
  let x := s.port p.val
  if x.st = psLock then .next ((s.modPort p.val fun x => { x with lanes }).portState p.val psAlign)
  else if x.st = psRetrain then .next (s.modPort p.val fun x => { x with lanes })
  else .next s

/-- WIDTH of a port: 0 none, 1 lanes 0-3, 2 lanes 4-7, 3 all; x4 only where allowed (15 R366, Table 15-7). -/
def State.portWidth (s : State) (p : Nat) : Nat :=
  let l := (s.port p).lanes
  let lo := l.getMsbD 0 && l.getMsbD 1 && l.getMsbD 2 && l.getMsbD 3
  let hi := l.getMsbD 4 && l.getMsbD 5 && l.getMsbD 6 && l.getMsbD 7
  let x4 := decide (p = 8) || bit (s.preg (pgPort p) 0o021) 34
  if lo && hi then 3 else if lo && x4 then 1 else if hi && x4 && decide (p ≠ 8) then 2 else 0

/-- BLOCK_SYNC: PARAM with enough lanes, else DETECT again (15 R366, Table 15-4a). -/
def execBlockSync (p : Fin 9) (s : State) : Host.Outcome State Fault Refusal :=
  let st := (s.port p.val).st
  if st ≠ psAlign ∧ st ≠ psRetrain then .next s
  else if s.portWidth p.val = 0 then .next (if st = psAlign then s.startTraining p.val else s.retrain p.val)
  else
    let s := if st = psAlign then s.portState p.val psParam else s
    .next ((s.modPort p.val fun x => { x with paramSent := true }).sendPlain p.val (s.paramFlit p.val))

/-- BLOCK_SYNC_LOSS: a port that is UP retrains, one still training begins again (15 R366, Table 15-4a). -/
def execBlockSyncLoss (p : Fin 9) (s : State) : Host.Outcome State Fault Refusal :=
  let st := (s.port p.val).st
  if st = psUp ∨ st = psRetrain then .next (s.retrain p.val)
  else if st = psAlign ∨ st = psParam then .next (s.startTraining p.val)
  else .next s

/-- The bits of a flit on lane i of a port at the width it runs at; none on a lane it does not use (15 R366). -/
def State.laneBits (s : State) (p : Nat) (f : Flit) (i : Nat) : Option Nat :=
  match s.portWidth p with
  | 3 => some (flitLane f i)
  | 1 => if i < 4 then some (flitLane4 f i) else none
  | 2 => if 4 ≤ i then some (flitLane4 f (i - 4)) else none
  | _ => none

/-- IDLE (15 R369). -/
def execIdle (p : Fin 9) (f : Flit) (s : State) : Host.Outcome State Fault Refusal :=
  .next (if (s.port p.val).st ≠ psUp then s
    else if badFlit p.val f then s.protocolError p.val
    else s.recvPlain p.val f)

/-- Replay entries up to a SEQ leave the buffer (15 R369). -/
def Port.acked (x : Port) (last : Nat) : Port :=
  let rest := x.replay.filter fun g => !decide ((last + 2 ^ 16 - g.seq.toNat) % 2 ^ 16 < 2 ^ 15)
  { x with replay := rest, nakSeen := if rest.length = x.replay.length then x.nakSeen else 0 }

/-- ACK (15 R369). -/
def execAck (p : Fin 9) (f : Flit) (s : State) : Host.Outcome State Fault Refusal :=
  if (s.port p.val).st ≠ psUp then .next s
  else if badFlit p.val f then .next (s.protocolError p.val)
  else .next ((s.modPort p.val fun x => x.acked (bits f.w0 20 35)).recvPlain p.val f)

/-- The replay buffer is sent again (15 R369, R370). -/
def State.resendPort (s : State) (p : Nat) : State :=
  let s := s.modPort p fun x => { x with tx := x.tx ++ x.replay }
  if p < 8 then s.bump (pgPort p) 0o025 1 else s

/-- NAK: the sender goes back to the SEQ named; eight in a row make it retrain (15 R369). -/
def execNak (p : Fin 9) (f : Flit) (s : State) : Host.Outcome State Fault Refusal :=
  if (s.port p.val).st ≠ psUp then .next s
  else if badFlit p.val f then .next (s.protocolError p.val)
  else
    let s := s.modPort p.val fun x => x.acked ((bits f.w0 20 35 + 2 ^ 16 - 1) % 2 ^ 16)
    let s := s.modPort p.val fun x => { x with nakSeen := x.nakSeen + 1 }
    if 8 ≤ (s.port p.val).nakSeen then .next (s.retrain p.val)
    else .next ((s.resendPort p.val).recvPlain p.val f)

/-- FLIT_CRC_FAILURE: counted, and a NAK sent where the port carries traffic; the eighth in a row loses block sync
(15 R366, R369, Table 15-7). -/
def execFlitCrcFailure (p : Fin 9) (s : State) : Host.Outcome State Fault Refusal :=
  let s := if p.val < 8 then s.bump (pgPort p.val) 0o024 1 else s
  let s := s.modPort p.val fun x => { x with crcBad := x.crcBad + 1 }
  .next (if (s.port p.val).st ≠ psUp then s
    else if 8 ≤ (s.port p.val).crcBad then s.retrain p.val
    else s.sendNak p.val)

/-- PROTOCOL_ERROR (15 R368). -/
def execProtocolError (p : Fin 9) (_f : Flit) (s : State) : Host.Outcome State Fault Refusal :=
  .next (s.protocolError p.val)

/-! ### The hold and VERIFY -/

/-- The records of the ring from a position on: position, SEQ and length, pads passed over, at most `fuel`. -/
def Cellar.walk (c : Cellar) : Nat → Word → List (Word × Word × Word × Nat)
  | 0, _ => []
  | k + 1, p =>
    let h := c.word p 0
    let kind := bits h 0 3
    if p = c.append ∨ bits h 21 32 ≠ posLap p then []
    else if kind = 15 then c.walk k (mkPos ((posLap p + 1) % 4096) 0)
    else
      let len := if kind = 1 ∨ kind = 2 then 4 + 8 * bits h 4 8 else 6
      (p, c.word p 1, c.word p 2, len) :: c.walk k (posAdv p (len / 2))

/-- The farthest position known to begin a record of the ring: that of its lap, of the archive position or of the
checkpoint (07 R171; log entry 14). -/
def Cellar.oldest (c : Cellar) : Word :=
  [c.archive, c.ckpt].foldl (fun p q => if posBefore q p then q else p) (mkPos (posLap c.append) 0)

/-- The last records of the ring, at most 4,096, latest first, with the archive and append positions (15 R382). -/
def Cellar.journal (c : Cellar) : PeerJournal :=
  let recs := c.walk (ringPairs + 1) c.oldest
  { records := ((recs.drop (recs.length - 4096)).map fun r => (r.1, r.2.1, r.2.2.1)).reverse
    archive := c.archive, append := c.append }

/-- What each device tells its twin of its ring, in as many messages as it takes; they are not numbered (15 R382; log
entry 14). -/
def State.sendJournal (s : State) : State :=
  let j := s.cel.journal
  let parts := match chunks 80 j.records with
    | [] => [[]]
    | l => l
  parts.foldl
    (fun s rs => s.emit 0
      { dst := BitVec.ofNat 5 (Nat.xor s.own 1), src := BitVec.ofNat 5 s.own, seq := 0, hops := 0
        body := .journal { j with records := rs } }) s

/-- Send PARAM and the journal points on port 0 for a VERIFY (15 R382). -/
def State.sendParam0 (s : State) : State :=
  if s.portUp 0 then (s.sendPlain 0 (s.paramFlit 0)).sendJournal else s

/-- The ring holds a record with a SEQ at a position (07 R171). -/
def Cellar.holds (c : Cellar) (r : Word × Word × Word) : Bool :=
  posBefore r.1 c.append && decide (bits (c.word r.1 0) 21 32 = posLap r.1) && decide (c.word r.1 1 = r.2.1) &&
    decide (c.word r.1 2 = r.2.2)

/-- The position after the record at a position. -/
def Cellar.after (c : Cellar) (p : Word) : Word :=
  match c.walk 1 p with
  | (q, _, _, len) :: _ => posAdv q (len / 2)
  | [] => p

/-- The common point of two rings: where catch-up starts, the SEQ before it, and the orphans; none without one
(15 R382). -/
def State.commonPoint (s : State) (peer : PeerJournal) : Option (Word × Word × Word × List Word) :=
  let c := s.cel
  let orphansAt (p : Word) : List Word :=
    if s.twin.hold then [] else (c.walk 4097 p).map (·.1)
  match peer.records.find? c.holds with
  | some (p, s0, s1) =>
    let start := c.after p
    let orphans := if s.twin.hold then (peer.records.map (·.1)).takeWhile (· != p) else orphansAt start
    if 4096 < orphans.length then none else some (start, s0, s1, if s.twin.hold then orphans.reverse else orphans)
  | none =>
    if s.twin.hold then
      if peer.records.isEmpty then some (c.archive, 0, 0, [])
      else if peer.records.length < 4096 ∧ (peer.archive = c.archive ∨ posBefore c.archive peer.archive = true) ∧
          (peer.archive = c.append ∨ posBefore peer.archive c.append = true) then
        some (peer.archive, 0, 0, (peer.records.map (·.1)).reverse)
      else none
    else
      let mine := (c.journal.records.map (·.1)).reverse
      if mine.isEmpty then some (peer.archive, 0, 0, [])
      else if mine.length < 4096 ∧ (c.archive = peer.archive ∨ posBefore peer.archive c.archive = true) ∧
          (c.archive = peer.append ∨ posBefore c.archive peer.append = true) then
        some (c.archive, 0, 0, mine)
      else none

/-- TW_CSTAT (15 Table 15-8). -/
def State.twStat (s : State) (stat op code : Nat) : State :=
  s.setPreg pgTwin 0o023 (fld 0 2 stat ||| fld 3 5 op ||| fld 27 35 code)

/-- A CATCH flit. -/
def catchFlit (ck : Nat) (w0 w1 w2 w3 : Word) : Flit := mkFlit 0o025 (fld 0 3 ck ||| w0) w1 w2 w3

/-- A prepared table entry as CATCH flits, one a leg (15 Table 15-5b). -/
def preparedFlits (q : Prepared) : List Flit :=
  let legs := chunks 3 q.addrs
  legs.mapIdx fun i l =>
    let a := l.getD 0 0
    catchFlit 2 (fld 4 7 i ||| fld 8 12 legs.length ||| fld 28 35 (a / 2 ^ 32)) (fld 0 31 a) q.seq0 q.seq1

/-- A durable queue's context and its tickets, as the queue manager reads them (15 R383). -/
def State.sendContext (s : State) (q : Nat) : State :=
  let c := s.queue q
  let n := (c.tail + 2 ^ 17 - c.ret) % 2 ^ 17
  let s := s.sendFlits 0 [catchFlit 3 (fld 4 17 q) (fld 2 18 c.head ||| fld 19 35 c.tail) (fld 19 35 c.ret) 0]
  (List.range n).foldl
    (fun s i =>
      let p := (c.ret + i) % 2 ^ 17
      let (ws, s) := s.readWords (c.slotPa p) 4
      s.sendFlits 0 [qrackFlit 1 q (wd ((p + 1) % 2 ^ 17)) (ws.getD 0 0) (ws.getD 1 0),
        qrackFlit 2 q 0 (ws.getD 2 0) (ws.getD 3 0)]) s

/-- The holder's catch-up stream, behind which later records and events follow; with it unracked entries reach the
twin (15 R383; 13 R326). -/
def State.streamOut (s : State) : State :=
  let s := s.sendFlits 0 [catchFlit 1 0 0 s.twin.common0 s.twin.common1]
  let recs := s.cel.walk (posDist s.twin.common s.cel.append + 1) s.twin.common
  let s := { s with cel := { s.cel with unacked := [] } }
  let s := recs.foldl (fun s r => s.rackRecord r.1) s
  let s := s.sendFlits 0 (s.cel.prepared.flatMap preparedFlits)
  let s := (s.que.q.filter fun e => e.2.dur).foldl (fun s e => s.sendContext e.1) s
  let s := (s.que.q.filter fun e => e.2.dur).foldl
    (fun s e => s.setQueue e.1 { s.queue e.1 with unracked := [] }) s
  (s.sendFlits 0 [catchFlit 4 0 0 0 0]).pairIfClose

/-- CATCHUP begins at the common point: the holder streams; the standby's ring ends there (15 R383, R384). -/
def State.beginCatchup (s : State) : State :=
  let s := { s with twin := { s.twin with st := 3, orphans := [], check := false } }
  if s.twin.hold then s.streamOut
  else
    s.modCel fun c =>
      { c with
        append := s.twin.common
        archive := if posBefore s.twin.common c.archive then s.twin.common else c.archive
        last0 := s.twin.common0
        last1 := s.twin.common1
        flying := [] }

/-- VERIFY with the twin's PARAM flit and its journal points (15 R382). -/
def State.verify (s : State) (f : Flit) (peer : PeerJournal) : State :=
  let peerHolds := bit f.w0 10
  let peerSeq : Word × Word := (f.w2, f.w3)
  let s := { s with twin := { s.twin with
    lineLow := peerHolds, vdiff := decide (f.w1 ≠ s.steep.runVer), misses := 0 } }
  let fail (s : State) : State :=
    ({ s with twin := { s.twin with st := 1, check := true } }).twStat 3 (bits (s.preg pgTwin 0o023) 3 5) cCheck
  if f.w1 = wd (2 ^ 36 - 1) ∨ termTie (seqTerm peerSeq.1) (seqTerm s.lastSeq.1) = true then fail s
  else if !s.twin.hold && !peerHolds then
    let mine := seqGt s.lastSeq peerSeq || (!seqGt peerSeq s.lastSeq && decide (s.own % 2 = 0))
    { s with twin := { s.twin with taking := mine } }
  else
    let s := { s with twin := { s.twin with taking := false } }
    match s.commonPoint peer with
    | none => fail s
    | some (p, s0, s1, orphans) =>
      let s := { s with twin := { s.twin with common := p, common0 := s0, common1 := s1, orphans } }
      let s := if s.twin.hold then s
        else if peer.records.isEmpty then s
        else if s.cel.journal.records.isEmpty then
          s.modCel fun c => { c with archive := peer.archive, append := peer.archive }
        else s
      if orphans.isEmpty then s.beginCatchup
      else ({ s with twin := { s.twin with st := 4 } }).twEvent 32

/-- The pairs strapped ROLE 1 that this device knows of (15 R387). -/
def State.managerPairs (s : State) (p : Nat) : List Nat :=
  (if s.straps.role = 1 then [s.own / 2] else []) ++
    (match s.tr.mgr with
      | some g => [g / 2]
      | none => []) ++
    ((List.range 8).filter fun q => decide (q ≠ p) && s.portUp q && decide (bits (s.preg (pgPort q) 0o022) 8 9 = 1)).map
      fun q => s.farEnd q / 2

/-- FAULT of a port whose far end reports a device and a ROLE (15 R365, R382, R387, Table 15-7). -/
def State.portFault (s : State) (p dev role : Nat) : Nat :=
  let d := s.own
  let wired := if p = 0 then Nat.xor d 1 else 2 * Nat.xor (d / 2) (2 ^ (p - 1)) + d % 2
  if dev = d then 2
  else if p = 0 ∧ dev ≠ wired then 4
  else if 1 ≤ p ∧ p ≤ 4 ∧ dev ≠ wired then 1
  else if role = 1 ∧ (s.managerPairs p).any (· != dev / 2) then 3
  else 0

/-- A port reaches UP: a retrained one resumes its replay (15 R370). -/
def State.portReady (s : State) (p : Nat) : State :=
  let again := decide ((s.port p).st = psRetrain)
  let s := s.modPort p fun x => { x with up := true, paramSent := false }
  let s := s.portState p psUp
  let s := if again && !(s.port p).replay.isEmpty then s.resendPort p else s
  (s.flushPort p).retryHeld

/-- A port is up: the version behind it is noted, and the manager greets each member that has become reachable, or is
told of the device there (15 R387, R388). -/
def State.greet (s : State) (before : List Nat) (d : Nat) (v : Word) : State :=
  let s := if s.isManager then
      (s.members.filter fun t => !before.contains t && decide (t ≠ d)).foldl State.sendDirectory s
    else s
  s.noteJoined (!before.contains d) d v

/-- The twin's last durable sequence number as its PARAM carries it (15 R370, Table 15-8). -/
def State.notePeer (s : State) (f : Flit) : State := (s.setPreg pgTwin 0o025 f.w2).setPreg pgTwin 0o026 f.w3

/-- PARAM (15 R370, R382, R386-R388; 19 R469): on a port in training it takes the port to UP; on port 0 in UP it is the
exchange of a VERIFY, and is answered by a device that enters VERIFY with it (log entry 18). -/
def execParam (p : Fin 9) (f : Flit) (peer : PeerJournal) (s : State) : Host.Outcome State Fault Refusal :=
  let x := s.port p.val
  if p.val = 8 then
    if x.st = psParam ∨ (x.st = psRetrain ∧ x.paramSent = true) then
      .next ((s.setPregF pgAdj 0o020 28 31 (bits f.w0 0 3)).portReady 8)
    else .next s
  else if x.st = psParam ∨ (x.st = psRetrain ∧ x.paramSent = true) then
    let fault := s.portFault p.val (bits f.w0 0 4) (bits f.w0 8 9)
    let s := s.setPreg (pgPort p.val) 0o022
      (fld 0 4 (bits f.w0 0 4) ||| fld 5 7 (bits f.w0 5 7) ||| fld 8 9 (bits f.w0 8 9) ||| fld 10 13 fault)
    let s := s.setPreg (pgPort p.val) 0o023 f.w1
    if fault ≠ 0 then .next (s.dropPort p.val psFailed)
    else
      let s := if p.val = 0 then s.notePeer f else s
      let s := (s.portReady p.val).greet s.members (bits f.w0 0 4) f.w1
      if p.val = 0 ∧ (s.twin.st = 1 ∨ s.twin.st = 6) ∧ s.twin.check = false then
        .next (({ s with twin := { s.twin with st := 2 } }).sendJournal.verify f peer)
      else .next s
  else if x.st = psUp ∧ badFlit p.val f = true then .next (s.protocolError p.val)
  else if x.st = psUp ∧ p.val = 0 then
    let s := (s.recvPlain 0 f).notePeer f
    if s.twin.st = 2 ∨ s.twin.st = 4 ∨ (s.twin.st = 1 ∧ (s.twin.check = false ∨ s.twin.hold = true)) then
      let s := if s.twin.st = 2 ∧ bit f.w0 10 = false then s else s.sendParam0
      .next (({ s with twin := { s.twin with st := 2 } }).verify f peer)
    else .next s
  else .next s

end Sys2Proof.Machine
end

