-- ==== Sys2Proof/Machine/Twin.lean ====
section
/-! DEFINITION. The twin: heartbeats, racking as the standby sees it, catch-up, the hold and the twin commands
(07 R164-R171; 13 R326; 15 R373-R387). -/

namespace Sys2Proof.Machine

/-- Modify the twin machine. -/
def State.modTwin (s : State) (f : Twin → Twin) : State := { s with twin := f s.twin }

/-- A standby receiving records: paired, or catching up (15 R377). -/
def State.following (s : State) : Bool :=
  s.straps.twin && !s.twin.hold && (decide (s.twin.st = 3) || decide (s.twin.st = 5))

/-! ### The hold -/

/-- The twin's term in a heartbeat or a record: the greatest seen is kept for a take (15 R375, R376). -/
def Twin.sawTerm (t : Twin) (n : Nat) : Twin := if termGt n t.seenTerm then { t with seenTerm := n } else t

/-- The terms a device compares for a take: its own and those it has seen (15 R375). -/
def State.nextTerm (s : State) : Nat :=
  let t := if termGt s.twin.seenTerm s.cel.term then s.twin.seenTerm else s.cel.term
  (t + 1) % 65536

/-- The manager's other members, after a change of holder: the new manager's replica goes to each, and a bucket move in
progress counts as failed at the stage that the old manager told of (15 R387, 13 R338; log entry 14). -/
def State.becomeManager (s : State) : State :=
  if s.isManager then
    let s := s.others.foldl State.sendDirectory s
    match s.que.mgrMove with
    | some m =>
      let b := { m with mgr := s.own, fences := (s.que.bmove.map BMove.fences).getD [] }
      let s := { s with que := { s.que with mgrMove := none } }
      if b.failed then s.setMove (some b) else (s.setMove (some b)).failMove b cAbsent
    | none => s
  else s

/-- A durable queue as the new holder finds it: to be delivered from RET, the tickets before HEAD with RDL; in HOLD where
the take follows a loss or TAKE (13 R326, 15 R381; log entry 18). -/
def QCtx.takeover (fell : Bool) (c : QCtx) : QCtx :=
  let n := (c.head + 2 ^ 17 - c.ret) % 2 ^ 17
  { c with
    st := if fell then qHold else c.st
    inServ := []
    released := (List.range n).map fun i => (c.ret + i) % 2 ^ 17
    deliver := c.tail }

/-- Queues that gained released tickets are signalled (13 R325). -/
def State.signalReleased (s : State) : State :=
  (s.que.q.filter fun e => e.2.dur && decide (e.2.kind = 0) && !e.2.released.isEmpty).foldl (fun s e => s.signal e.1) s

/-- The device takes TWIN_HOLD (15 R374, R375, R381; 07 R167). -/
def State.takeHold (s : State) : State :=
  let term := s.nextTerm
  let fell := decide (s.twin.st = 6) || decide (s.twin.cmd = some 4)
  let s := s.modTwin fun t => { t with hold := true, lineLow := false, taking := false }
  let s := s.modCel fun c =>
    { c with
      term := term
      ckptTerm := term
      locks := (c.locks.filter fun l => match l.2 with
        | .prepared _ _ => false
        | .core _ => true) ++
        c.prepared.flatMap fun q => (framesOf q.addrs).map fun f => (f, Holder.prepared q.seq0 q.seq1) }
  let s := { s with que := { s.que with
    q := s.que.q.map fun (e : Nat × QCtx) => (e.1, if e.2.dur then e.2.takeover fell else e.2) } }
  let s := (s.bump pgTwin 0o035 1).twEvent 30
  let s := if s.twin.st = 2 then s.sendParam0 else s
  s.becomeManager.signalReleased

/-- SETTLE_TIME: TWIN_HOLD has been sampled high for the settle time, and a device that tries to take it does
(15 R374, R375). -/
def execSettleTime (s : State) : Host.Outcome State Fault Refusal :=
  .next (if s.straps.twin = false ∨ s.twin.hold = true then s
    else if s.twin.taking then s.takeHold
    else s.modTwin fun t => { t with lineLow := false })

/-- The twin's notice is the next replayed flit of port 0 (15 R369, R385; log entry 14). -/
def State.recvNotice (s : State) (handover : Bool) : State :=
  let m : Msg := { dst := BitVec.ofNat 5 s.own, src := BitVec.ofNat 5 (Nat.xor s.own 1), seq := 0, hops := 0
                   body := .notice handover }
  (s.recvAllIn 0 0 ((msgFlits m).map fun f => { f with seq := BitVec.ofNat 16 (s.port 0).recvSeq })).2

/-- HANDOVER_NOTICE: the standby takes the hold without settle time (15 R374, R385). -/
def execHandoverNotice (s : State) : Host.Outcome State Fault Refusal :=
  let s := s.recvNotice true
  .next (if s.following then s.takeHold else s)

/-- DETACH_NOTICE (15 R385). -/
def execDetachNotice (s : State) : Host.Outcome State Fault Refusal :=
  let s := s.recvNotice false
  .next (if s.straps.twin ∧ s.twin.st = 5 then
      (s.modTwin fun t => { t with st := 7, taking := false, misses := 0 }).twEvent 33
    else s)

/-- TW_WAIT_EXPIRY: port 0 is not UP at the end of the start-up wait (15 R386). -/
def execTwWaitExpiry (s : State) : Host.Outcome State Fault Refusal :=
  .next (if s.straps.twin ∧ s.twin.st = 1 then
      s.modTwin fun t =>
        { t with
          waited := true
          taking := t.taking || (!s.portUp 0 && !t.hold && bit (s.preg pgTwin 0o021) 35) }
    else s)

/-! ### Heartbeats -/

/-- HBEAT: the twin's hold, term, last SEQ and version (15 R380). -/
def execHbeat (f : Flit) (s : State) : Host.Outcome State Fault Refusal :=
  if (s.port 0).st ≠ psUp then .next s
  else if badFlit 0 f then .next (s.protocolError 0)
  else
    let s := s.recvPlain 0 f
    let s := (s.setPreg pgTwin 0o025 f.w1).setPreg pgTwin 0o026 f.w2
    .next (s.modTwin fun t =>
      { t.sawTerm (bits f.w0 20 35) with
        lineLow := bit f.w0 0
        peerTerm := if bit f.w0 0 then bits f.w0 20 35 else t.peerTerm
        vdiff := decide (f.w3 ≠ s.steep.runVer)
        misses := 0 })

/-- HEARTBEAT_SEND (15 R380). -/
def execHeartbeatSend (s : State) : Host.Outcome State Fault Refusal :=
  .next (if (s.port 0).st = psUp ∧ 2 ≤ s.twin.st then
      s.sendPlain 0 (mkFlit 4 (fld 0 0 s.twin.hold.toNat ||| fld 20 35 s.cel.term) s.lastSeq.1 s.lastSeq.2 s.steep.runVer)
    else s)

/-- The pair is LOST: a holder completes what waits for the twin with LONE, a standby tries to take the hold
(15 R380, R381). -/
def State.declareLost (s : State) : State :=
  let s := ((s.modTwin fun t => { t with st := 6, misses := 0 }).bump pgTwin 0o034 1).twEvent 29
  if s.twin.hold then
    (s.cel.posts.filter fun p => decide (p.stage = .racking)).foldl (fun s p => s.completeLone p.core) s
  else s.modTwin fun t => { t with taking := true }

/-- HEARTBEAT_MISS: the third in a row loses the twin (15 R380). -/
def execHeartbeatMiss (s : State) : Host.Outcome State Fault Refusal :=
  if 2 ≤ s.twin.st ∧ s.twin.st ≤ 5 then
    let s := s.modTwin fun t => { t with misses := t.misses + 1 }
    .next (if 3 ≤ s.twin.misses then s.declareLost else s)
  else .next s

/-! ### The standby's journal -/

/-- Both devices go back to VERIFY (15 R379). -/
def State.toVerify (s : State) : State :=
  if s.twin.st = 3 ∨ s.twin.st = 5 then (s.modTwin fun t => { t with st := 2 }).sendParam0 else s

/-- A record at a wrong place: the standby asks to resynchronise (15 R379). -/
def State.askResync (s : State) : State := (s.sendFlits 0 [catchFlit 5 0 0 0 0]).toVerify

/-- New balances of a record's legs (07 Table 07-9). -/
def recordNew (body : List Word) : List (List Word) := (chunks 8 body).map fun l => (l.drop 5).take 3

/-- A first word of a balance field as its three. -/
def balanceAddrs (a : Nat) : List Nat := [a, a + 1, a + 2]

/-- The prepared table follows a record (15 R379, 07 R164, R165). -/
def Cellar.followPrepared (c : Cellar) (ws : List Word) (addrs : List Nat) : Cellar :=
  let kind := bits (ws.getD 0 0) 0 3
  let (s0, s1) := (ws.getD 1 0, ws.getD 2 0)
  if kind = 2 then
    { c with
      prepared := (c.prepared.filter fun q => !(q.seq0 == s0 && q.seq1 == s1)) ++
        [⟨s0, s1, bits (ws.getD 0 0) 9 20, addrs.flatMap balanceAddrs, recordNew (ws.drop 4), false⟩],
      recAddrs := (s0, s1, addrs.flatMap balanceAddrs) :: c.recAddrs }
  else if kind = 3 ∨ kind = 4 then
    { c with prepared := c.prepared.filter fun q => !(q.seq0 == ws.getD 4 0 && q.seq1 == ws.getD 5 0) }
  else c

/-- A racked record written at the append position (15 R378, R379). -/
def Cellar.follow (c : Cellar) (ws : List Word) (s0 s1 : Word) (addrs : List Nat) : Cellar :=
  let pos := c.append
  let next := posAdv pos (ws.length / 2)
  let c := c.write pos 0 ws
  let c := { c with
    append := next
    lapTotal := if posLap next = posLap pos then c.lapTotal else c.lapTotal + 1
    term := seqTerm s0
    count := (seqCount s0 s1 + 1) % 2 ^ 56
    last0 := s0
    last1 := s1 }
  (c.followPrepared ws addrs).checkpoint
    { pos, first0 := ws.getD 0 0, first1 := ws.getD 1 0, len := ws.length, core := 0, mode := 0 }

/-- RACKED_RECORD (15 R378, R379). -/
def execRackedRecord (h : Flit) (d : List Flit) (s : State) : Host.Outcome State Fault Refusal :=
  let len := bits h.w1 26 35
  let xw := bits h.w1 20 25
  if d.length ≠ (len + xw + 3) / 4 then .fault .malformedCommand
  else
    let (ok, s) := s.recvAll 0 (h :: d)
    if !ok || !s.following then .next s
    else
      let all := d.flatMap fun f => [f.w0, f.w1, f.w2, f.w3]
      let ws := all.take len
      let addrs := (chunks 2 ((all.drop len).take xw)).map fun l => (l.getD 0 0).toNat * 2 ^ 32 + ptrWord (l.getD 1 0)
      let pos := h.w0
      let lapNext := mkPos ((posLap s.cel.append + 1) % 4096) 0
      let s := if pos ≠ s.cel.append ∧ pos = lapNext then s.modCel Cellar.pad else s
      if pos ≠ s.cel.append then .next s.askResync
      else
        let s := s.modCel fun c => c.follow ws h.w2 h.w3 addrs
        let s := s.modTwin fun t =>
          { t.sawTerm (seqTerm h.w2) with
            peerTerm := if termGt (seqTerm h.w2) t.peerTerm then seqTerm h.w2 else t.peerTerm }
        .next (s.sendFlits 0 [mkFlit 0o022 h.w2 h.w3 0 0])

/-- RACKA (15 R378). -/
def execRacka (f : Flit) (s : State) : Host.Outcome State Fault Refusal :=
  let (ok, s) := s.recvReplayed 0 f
  .next (if ok && s.twin.hold then s.rackAcked f.w0 f.w1 else s)

/-- ARCH (15 R379). -/
def execArch (f : Flit) (s : State) : Host.Outcome State Fault Refusal :=
  let (ok, s) := s.recvReplayed 0 f
  .next (if ok && s.following then s.modCel fun c => { c with archive := f.w0 } else s)

/-! ### Durable queues -/

/-- TICKET_ENTRY: both flits of a durable queue's entry (15 R379, Table 15-5a). -/
def execTicketEntry (f g : Flit) (s : State) : Host.Outcome State Fault Refusal :=
  let (ok, s) := s.recvAll 0 [f, g]
  if !ok || !s.following then .next s
  else
    let q := bits f.w0 4 17
    let tail := bits f.w1 19 35
    let c := s.queue q
    let pa := c.slotPa ((tail + 2 ^ 17 - 1) % 2 ^ 17)
    let s := [f.w2, f.w3, g.w2, g.w3].zipIdx.foldl (fun s wi => s.engineWrite (pa + wi.2) wi.1) s
    let s := s.setQueue q { s.queue q with tail, deliver := tail }
    .next (s.sendFlits 0 [qrackFlit 4 q (wd tail) 0 0])

/-- NEW_RET (15 R379): HEAD is never before RET. -/
def execNewRet (f : Flit) (s : State) : Host.Outcome State Fault Refusal :=
  let (ok, s) := s.recvReplayed 0 f
  if !ok || !s.following then .next s
  else
    let q := bits f.w0 4 17
    let r := bits f.w1 19 35
    let c := s.queue q
    let passed := decide ((r + 2 ^ 17 - c.ret) % 2 ^ 17 > (c.head + 2 ^ 17 - c.ret) % 2 ^ 17)
    .next (s.setQueue q { c with ret := r, head := if passed then r else c.head })

/-- QRACK_ACKNOWLEDGEMENT (13 R326, 15 R379). -/
def execQrackAcknowledgement (f : Flit) (s : State) : Host.Outcome State Fault Refusal :=
  let (ok, s) := s.recvReplayed 0 f
  .next (if ok && s.twin.hold then s.qrackAcked (bits f.w0 4 17) (bits f.w1 19 35) else s)

/-! ### Catch-up -/

/-- STREAM_START (15 R383): the prepared table is received anew. -/
def execStreamStart (f : Flit) (s : State) : Host.Outcome State Fault Refusal :=
  let (ok, s) := s.recvReplayed 0 f
  .next (if ok && !s.twin.hold && decide (s.twin.st = 3) then s.modCel fun c => { c with prepared := [] } else s)

/-- PREPARED_LEG: one leg of an entry, its new balance as the record in the ring has it (15 Table 15-5b). -/
def execPreparedLeg (f : Flit) (s : State) : Host.Outcome State Fault Refusal :=
  let (ok, s) := s.recvReplayed 0 f
  if !ok || !s.following then .next s
  else
    let i := bits f.w0 4 7
    let n := bits f.w0 8 12
    let a := bits f.w0 28 35 * 2 ^ 32 + bits f.w1 0 31
    let c := s.cel
    let isIt (q : Prepared) : Bool := q.seq0 == f.w2 && q.seq1 == f.w3
    let fresh : Prepared :=
      match (c.walk (posDist c.archive c.append + 1) c.archive).find? fun r => r.2.1 == f.w2 && r.2.2.1 == f.w3 with
      | some (p, _, _, len) =>
        let ws := (List.range len).map (c.word p)
        { seq0 := f.w2, seq1 := f.w3, dom := bits (ws.getD 0 0) 9 20, addrs := List.replicate (3 * n) 0
          new := recordNew (ws.drop 4), settled := false }
      | none =>
        { seq0 := f.w2, seq1 := f.w3, dom := 0, addrs := List.replicate (3 * n) 0, new := List.replicate n [0, 0, 0]
          settled := false }
    let q := (c.prepared.find? isIt).getD fresh
    let addrs := ((q.addrs.set (3 * i) a).set (3 * i + 1) (a + 1)).set (3 * i + 2) (a + 2)
    .next (s.modCel fun c =>
      { c with
        prepared := (c.prepared.filter fun q => !isIt q) ++ [{ q with addrs }]
        recAddrs := (f.w2, f.w3, addrs) :: c.recAddrs.filter fun e => !(e.1 == f.w2 && e.2.1 == f.w3) })

/-- DURABLE_QUEUE_CONTEXT (15 Table 15-5b). -/
def execDurableQueueContext (f : Flit) (s : State) : Host.Outcome State Fault Refusal :=
  let (ok, s) := s.recvReplayed 0 f
  if !ok || !s.following then .next s
  else
    let q := bits f.w0 4 17
    .next (s.setQueue q { s.queue q with
      head := bits f.w1 2 18, tail := bits f.w1 19 35, ret := bits f.w2 19 35, deliver := bits f.w1 19 35
      inServ := [], released := [] })

/-- STREAM_END: the standby is paired (15 R383). -/
def execStreamEnd (f : Flit) (s : State) : Host.Outcome State Fault Refusal :=
  let (ok, s) := s.recvReplayed 0 f
  .next (if ok && !s.twin.hold && decide (s.twin.st = 3) then (s.modTwin fun t => { t with st := 5 }).twEvent 31 else s)

/-- RESYNCHRONISE (15 R379). -/
def execResynchronise (f : Flit) (s : State) : Host.Outcome State Fault Refusal :=
  let (ok, s) := s.recvReplayed 0 f
  .next (if ok then s.toVerify else s)

/-! ### Twin commands (15 R385) -/

/-- What a twin command is rejected with (15 Table 15-6; log entry 18). -/
def State.twCode (s : State) (op : Nat) : Nat :=
  let st := s.twin.st
  let need (ok : Bool) : Nat := if ok then 0 else cState
  match op with
  | 1 => if s.straps.twin then need (st == 0 || st == 6 || st == 7) else cAbsent
  | 2 => need (st == 5)
  | 3 => need (st == 5 && !s.twin.vdiff && s.twin.hold)
  | 4 =>
    if s.straps.twin = false then cAbsent
    else if s.twin.hold || s.twin.lineLow then cLocked
    else need (st != 5)
  | 5 => need (st == 4 && !s.twin.hold)
  | _ => need (!s.twin.hold && ((st == 1 && s.twin.check) || st == 4))

/-- The work a twin command does when it is written. -/
def State.twStart (s : State) (op : Nat) : State :=
  match op with
  | 1 =>
    let s := (s.modTwin fun t => { t with st := 1, check := false }).orPreg (pgPort 0) 0o021 1
    let s := s.setEn 0 true
    if s.portUp 0 then (s.modTwin fun t => { t with st := 2 }).sendParam0 else s
  | 4 => s.modTwin fun t => { t with taking := true }
  | 5 => s.beginCatchup.sendParam0
  | 6 =>
    let s := s.modCel fun c =>
      { c with ring := [], append := 0, archive := 0, last0 := 0, last1 := 0, prepared := [], recAddrs := [], ckpt := 0 }
    (s.modTwin fun t => { t with st := 2, check := false, orphans := [] }).sendParam0
  | _ => s

/-- A write of TW_CMD (15 R385). -/
def State.wrTwCmd (s : State) (op : Nat) : Answer :=
  if op = 0 ∨ op = 7 then (cReserved, s)
  else if s.twin.cmd.isSome then (cBusy, s)
  else
    match s.twCode op with
    | 0 => (0, ((s.modTwin fun t => { t with cmd := some op }).twStat 1 op 0).twStart op)
    | code => (code, s)

/-- A notice put on port 0 (15 R374, R385; log entry 14). -/
def State.sendNotice (s : State) (handover : Bool) : State :=
  s.emit 0 { dst := BitVec.ofNat 5 (Nat.xor s.own 1), src := BitVec.ofNat 5 s.own, seq := 0, hops := 0
             body := .notice handover }

/-- A running twin command can end well: what it waits for has happened (15 Table 15-6). -/
def State.twReady (s : State) (op : Nat) : Bool :=
  let drained := s.cel.unacked.isEmpty && !(s.cel.posts.any Posting.committed)
  match op with
  | 2 | 3 => drained
  | 4 => s.twin.hold
  | _ => true

/-- The work a twin command does when it ends. -/
def State.twFinish (s : State) (op : Nat) : State :=
  match op with
  | 2 => ((s.sendNotice false).modTwin fun t => { t with st := 7, taking := false, misses := 0 }).twEvent 33
  | 3 => (s.sendNotice true).modTwin fun t => { t with hold := false, lineLow := true }
  | _ => s

/-- TWIN_COMMAND_COMPLETION: the running command ends with a code; it cannot end well before what it waits for
(15 R385). -/
def execTwinCommandCompletion (code : BitVec 9) (s : State) : Host.Outcome State Fault Refusal :=
  match s.twin.cmd with
  | none => .next s
  | some op =>
    let fin (s : State) : State := s.modTwin fun t => { t with cmd := none }
    if nat code ≠ 0 then
      .next ((fin (if op = 4 then s.modTwin fun t => { t with taking := false } else s)).twStat 3 op (nat code))
    else if s.twReady op then .next ((fin (s.twFinish op)).twStat 2 op 0)
    else .next s

/-! ### Registers -/

/-- TW_STATE, TW_TERM, the orphans and CL_MEMBERS, CL_STATE as they read (15 Table 15-8). -/
def State.rdTwin (s : State) (off : Nat) : Option Word :=
  match off with
  | 0o020 =>
    some (fld 29 29 s.twin.hold.toNat ||| fld 30 30 (s.twin.hold || s.twin.lineLow).toNat |||
      fld 31 31 s.twin.vdiff.toNat ||| fld 32 35 s.twin.st)
  | 0o024 => some (fld 20 35 (if s.twin.hold || !s.straps.twin then s.cel.term else s.twin.peerTerm))
  | 0o027 => some (s.twin.orphans.headD 0)
  | 0o030 => some (s.twin.orphans.getLastD 0)
  | 0o031 => some (wd s.twin.orphans.length)
  | 0o036 => some (s.members.foldl (fun w d => w ||| fld (4 + d) (4 + d) 1) 0)
  | 0o037 =>
    some (fld 29 29 (s.mismatched s.own).toNat ||| (match s.manager with
      | some g => fld 30 30 1 ||| fld 31 35 g
      | none => 0))
  | _ => none

/-- A write of CL_CTL (15 R390), which the manager's members learn of (15 R388). -/
def State.wrClCtl (s : State) (v : Word) : Answer :=
  if s.isManager then (0, (s.setPreg pgTwin 0o040 v).tellCluster) else (cState, s)

end Sys2Proof.Machine
end

