-- ==== Sys2Proof/Machine/Deliver.lean ====
section
/-! DEFINITION. The arrival of a cluster message at a device: passed on, or acted on by its content (13 R315, R335,
R337; 15 R371-R373, R387; 16 R412). -/

namespace Sys2Proof.Machine

/-- The manager's directory replaces the replica: its first message begins it anew (15 R387; log entry 14). -/
def State.takeDirectory (s : State) (d : Nat) (first : Bool) (version : Word) (vmix : Bool)
    (entries : List (Nat × Word)) : State :=
  { s.noteVersion d version with
    que := { s.que with dir := entries.foldl (fun t e => tset dirReset t e.1 e.2) (if first then [] else s.que.dir) }
    tr := { (s.noteVersion d version).tr with mgr := some d, vmix := vmix } }

/-- The members' versions and VMIX as the manager tells them (15 R388; log entry 14). -/
def State.takeCluster (s : State) (d : Nat) (vmix : Bool) (versions : List (Nat × Word)) : State :=
  let s := versions.foldl (fun s e => s.noteVersion e.1 e.2) s
  { s with tr := { s.tr with mgr := some d, vmix := vmix } }

/-- The stage of the manager's bucket move, as its twin keeps it (15 R387; log entry 14). -/
def State.takeMoveNote (s : State) (d n : Nat) (bad : Bool) (src dst : Word) (ds : List Nat) : State :=
  let b : BMove :=
    { srcDev := bits src 0 4, srcQ := bits src 5 18, dstDev := bits dst 0 4, dstQ := bits dst 5 18, mgr := d, devs := ds
      stage := n, acks := [], fences := [], sent := false, failed := bad, op := 3 }
  { s with que := { s.que with mgrMove := if n = 0 then none else some b } }

/-- What a numbered message asks of its destination. -/
def State.actOn (s : State) (m : Msg) : State :=
  let d := m.src.toNat
  match m.body with
  | .ticket q t att => s.shipIn q.toNat t att
  | .dirUpdate b e => s.setDir b.toNat e
  | .directory first v x es => s.takeDirectory d first v x es
  | .fence src q => s.fenceFrom src.toNat q.toNat
  | .frameLine f line ws => s.putLine f.toNat line (ws.map fun w => { w := w.1, tag := w.2 })
  | .stage n src dst devs => s.onStage d n src dst devs
  | .stageEnd n code => s.stageReply d n code
  | .piece n off bs =>
    let s := s.fillBuffer 3 off bs
    if off + 1024 < 4096 then s
    else
      let (code, s) := s.submit 3 n (s.buffer 3)
      s.sendAll [d] (.pieceEnd n code)
  | .pieceEnd n code => s.relayAnswer d n code
  | .joined t v => s.noteJoined true t.toNat v
  | .cluster x vs => s.takeCluster d x vs
  | .moveNote n bad src dst ds => s.takeMoveNote d n bad src dst ds
  | .ack _ | .notice _ | .journal _ => s

/-- A message goes on, or is acted on, in its destination (15 R372, R373). The journal points are read with the PARAM that
they accompany (log entry 14). -/
def State.receive (s : State) (m : Msg) : State :=
  if m.dst.toNat ≠ s.own then s.forward { m with hops := m.hops + 1 }
  else
    match m.body with
    | .ack last => (s.ackMsgs m.src.toNat last.toNat).afterAcks
    | .notice true => if s.following then s.takeHold else s
    | .notice false | .journal _ => s
    | _ => s.accept m fun s => s.actOn m

/-- A message carries a quarter of a relayed piece (15 R371, 16 R400; log entry 14). -/
def badPiece (m : Msg) : Bool :=
  match m.body with
  | .piece _ off bs => decide (bs.length ≠ 1024 ∨ off % 1024 ≠ 0 ∨ 4096 ≤ off)
  | _ => false

/-- A message arrives on a link port, flit by flit; it is acted on where the port has accepted every one (15 R369, R371). -/
def State.arrive (s : State) (a : Arrival) : Host.Outcome State Fault Refusal :=
  if badPiece a.msg = true ∨ a.links.length ≠ (msgFlits a.msg).length then .fault .malformedCommand
  else
    let (ok, s) := s.recvAllIn (hopClass a.msg) a.port.val (arrivalFlits a)
    .next (if ok then s.receive a.msg else s)

/-- SHIPPED_TICKET (13 R315, R317). -/
def execShippedTicket (m : Arrival) (s : State) : Host.Outcome State Fault Refusal := s.arrive m

/-- DIRECTORY_UPDATE (13 R335). -/
def execDirectoryUpdate (m : Arrival) (s : State) : Host.Outcome State Fault Refusal := s.arrive m

/-- WHOLE_DIRECTORY (15 R387). -/
def execWholeDirectory (m : Arrival) (s : State) : Host.Outcome State Fault Refusal := s.arrive m

/-- FENCE (13 R337). -/
def execFence (m : Arrival) (s : State) : Host.Outcome State Fault Refusal := s.arrive m

/-- END_TO_END_ACKNOWLEDGEMENT (15 R373). -/
def execEndToEndAcknowledgement (m : Arrival) (s : State) : Host.Outcome State Fault Refusal := s.arrive m

/-- MESSAGE_ROUTING (15 R372). -/
def execMessageRouting (m : Arrival) (s : State) : Host.Outcome State Fault Refusal := s.arrive m

/-- RELAYED_PIECE (16 R412). -/
def execRelayedPiece (m : Arrival) (s : State) : Host.Outcome State Fault Refusal := s.arrive m

/-- A destination is given up: its traffic and a relay toward it end (15 R373, 16 R412). -/
def State.lose (s : State) (t : Nat) : State := (s.giveUp t).relayLost t

/-- MESSAGE_RESEND: in order, or, without a route, the destination is unreachable (15 R373). -/
def execMessageResend (dst : BitVec 5) (s : State) : Host.Outcome State Fault Refusal :=
  .next (if (s.tr.unacked.filter fun e => e.1.dst == dst).isEmpty then s
    else if (s.routePort dst.toNat).isNone then s.lose dst.toNat
    else (s.tr.unacked.filter fun e => e.1.dst == dst).foldl (fun s e => s.forward e.1) s)

/-- UNREACHABLE (15 R373). -/
def execUnreachable (dst : BitVec 5) (s : State) : Host.Outcome State Fault Refusal :=
  .next (if dst.toNat = s.own then s else s.lose dst.toNat)

end Sys2Proof.Machine
end

