-- ==== Sys2Proof/Machine/KilnOps.lean ====
section
/-! DEFINITION. Requests to the Kiln: their encoding and checks, what each computes, and their completion
(14 R352-R358, R362). -/

namespace Sys2Proof.Machine

/-! ### Octets of physical memory -/

/-- The lines of a span of physical characters are opened in the package; an error where one cannot be read, a machine
check of class 3 then being told to the steward (14 R345). -/
def State.openSpan (s : State) (start len : Nat) : Except State State :=
  let first := start / 64
  let n := if len = 0 then 0 else (start + len - 1) / 64 - first + 1
  (List.range n).foldl
    (fun r i => r.bind fun s =>
      let pa := (first + i) * 16
      if !s.populated 64 pa then .error (s.mcheck 64 3 pgKiln)
      else
        match s.engineKey pa with
        | (none, s) => .error s
        | (some sl, s) =>
          match s.openFor pa sl with
          | some (true, s) => .ok s
          | some (false, s) => .error (s.engineUe pgKiln)
          | none => .error (s.mcheck 64 3 pgKiln)) (.ok s)

/-- The lines of a span leave the package where nothing holds them. -/
def State.leaveSpan (s : State) (start len : Nat) : State :=
  let first := start / 64
  let n := if len = 0 then 0 else (start + len - 1) / 64 - first + 1
  (List.range n).foldl (fun s i => s.leave (first + i)) s

/-- The characters of a physical span as numbers; none where a line cannot be read. -/
def State.spanChars (s : State) (start len : Nat) : Option (List Nat) × State :=
  match s.openSpan start len with
  | .error s => (none, s.leaveSpan start len)
  | .ok s =>
    let cs := (List.range len).map fun i => charOf (s.rd ((start + i) / 4)).w ((start + i) % 4)
    (some cs, s.leaveSpan start len)

/-- Octets written as characters with mark bit 0 over a physical span (14 R354). -/
def State.putOctets (s : State) (start : Nat) (os : List Nat) : State :=
  match s.openSpan start os.length with
  | .error s => s.leaveSpan start os.length
  | .ok s =>
    let s := os.zipIdx.foldl
      (fun s oi =>
        let a := start + oi.2
        s.wr (a / 4) { w := setChar (s.rd (a / 4)).w (a % 4) (oi.1 % 256), tag := false }) s
    let first := start / 64
    let n := if os.length = 0 then 0 else (start + os.length - 1) / 64 - first + 1
    ((List.range n).foldl (fun s i => s.invalidate 65 (first + i)) s).leaveSpan start os.length

/-! ### Random values -/

/-- n free octets (log entry 3). -/
def State.randomOctets (s : State) (n : Nat) : List Nat × State :=
  let (i, s) := s.drawN n
  ((List.range n).map fun k => Config.free (i + k) % 256, s)

/-- A free number from 1 to m - 1. -/
def State.randomBelow (s : State) (m : Nat) : Nat × State :=
  let (i, s) := s.draw
  (Config.free i % (m - 1) + 1, s)

/-- A request that needs random values is counted, and the source reseeded after 2^20 (14 R358). -/
def State.countRandom (s : State) : State :=
  { s with kiln := { s.kiln with requests := if s.kiln.requests + 1 ≥ 2 ^ 20 then 0 else s.kiln.requests + 1 } }

/-! ### Operations -/

/-- The operations of Table 14-5 by slot and OPC. -/
inductive KOp where
  | aes (dec : Bool)
  | gcm (opn : Bool)
  | sign
  | verify (k : Nat)
  | load
  | gen
  | clear
  | pub
  | hash (k : Nat)
  | mac (k : Nat)
  | crc (k : Nat)
  | random
  | reseed
  deriving DecidableEq, Repr

/-- The operation of a slot and OPC; none where Table 14-5 has none. -/
def kopOf (slot opc : Nat) : Option KOp :=
  match slot, opc with
  | 0, 0o001 => some (.aes false)
  | 0, 0o002 => some (.aes true)
  | 0, 0o003 => some (.gcm false)
  | 0, 0o004 => some (.gcm true)
  | 0, 0o010 => some .sign
  | 0, 0o011 => some (.verify 5)
  | 0, 0o012 => some (.verify 6)
  | 0, 0o013 => some (.verify 7)
  | 0, 0o020 => some .load
  | 0, 0o021 => some .gen
  | 0, 0o022 => some .clear
  | 0, 0o023 => some .pub
  | 1, 0o001 => some (.hash 0)
  | 1, 0o002 => some (.hash 1)
  | 1, 0o003 => some (.hash 2)
  | 1, 0o004 => some (.hash 3)
  | 1, 0o005 => some (.hash 4)
  | 1, 0o006 => some (.hash 5)
  | 1, 0o010 => some (.mac 0)
  | 1, 0o011 => some (.mac 1)
  | 1, 0o012 => some (.mac 2)
  | 2, 0o001 => some (.crc 0)
  | 2, 0o002 => some (.crc 1)
  | 3, 0o001 => some .random
  | 3, 0o002 => some .reseed
  | _, _ => none

/-- The operation names a key slot (14 Table 14-5). -/
def KOp.keyed : KOp → Bool
  | .aes _ | .gcm _ | .sign | .load | .gen | .clear | .pub | .mac _ => true
  | _ => false

/-- The operation needs CONFIGURE. -/
def KOp.configures : KOp → Bool
  | .load | .gen | .clear => true
  | _ => false

/-- The operation needs random values (14 R355, R358). -/
def KOp.needsRandom : KOp → Bool
  | .sign | .gen | .pub | .random => true
  | _ => false

/-- Octets of a key and of its wrapped form by KTYPE; 0 for a reserved type (14 Table 14-4). -/
def keyOctets (t : Nat) : Nat := [0, 96, 16, 32, 64, 32, 48, 32].getD t 0
def wrappedOctets (t : Nat) : Nat := if keyOctets t = 0 then 0 else keyOctets t + 8

/-- Octets of a public key and of a signature by KTYPE. -/
def pubOctets (t : Nat) : Nat := [0, 0, 0, 0, 0, 64, 96, 32].getD t 0
def sigOctets (t : Nat) : Nat := [0, 0, 0, 0, 0, 64, 96, 64].getD t 0

/-- Octets of a digest. -/
def hashOctets (k : Nat) : Nat := [32, 48, 64].getD (k % 3) 0

/-- A hash by its number in Table 14-5. -/
def hashOf (k : Nat) (m : List Nat) : List Nat :=
  match k with
  | 0 => sha256 m
  | 1 => sha384 m
  | 2 => sha512 m
  | 3 => sha3 32 m
  | 4 => sha3 48 m
  | _ => sha3 64 m

/-- The curve of an ECDSA key type. -/
def curveOf (t : Nat) : Curve := if t = 5 then p256 else p384

/-- The digest number of a message for an ECDSA key type (FIPS 186-5). -/
def digestOf (t : Nat) (m : List Nat) : Nat := beNat (if t = 5 then sha256 m else sha384 m)

/-- A private scalar out of range (14 R355 CHECK). -/
def badScalar (t : Nat) (k : List Nat) : Bool :=
  decide (t = 5 ∨ t = 6) && (decide (beNat k = 0) || decide ((curveOf t).n ≤ beNat k))

/-- The key types an operation accepts. -/
def KOp.accepts : KOp → Nat → Bool
  | .aes _, t | .gcm _, t => decide (t = 2 ∨ t = 3)
  | .sign, t | .pub, t => decide (5 ≤ t ∧ t ≤ 7)
  | .mac _, t => decide (t = 4)
  | _, _ => true

/-- The lengths of IN, AUX as read, OUT and AUX as written: x is LEN[0:10], n the input length, t the type of the
slot's key. IN holds all n octets, additional data among them (log entry 16). -/
def KOp.spans : KOp → Nat → Nat → Nat → Nat × Nat × Nat × Nat
  | .aes _, _, n, _ => (n, 0, 16, 0)
  | .gcm false, x, n, _ => (n, 12, n - x, 16)
  | .gcm true, x, n, _ => (n, 28, n - x, 0)
  | .sign, _, n, t => (n, 0, sigOctets t, 0)
  | .verify k, _, n, _ => (n, pubOctets k + sigOctets k, 0, 0)
  | .load, _, n, _ => (n, 0, 0, 0)
  | .gen, x, _, _ => (0, 0, wrappedOctets x, 0)
  | .clear, _, _, _ => (0, 0, 0, 0)
  | .pub, _, _, t => (0, 0, pubOctets t, 0)
  | .hash k, _, n, _ => (n, 0, hashOctets k, 0)
  | .mac k, _, n, _ => (n, 0, hashOctets k, 0)
  | .crc _, _, n, _ => (n, 0, 4, 0)
  | .random, _, n, _ => (0, 0, n, 0)
  | .reseed, _, _, _ => (0, 0, 0, 0)

/-- A length or KTYPE fault (14 R353, R355 RANGE). -/
def KOp.badLen : KOp → Nat → Nat → Bool
  | .aes _, x, n => decide (x ≠ 0 ∨ n ≠ 16)
  | .gcm _, x, n => decide (n < x ∨ 2 ^ 24 < n)
  | .load, x, n => decide (wrappedOctets x = 0 ∨ n ≠ wrappedOctets x)
  | .gen, x, n => decide (wrappedOctets x = 0 ∨ n ≠ 0)
  | .clear, x, n | .pub, x, n | .reseed, x, n => decide (x ≠ 0 ∨ n ≠ 0)
  | .random, x, n => decide (x ≠ 0 ∨ n = 0 ∨ 65536 < n)
  | _, x, n => decide (x ≠ 0 ∨ 2 ^ 24 < n)

/-- What an operation makes of its inputs: OUT, what goes to AUX, and the slot's new content; or a status. -/
structure KOut where
  out : List Nat
  aux : List Nat
  slot : Option KeySlot
  deriving DecidableEq, Repr

/-- Outputs alone. -/
def KOut.of (out : List Nat) (aux : List Nat := []) : KOut := { out, aux, slot := none }

/-- Status codes of a request (17 Table 17-3). -/
abbrev kRange : Nat := 2
abbrev kReserved : Nat := 3
abbrev kState : Nat := 0o10
abbrev kCheck : Nat := 0o15
abbrev kAbsent : Nat := 0o17

/-- A fresh key of a type. -/
def State.newKey (s : State) (t : Nat) : List Nat × State :=
  if t = 5 ∨ t = 6 then
    let (v, s) := s.randomBelow (curveOf t).n
    (beOctets (keyOctets t) v, s)
  else s.randomOctets (keyOctets t)

/-- A signature. -/
def State.signWith (s : State) (t : Nat) (key m : List Nat) : Option (List Nat) × State :=
  if t = 7 then (some (edSign key m), s)
  else
    let c := curveOf t
    let (k, s) := s.randomBelow c.n
    ((ecdsaSign c (beNat key) (digestOf t m) k).map fun p => beOctets c.octets p.1 ++ beOctets c.octets p.2, s)

/-- A public key. -/
def publicOf (t : Nat) (key : List Nat) : List Nat :=
  if t = 7 then edPublic key
  else
    let c := curveOf t
    match ecMul c (beNat key) (some (c.gx, c.gy)) with
    | some (x, y) => beOctets c.octets x ++ beOctets c.octets y
    | none => []

/-- A signature is valid. -/
def signatureOk (t : Nat) (aux m : List Nat) : Bool :=
  let pub := aux.take (pubOctets t)
  let sg := aux.drop (pubOctets t)
  if t = 7 then edVerify pub sg m
  else
    let o := (curveOf t).octets
    ecdsaVerify (curveOf t) (beNat (pub.take o)) (beNat (pub.drop o)) (digestOf t m) (beNat (sg.take o)) (beNat (sg.drop o))

/-- A key slot from octets. -/
def slotOfKey (t : Nat) (k : List Nat) : KeySlot := { st := 1, ktype := t, octets := k.map (BitVec.ofNat 8) }

/-- The key-encryption key as numbers. -/
def State.kekNats (s : State) : List Nat := (s.kiln.kek.getD []).map BitVec.toNat

/-- What an operation computes from its inputs (14 Table 14-5): x is LEN[0:10], n the length, t and key the slot's. -/
def State.runOp (s : State) (op : KOp) (x n t : Nat) (key inp aux : List Nat) : Except Nat KOut × State :=
  match op with
  | .aes dec => (.ok (.of (if dec then aesDec key inp else aesEnc key inp)), s)
  | .gcm false =>
    let c := xorOctets (gcmStream key (aux.take 12) (inp.drop x)) (inp.drop x)
    (.ok (.of c (gcmTag key (aux.take 12) (inp.take x) c)), s)
  | .gcm true =>
    let c := inp.drop x
    if gcmTag key (aux.take 12) (inp.take x) c = aux.drop 12 then
      (.ok (.of (xorOctets (gcmStream key (aux.take 12) c) c)), s)
    else (.error kCheck, s)
  | .sign =>
    match s.signWith t key inp with
    | (some o, s) => (.ok (.of o), s)
    | (none, s) => (.error kCheck, s)
  | .verify k => if signatureOk k aux inp then (.ok (.of []), s) else (.error kCheck, s)
  | .load =>
    match kwUnwrap s.kekNats inp with
    | some k => if badScalar x k then (.error kCheck, s) else (.ok { out := [], aux := [], slot := some (slotOfKey x k) }, s)
    | none => (.error kCheck, s)
  | .gen =>
    let (k, s) := s.newKey x
    (.ok { out := kwWrap s.kekNats k, aux := [], slot := some (slotOfKey x k) }, s)
  | .clear => (.ok { out := [], aux := [], slot := some KeySlot.empty }, s)
  | .pub => (.ok (.of (publicOf t key)), s)
  | .hash k => (.ok (.of (hashOf k inp)), s)
  | .mac k => (.ok (.of (hmac (hashOf k) (if k = 0 then 64 else 128) key inp)), s)
  | .crc k => (.ok (.of (beOctets 4 (crcRefl (if k = 0 then 0xEDB88320 else 0x82F63B78) inp))), s)
  | .random =>
    let (os, s) := s.randomOctets n
    (.ok (.of os), s)
  | .reseed => (.ok (.of []), { s with kiln := { s.kiln with drbgOk := true, requests := 0 } })

/-- The status of a request, in the order ABSENT, STATE, RANGE, RESERVED, CHECK (14 R355; log entry 16), or its
outputs. -/
def State.kilnResult (s : State) (r : KReq) (op : KOp) : Except Nat KOut × State :=
  let x := r.len / 2 ^ 25
  let n := r.len % 2 ^ 25
  let k := s.slotOf r.keySlot
  let load : Bool := op == KOp.load || op == KOp.gen
  if op.keyed && r.lost then (.error kAbsent, s)
  else if load && (s.kiln.kek.isNone || (r.fail.isNone && decide (k.st ≠ 2))) then (.error kAbsent, s)
  else if op.keyed && !load && decide (k.st ≠ 1) then (.error kAbsent, s)
  else if r.fail = some kState ∨ op.accepts k.ktype = false then (.error kState, s)
  else
    match r.fail with
    | some c => (.error c, s)
    | none =>
      if op.badLen x n then (.error kRange, s)
      else
        let (a, s) := s.spanChars (r.inp.getD 0 0) (r.inp.getD 1 0)
        let (b, s) := s.spanChars (r.aux.getD 0 0) (r.aux.getD 1 0)
        match a, b with
        | some a, some b =>
          if (a ++ b).any (256 ≤ ·) then (.error kReserved, s)
          else if op.needsRandom && !s.kiln.drbgOk then (.error kCheck, s)
          else
            (if op.needsRandom then s.countRandom else s).runOp op x n k.ktype (k.octets.map BitVec.toNat) a b
        | _, _ => (.error kCheck, s)

/-- The outstanding requests on the key slots of `which` lose their key (14 R362). -/
def State.loseSlots (s : State) (which : Nat → Bool) : State :=
  { s with cores := s.cores.map fun (e : Nat × Core) =>
      (e.1, match e.2.kreq with
        | some r => if which r.keySlot then { e.2 with kreq := some { r with lost := true } } else e.2
        | none => e.2) }

/-- A slot's content replaced; where that empties it, the requests outstanding on it have lost their key (14 R362). -/
def State.setSlot (s : State) (n : Nat) (k : KeySlot) : State :=
  let s := if k.st = 0 then s.loseSlots (· == n) else s
  { s with kiln := { s.kiln with slots := tset KeySlot.empty s.kiln.slots n k } }

/-- The outstanding request of core n completes: outputs are written and its status stands for collection
(14 R355, R356). -/
def State.kilnComplete (s : State) (n : Nat) : State :=
  match (s.core n).kreq with
  | none => s
  | some r =>
    match r.status, kopOf r.slot r.opc with
    | none, some op =>
      let (res, s) := s.kilnResult r op
      let (code, s) := match res with
        | .ok o =>
          let s := s.putOctets (r.out.getD 0 0) o.out
          let s := s.putOctets (r.aux.getD 0 0 + 12) o.aux
          (0, match o.slot with
            | some k => s.setSlot r.keySlot k
            | none => s)
        | .error c =>
          (c, if r.fail.isNone ∧ (op = KOp.load ∨ op = KOp.gen) ∧ (s.slotOf r.keySlot).st = 2 then s.setSlot r.keySlot .empty
            else s)
      s.modCore n fun k => { k with kreq := some { r with status := some code } }
    | _, _ => s

/-! ### The instructions -/

/-- The encoding of AX to slots 0 to 3 (14 R353). -/
def kilnIns (slot opc : Nat) (keyed : Bool) (o : LA) : Ins :=
  { insLA slot opc o with
    fields := [(8, !keyed && decide (nat o.ra ≠ 0)), (31, decide (nat o.mod ≠ 0))]
    regs := [(13, nat o.rb), (26, nat o.rc)]
    toks := if keyed then [(8, nat o.ra)] else []
    grp := if keyed && decide (nat o.ra ≠ 0) then 1 else 0 }

/-- The checks of a whole span at a character pointer under the current domain: its first physical character, and
whether it crosses a page. Of a span that meets a frame above DRAM nothing is done, and the class 3 machine check comes
first (11 R269; 14 R353, R355). -/
def spanCheck (n : Nat) (kind : AKind) (sub : Nat) (p : Word) (len : Nat) : M (Nat × Bool) := do
  let dom := (← getC n).domTok
  let va := ptrWord p
  let words := (ptrNib p + len + 3) / 4
  if len = 0 then return (0, false)
  let reach (off : Nat) : M Phys := do
    let p ← access n dom kind sub storeOpt ((va + off) % 2 ^ 32) 6 off
    if p.bad then await .microTrap
    return p
  let first ← reach 0
  let more := (List.range ((va % 2048 + words - 1) / 2048)).map fun i => (i + 1) * 2048 - va % 2048
  for off in more do
    let _ ← reach off
  let size := match (← getC n).lookup kind va dom.dom with
    | some e => tlbSpan e.size
    | none => 11
  return (first.pa * 4 + ptrNib p, decide (va / 2 ^ size ≠ (va + words - 1) / 2 ^ size))

/-- G[RC] and the flags from a status (14 R355). -/
def Core.kilnStatus (k : Core) (rc code : Nat) : Core :=
  (k.setG rc (fld 27 35 code)).setFlags (some false) (some (decide (code = 0))) (some false) none

/-- An AX to slots 0 to 3 (14 R353-R356). -/
def kilnAx (slot opc : Nat) (c : CoreId) (o : LA) : State → Host.Outcome State Fault Refusal :=
  match kopOf slot opc with
  | none => issue c (Ins.long 0 0) (raise 3 0 0)
  | some op => issue c (kilnIns slot opc op.keyed o) do
      let n := c.val
      let k ← getC n
      let collect : Option KReq := k.kreq
      match collect with
      | some r =>
        if r.pc = k.pc ∧ r.bank = k.bank ∧ r.slot = slot ∧ r.opc = opc then
          if r.status.isNone then await (α := Unit) .kiln
          modC n fun k => ({ k with kreq := none }).kilnStatus (nat o.rc) (r.status.getD 0)
          return .seq
        if r.status.isNone then await (α := Unit) .kiln
        modC n fun k => { k with kreq := none }
      | none => pure ()
      let t := k.tok (nat o.ra)
      if op.keyed then
        useToken t (nat o.ra) 0 5
        if !(if op.configures then t.configure else t.use) then raise 5 0 (nat o.ra)
      let p := k.g (nat o.rb)
      if ptrNib p ≠ 0 then alignFault 1 (nat o.rb)
      let w ← (List.range 4).mapM fun i => do
        return (← readWord n ((ptrWord p + i) % 2 ^ 32) 1 i).w
      let len := w.getD 1 0
      let ks := if op.keyed then bits t.a 24 35 else 0
      let slotNow := (← get).slotOf ks
      let (li, la, lo, lw) := op.spans (bits len 0 10) (bits len 11 35) slotNow.ktype
      let (pin, pout, paux) := (w.getD 0 0, w.getD 2 0, w.getD 3 0)
      if (li ≠ 0 ∧ 3 < ptrNib pin) ∨ (lo ≠ 0 ∧ 3 < ptrNib pout) ∨ (la + lw ≠ 0 ∧ 3 < ptrNib paux) then
        alignFault 1 (nat o.rb)
      let (i, x1) ← spanCheck n .read 2 pin li
      let (a, x2) ← spanCheck n .read 2 paux la
      let (_, x3) ← spanCheck n .write 3 paux (if lw = 0 then 0 else 12 + lw)
      let (u, x4) ← spanCheck n .write 3 pout lo
      let load : Bool := op == KOp.load || op == KOp.gen
      let fail : Option Nat :=
        if load && decide (slotNow.st ≠ 0) then some kState
        else if x1 || x2 || x3 || x4 then some kRange
        else if load && decide (ks = 0) then some kAbsent
        else none
      if load && fail.isNone then modify (·.setSlot ks { st := 2, ktype := 0, octets := [] })
      let req : KReq :=
        { pc := k.pc, bank := k.bank, slot, opc, keySlot := ks, len := len.toNat, inp := [i, li], out := [u, lo]
          aux := [a, la], fail, lost := false, status := none }
      modC n fun k => { k with kreq := some req }
      await .kiln

end Sys2Proof.Machine
end

