-- ==== Sys2Proof/Machine/Kiln.lean ====
section
/-! DEFINITION. The adjunct instructions, the Kiln's commands, the counter refresh and the tamper response
(14 R341, R344, R347-R363; 19 R469, R470). -/

namespace Sys2Proof.Machine

/-! ### AX to slots 0 to 3 (14 R353-R357) -/

/-- AESE. -/
def execAese (c : CoreId) (o : LA) : State → Host.Outcome State Fault Refusal := kilnAx 0 0o001 c o

/-- AESD. -/
def execAesd (c : CoreId) (o : LA) : State → Host.Outcome State Fault Refusal := kilnAx 0 0o002 c o

/-- GCMS. -/
def execGcms (c : CoreId) (o : LA) : State → Host.Outcome State Fault Refusal := kilnAx 0 0o003 c o

/-- GCMO. -/
def execGcmo (c : CoreId) (o : LA) : State → Host.Outcome State Fault Refusal := kilnAx 0 0o004 c o

/-- SIGN. -/
def execSign (c : CoreId) (o : LA) : State → Host.Outcome State Fault Refusal := kilnAx 0 0o010 c o

/-- VERP256. -/
def execVerp256 (c : CoreId) (o : LA) : State → Host.Outcome State Fault Refusal := kilnAx 0 0o011 c o

/-- VERP384. -/
def execVerp384 (c : CoreId) (o : LA) : State → Host.Outcome State Fault Refusal := kilnAx 0 0o012 c o

/-- VERED. -/
def execVered (c : CoreId) (o : LA) : State → Host.Outcome State Fault Refusal := kilnAx 0 0o013 c o

/-- KLOAD. -/
def execKload (c : CoreId) (o : LA) : State → Host.Outcome State Fault Refusal := kilnAx 0 0o020 c o

/-- KGEN. -/
def execKgen (c : CoreId) (o : LA) : State → Host.Outcome State Fault Refusal := kilnAx 0 0o021 c o

/-- KCLR. -/
def execKclr (c : CoreId) (o : LA) : State → Host.Outcome State Fault Refusal := kilnAx 0 0o022 c o

/-- KPUB. -/
def execKpub (c : CoreId) (o : LA) : State → Host.Outcome State Fault Refusal := kilnAx 0 0o023 c o

/-- SHA-256. -/
def execSha256 (c : CoreId) (o : LA) : State → Host.Outcome State Fault Refusal := kilnAx 1 0o001 c o

/-- SHA-384. -/
def execSha384 (c : CoreId) (o : LA) : State → Host.Outcome State Fault Refusal := kilnAx 1 0o002 c o

/-- SHA-512. -/
def execSha512 (c : CoreId) (o : LA) : State → Host.Outcome State Fault Refusal := kilnAx 1 0o003 c o

/-- SHA3-256. -/
def execSha3x256 (c : CoreId) (o : LA) : State → Host.Outcome State Fault Refusal := kilnAx 1 0o004 c o

/-- SHA3-384. -/
def execSha3x384 (c : CoreId) (o : LA) : State → Host.Outcome State Fault Refusal := kilnAx 1 0o005 c o

/-- SHA3-512. -/
def execSha3x512 (c : CoreId) (o : LA) : State → Host.Outcome State Fault Refusal := kilnAx 1 0o006 c o

/-- HMAC with SHA-256. -/
def execHmacSha256 (c : CoreId) (o : LA) : State → Host.Outcome State Fault Refusal := kilnAx 1 0o010 c o

/-- HMAC with SHA-384. -/
def execHmacSha384 (c : CoreId) (o : LA) : State → Host.Outcome State Fault Refusal := kilnAx 1 0o011 c o

/-- HMAC with SHA-512. -/
def execHmacSha512 (c : CoreId) (o : LA) : State → Host.Outcome State Fault Refusal := kilnAx 1 0o012 c o

/-- CRC-32. -/
def execCrc32 (c : CoreId) (o : LA) : State → Host.Outcome State Fault Refusal := kilnAx 2 0o001 c o

/-- CRC-32C. -/
def execCrc32c (c : CoreId) (o : LA) : State → Host.Outcome State Fault Refusal := kilnAx 2 0o002 c o

/-- RAND. -/
def execRand (c : CoreId) (o : LA) : State → Host.Outcome State Fault Refusal := kilnAx 3 0o001 c o

/-- RESEED. -/
def execReseed (c : CoreId) (o : LA) : State → Host.Outcome State Fault Refusal := kilnAx 3 0o002 c o

/-- KILN_REQUEST_COMPLETION (14 R356). -/
def execKilnRequestCompletion (c : CoreId) (s : State) : Host.Outcome State Fault Refusal :=
  .next (s.kilnComplete c.val)

/-! ### The Adjunct (19 R470) -/

/-- A slot of the Adjunct can be asked: its bit is set and the port is UP. -/
def State.adjunctHas (s : State) (slot : Nat) : Bool :=
  bit (s.preg pgAdj 0o020) (28 + slot) && decide ((s.port 8).st = psUp)

/-- G[RC], G[RC+1] and the flags from a response (19 R470). -/
def Core.adjunctResult (k : Core) (rc : Nat) (r : Nat × Word × Word) : Core :=
  (if r.1 = 0 then (k.setG rc r.2.1).setG (rc + 1) r.2.2
    else (k.setG rc (fld 27 35 r.1)).setG (rc + 1) 0).setFlags (some false) (some (decide (r.1 = 0))) (some false) none

/-- AX to slots 4 to 7 (19 R470; 12 R295; 14 R356). The steward's number does not fit the flit, so it finds no unit
(log entry 17). -/
def execAx (c : CoreId) (slot : Fin 4) (opc : BitVec 8) (o : LA) : State → Host.Outcome State Fault Refusal :=
  let i := insLA (4 + slot.val) (nat opc) o
  issue c
    { i with
      fields := [(26, decide (nat o.rc % 2 ≠ 0))]
      regs := [(8, nat o.ra), (13, nat o.rb), (26, nat o.rc)]
      more := [nat o.rc + 1] } do
    let n := c.val
    let k ← getC n
    let wanted : Option AReq := k.areq
    match wanted with
    | some r =>
      let mine := decide (r.pc = k.pc) && decide (r.bank = k.bank)
      if r.late then
        modC n fun k => { k with areq := none }
        if mine then raise (α := Unit) 21 0 (4 + slot.val)
      else
        match r.rsp with
        | none => await (α := Unit) .adjunct
        | some x =>
          modC n fun k => { k with areq := none }
          if mine then
            modC n fun k => k.adjunctResult (nat o.rc) x
            return .seq
    | none => pure ()
    if !(← get).adjunctHas slot.val || decide (n = 64) then raise (α := Unit) 21 0 (4 + slot.val)
    needEmpty n
    let w0 := fld 0 1 slot.val ||| fld 2 9 (nat opc) ||| fld 10 15 n ||| fld 16 20 (nat o.mod)
    modify (·.sendFlits 8 [mkFlit 0o030 w0 (k.g (nat o.ra)) (k.g (nat o.rb)) 0])
    let req : AReq := { pc := k.pc, bank := k.bank, rsp := none, late := false }
    modC n fun k => { k with areq := some req }
    await .adjunct

/-- ARSP: a response that the Adjunct port accepts completes the waiting request, or is discarded as late (19 R469,
R470). -/
def execArsp (f : Flit) (s : State) : Host.Outcome State Fault Refusal :=
  let (ok, s) := s.recvReplayed 8 f
  let n := bits f.w0 10 15
  if !ok then .next s
  else
    match (s.core n).areq with
    | some r =>
      if r.late = true ∨ r.rsp.isSome = true then .next (s.bump pgAdj 0o023 1)
      else .next (s.modCore n fun k => { k with areq := some { r with rsp := some (bits f.w0 27 35, f.w1, f.w2) } })
    | none => .next (s.bump pgAdj 0o023 1)

/-- AINT: an interrupt flit that the Adjunct port accepts (19 R469, R470). -/
def execAint (f : Flit) (s : State) : Host.Outcome State Fault Refusal :=
  let (ok, s) := s.recvReplayed 8 f
  .next (if ok then s.pendInt (bits f.w0 10 15) (40 + bits f.w0 33 35) else s)

/-- No ARSP within 10 µs (19 R470). -/
def execAdjunctTimeout (c : CoreId) (s : State) : Host.Outcome State Fault Refusal :=
  match (s.core c.val).areq with
  | some r =>
    if r.rsp.isSome = true ∨ r.late = true then .next s
    else .next ((s.bump pgAdj 0o022 1).modCore c.val fun k => { k with areq := some { r with late := true } })
  | none => .next s

/-! ### Group refresh (14 R347) -/

/-- GROUP_REFRESH: the refresh that is due runs, and the lines that waited for it are sealed (14 R347). -/
def execGroupRefresh (group : BitVec 13) (s : State) : Host.Outcome State Fault Refusal :=
  if s.kiln.refresh = some (nat group) then
    let s := s.groupRefresh (nat group)
    let s := { s with kiln := { s.kiln with refresh := none } }
    .next ((s.opened.map (·.1)).foldl State.leave s)
  else .next s

/-! ### The window (14 R341) -/

/-- Some group is formatted. -/
def State.anyFormatted (s : State) : Bool := s.kiln.root.any fun e => e.2.fmt

/-- The rules of group WINDOW on its three values (14 R341). -/
def State.windowCode (s : State) (base frames sr : Nat) : Nat :=
  let last := sr + frames / 8 + frames / 512
  if frames < 512 ∨ 4194304 < frames ∨ (sr < base + frames ∧ base < last) ∨ s.installed < (base + frames) * 2048 ∨
      s.installed < last * 2048 then kRange
  else if base % 512 ≠ 0 ∨ frames % 512 ≠ 0 then cAlign
  else 0

/-- COMMIT of group WINDOW (14 R341). -/
def State.commitWindow (s : State) : Answer :=
  let (b, n, r) := (s.shadowReg pgKiln 0o021, s.shadowReg pgKiln 0o022, s.shadowReg pgKiln 0o023)
  if s.anyFormatted then (cBusy, s)
  else
    match s.windowCode b.toNat n.toNat r.toNat with
    | 0 => (0, ((s.setPreg pgKiln 0o021 b).setPreg pgKiln 0o022 n).setPreg pgKiln 0o023 r)
    | code => (code, s)

/-- The Kiln's live window breaks a rule of its group, as direct writes can leave it (17 R422). -/
def State.windowSkewed (s : State) : Bool :=
  bit (s.preg pgKiln 7) 35 && decide (s.windowCode s.swBase s.swFrames s.srBase ≠ 0)

/-! ### Kiln commands (14 R348) -/

/-- KCSTAT of a command (14 Table 14-1). -/
def State.kcstat (s : State) (stat op code : Nat) : State :=
  s.setPreg pgKiln 0o027 (fld 0 2 stat ||| fld 3 5 op ||| fld 27 35 code)

/-- The groups a command names, first and count. -/
def State.groupRange (s : State) (a0 a1 : Word) : Option (List Nat) :=
  if a0.toNat + a1.toNat ≤ s.swFrames / 512 then some ((List.range a1.toNat).map (a0.toNat + ·)) else none

/-- The checks of INIT on its frame (14 Table 14-4a). -/
def State.initCode (s : State) (f : Nat) : Nat :=
  if s.inWindow f = false then kRange
  else if (s.rootOf (s.groupOf f)).fmt = false ∨ (s.placed f).isSome = true then kState
  else if (s.lockOf f).isSome then cBusy
  else if s.slotEmpty (s.sealFor f) then kAbsent
  else 0

/-- What can be checked of a command when it is written (14 R348, Table 14-4a). -/
def State.kcmdCode (s : State) (op : Nat) (a0 a1 : Word) : Nat :=
  match op with
  | 1 =>
    match s.groupRange a0 a1 with
    | none => kRange
    | some gs => if gs.any fun g => (s.rootOf g).fmt then kState else 0
  | 2 => s.initCode (bits a0 7 35)
  | 3 =>
    match s.initCode (bits a0 7 35) with
    | 0 => if s.slotEmpty (bits a1 24 35) then kAbsent else 0
    | c => c
  | 4 =>
    match s.groupRange a0 a1 with
    | none => kRange
    | some gs =>
      if s.mal.home.any fun e => s.inWindow e.1 && gs.contains (s.groupOf e.1) then cBusy else 0
  | _ => if s.kiln.kek.isSome || s.kiln.zLow then kState else 0

/-- A write of KCMD: the command starts on KARG0 and KARG1 (14 R348). -/
def State.wrKcmd (s : State) (op : Nat) : Answer :=
  let a0 := s.preg pgKiln 0o025
  let a1 := s.preg pgKiln 0o026
  if op = 0 ∨ 6 ≤ op then (kReserved, s)
  else if s.kiln.cmd.isSome then (cBusy, s)
  else if op ≠ 5 ∧ s.windowSkewed = true then
    (6, ((s.orPreg pgKiln 2 (fld 34 34 1)).orPreg pgKiln 3 (fld 34 34 1)).log 11 pgKiln 0 0)
  else
    match s.kcmdCode op a0 a1 with
    | 0 => (0, ({ s with kiln := { s.kiln with cmd := some (op, a0, a1) } }).kcstat 1 op 0)
    | code => (code, s)

/-- The cached copies of a line, and its open cells, are dropped. -/
def State.forget (s : State) (line : Nat) : State := (s.invalidate 65 line).dropOpen line

/-- A sealed frame's lines become zero words under counters 0 (14 Table 14-4a INIT). -/
def State.initFrame (s : State) (f : Nat) : State :=
  let sl := s.sealFor f
  let s := (List.range 128).foldl (fun s j => s.forget (f * 128 + j)) s
  (List.range 128).foldl (fun s j => s.sealLine (f * 128 + j) sl (List.replicate 16 Cell.zero)) (s.zeroMins f 0)

/-- One group formatted: a new SALT, counters 0, every sealed frame whose slot is loaded initialised (log entry 16). -/
def State.formatGroup (s : State) (g : Nat) : State :=
  let (i, s) := s.draw
  let s := { s with
    kiln := { s.kiln with
      root := tset Root.empty s.kiln.root g { fmt := false, gctr := 0, salt := Config.free i % 2 ^ 36 }
      fnodes := s.kiln.fnodes.filter fun (n : FNode) => s.groupOf n.frame != g } }
  let s := (s.roomG g).putG { group := g, fctrs := [], dirty := true }
  let s := (List.range 512).foldl
    (fun s k =>
      let f := s.swBase + 512 * g + k
      if s.slotEmpty (s.sealFor f) then s else s.initFrame f) s
  { s with kiln := { s.kiln with root := tset Root.empty s.kiln.root g { s.rootOf g with fmt := true } } }

/-- The group and frame nodes of released groups leave the node cache, and FMT is 0 (14 Table 14-4a RELEASE). -/
def State.releaseGroup (s : State) (g : Nat) : State :=
  { s with
    kiln := { s.kiln with
      root := tset Root.empty s.kiln.root g { s.rootOf g with fmt := false }
      gnodes := s.kiln.gnodes.filter fun (n : GNode) => n.group != g
      fnodes := s.kiln.fnodes.filter fun (n : FNode) => s.groupOf n.frame != g } }

/-- RESEAL's work: read under the old slot, SEAL set in the key record, whose tag clears, written under the new one
(14 Table 14-4a; 02 R33). -/
def State.resealFrame (s : State) (f sl : Nat) : Except State State :=
  (s.openFrame f).map fun s =>
    let s := s.kcDrop f
    let pa := s.ktAddr f
    let c := s.rd pa
    let s := s.wr pa { w := setBits c.w 8 19 sl, tag := false }
    let s := { s with
      opened := s.opened.map fun e => if e.1 / 128 = f then (e.1, true) else e }
    (List.range 128).foldl (fun s j => (s.invalidate 65 (f * 128 + j)).kilnClose (f * 128 + j)) s

/-- KEKLOAD's work: 32 octets from 8 words, which become zero; the code (14 R351, R354). -/
def State.loadKek (s : State) (line : Nat) : Answer :=
  if !s.populated 64 (line * 16) then (kAbsent, s)
  else
    match s.spanChars (line * 64) 32 with
    | (none, s) => (cCheck, s)
    | (some cs, s) =>
      if cs.any (256 ≤ ·) then (kReserved, s)
      else
        let s := (List.range 8).foldl (fun s i => s.engineWrite (line * 16 + i) 0) s
        (0, { s with kiln := { s.kiln with kek := some (cs.map (BitVec.ofNat 8)) } })

/-- A running command's work and its code. -/
def State.runKcmd (s : State) (op : Nat) (a0 a1 : Word) : Answer :=
  match s.kcmdCode op a0 a1 with
  | 0 =>
    let gs := (s.groupRange a0 a1).getD []
    let f := bits a0 7 35
    match op with
    | 1 => (0, gs.foldl State.formatGroup s)
    | 2 =>
      match s.fetchG (s.groupOf f) with
      | some s => (0, s.initFrame f)
      | none => (cCheck, s.macFail.engineUe pgKiln)
    | 3 =>
      match s.resealFrame f (bits a1 24 35) with
      | .ok s => (0, s)
      | .error s => (cCheck, s.engineUe pgKiln)
    | 4 => (0, gs.foldl State.releaseGroup s)
    | _ => s.loadKek a0.toNat
  | code => (code, s)

/-- KILN_COMMAND_COMPLETION (14 R348). -/
def execKilnCommandCompletion (s : State) : Host.Outcome State Fault Refusal :=
  match s.kiln.cmd with
  | none => .next s
  | some (op, a0, a1) =>
    let (code, s) := s.runKcmd op a0 a1
    .next (({ s with kiln := { s.kiln with cmd := none } }).kcstat (if code = 0 then 2 else 3) op code)

/-! ### Random source and tamper response (14 R358-R363) -/

/-- A health test of the random source fails (14 R358). -/
def execHealthTestFailure (s : State) : Host.Outcome State Fault Refusal :=
  .next (({ s with kiln := { s.kiln with drbgOk := false } }).kev 31)

/-- Frame moves that need the Kiln are abandoned before the home changes (14 R362). -/
def State.abandonSealedMoves (s : State) : State :=
  let gone := s.mal.running.filter fun m => s.sealFor m.frame != 0
  let s := { s with mal := { s.mal with running := s.mal.running.filter fun m => s.sealFor m.frame == 0 } }
  gone.foldl (fun s m => (s.moveEvent 7 m).endCommand m cAbsent) s

/-- Cluster memories, L1 caches and store buffers cleared (14 R360). -/
def State.clearCopies (s : State) : State :=
  let cores := s.cores.map fun (e : Nat × Core) =>
    (e.1, if e.1 < 64 then { e.2 with dcache := [], icache := [], sb := [] } else e.2)
  { s with
    cores := cores.filter fun e => e.2 ≠ Core.initial e.1
    opened := []
    clear := []
    dram := s.dram.filter fun e => (s.placed (e.1 / 2048)).isNone }

/-- Tamper stop (14 R360). -/
def State.tamperStop (s : State) : State :=
  let s := ((List.range 64).foldl (fun s n => s.resetCore n) s.releaseHold).clearCopies
  { s with kiln := { s.kiln with tstop := true }, sys := 8 }

/-- Zeroize, for the input at a bit of TAMP_STAT (14 R360-R363). A zeroize clears the enables that were set. -/
def State.zeroize (s : State) (b : Nat) : State :=
  let s := match s.kiln.cmd with
    | some (op, _, _) => s.kcstat 3 op kAbsent
    | none => s
  let s := s.abandonSealedMoves
  let (i, s) := s.drawN 32
  let s := s.loseSlots fun n => n != 0
  let s := { s with
    kiln := { s.kiln with
      slots := [], kek := none, ktree := freeOctets i 32, root := [], fnodes := [], gnodes := [], cmd := none, refresh := none
      requests := 0 } }
  let s := (((s.orPreg pgKiln 0o037 (fld b b 1)).bump pgKiln 0o040 1).setPregF pgKiln 0o036 28 34 0).kev 33
  let s := s.log 5 pgKiln 0 0
  if bit (s.preg pgKiln 0o036) 35 && s.pins.pwrGood && !s.kiln.tstop then s.tamperStop else s

/-- An input watched under an enable fires (14 R359). -/
def State.tamperInput (s : State) (b : Nat) (watched : Bool) : State :=
  if bit (s.preg pgKiln 0o036) b && watched then s.zeroize b else s

/-- TAMPER_MESH (14 R359). -/
def execTamperMesh (pair : Fin 4) (s : State) : Host.Outcome State Fault Refusal :=
  .next (s.tamperInput (28 + pair.val) true)

/-- The pattern driven on the meshes changes: a free value (14 R359; log entry 3). -/
def execMeshPatternChange (s : State) : Host.Outcome State Fault Refusal :=
  let (i, s) := s.draw
  .next { s with kiln := { s.kiln with mesh := i } }

/-- The key-encryption key is lost where VBAT_TAMPER leaves its range without main power; the next start finds it so (14
R351; log entry 51). -/
def State.loseBattery (s : State) : State :=
  { s with kiln := { s.kiln with kek := none, battLost := s.kiln.battLost || s.kiln.kek.isSome } }

/-- VOLTAGE_DETECTOR: VBAT_TAMPER alone is watched without main power, and holds the key-encryption key then (14 R351,
R359). -/
def execVoltageDetector (vbat : Bool) (s : State) : Host.Outcome State Fault Refusal :=
  let s := s.tamperInput 32 (vbat || s.pins.pwrGood)
  .next (if vbat && !s.pins.pwrGood then s.loseBattery else s)

/-- CLOCK_DETECTOR: the oscillator alone is watched without main power (14 R359). -/
def execClockDetector (refclk : Bool) (s : State) : Host.Outcome State Fault Refusal :=
  .next (s.tamperInput 33 (!refclk || s.pins.pwrGood))

/-- TEMPERATURE_DETECTOR (14 R359). -/
def execTemperatureDetector (s : State) : Host.Outcome State Fault Refusal := .next (s.tamperInput 34 true)

/-- ZEROIZE_N held low for 1 µs (14 R359, R360). -/
def execZeroizeN (s : State) : Host.Outcome State Fault Refusal :=
  .next (({ s with kiln := { s.kiln with zLow := true } }).zeroize 35)

/-- ZEROIZE_N returns high (14 R360). -/
def execZeroizeNRelease (s : State) : Host.Outcome State Fault Refusal :=
  .next { s with kiln := { s.kiln with zLow := false } }

/-- A write of TAMP_CTL: a set enable cannot be cleared (14 R363). -/
def State.wrTampCtl (s : State) (v : Word) : Answer :=
  if (List.range 7).any fun i => bit (s.preg pgKiln 0o036) (28 + i) && !bit v (28 + i) then (cLocked, s)
  else (0, s.setPreg pgKiln 0o036 v)

end Sys2Proof.Machine
end

