-- ==== Sys2Proof/Machine/Start.lean ====
section
/-! DEFINITION. Resets and the way from reset to ready (07 R173-R177; 15 R364, R386, R389; 16 R394, R410; 17 R430; 18
R432-R439, R448; 19 R455, R456). -/

namespace Sys2Proof.Machine

/-! ### What a reset leaves -/

/-- The parts a reset of the device spares (18 Table 18-2): the always-on island, DRAM, TWIN_HOLD, DRAM_CLK. -/
structure Spared where
  island : Bool
  ram : Bool
  hold : Bool
  rate : Bool
  deriving DecidableEq, Repr

/-- Power-on reset, a warm reset, and PWR_GOOD falling (18 R432, R433). -/
def Spared.powerOn : Spared := { island := false, ram := false, hold := false, rate := false }
def Spared.warm : Spared := { island := true, ram := true, hold := true, rate := true }
def Spared.powerLoss : Spared := { island := true, ram := false, hold := false, rate := false }

/-- A stored control page register that a reset spares (17 R415, R424, R429; 18 Table 18-2). -/
def Spared.keeps (x : Spared) (k : Nat) : Bool :=
  let page := k / 256
  let off := k % 256
  (decide (page = pgKiln) && decide (0o036 ≤ off) && decide (off ≤ 0o040)) ||
    (x.island && (decide (off = 3) || (decide (page = pgSticky) && decide (16 ≤ off)))) ||
    (x.rate && decide (page = pgPower) && decide (off = 0o062))

/-- Power and clocks after a reset: what is measured stays, SR_CLK runs on with the island. -/
def Power.restart (p : Power) (island : Bool) : Power :=
  { Power.reset with
    rails := p.rails, temps := p.temps, sampled := p.sampled
    us := if island then p.us else 0
    watch := island && p.watch
    fatalTherm := island && p.fatalTherm }

/-- The steward held in reset. -/
def Core.stewardHeld : Core := { Core.steward with run := .reset }

/-- DRC_STATE.RATE of every controller shows the DRAM_CLK that a warm reset keeps (18 Table 18-2, 19 Table 19-1). -/
def State.carryRate (s : State) : State :=
  (List.range 8).foldl (fun r c => r.setPregF (pgDram c) 0o020 30 31 (bits (s.preg pgPower 0o062) 34 35)) s

/-- The device reset, its steward held (18 R432-R434): MRAM, fuses and the battery domain are always spared. -/
def State.restart (s : State) (x : Spared) : State :=
  let s := if x.rate then s.applyStaged pgPower 9 else s
  let fired := bit (s.preg pgTimer 0o052) 34
  let r : State := { State.reset with
    pending := s.pending
    free := s.free + 32
    cores := [(64, Core.stewardHeld)]
    dram := if x.ram then s.dram.filter fun e => (s.placed (e.1 / 2048)).isNone else []
    pregs := s.pregs.filter fun e => x.keeps e.1
    shadows := if x.rate then s.pregs.filter fun e => decide (e.1 = pgPower * 256 + 0o062) else []
    cel := s.cel.restart
    kiln := { Kiln.reset with
      kek := s.kiln.kek, ktree := freeOctets s.free 32, mesh := s.kiln.mesh, zLow := s.kiln.zLow
      tstop := x.island && s.kiln.tstop }
    twin := { Twin.reset with
      hold := x.hold && s.twin.hold, lineLow := s.twin.lineLow, seenTerm := s.twin.seenTerm }
    steep := { s.steep with buf := [], relayed := [], engineNext := [] }
    store := s.store, lgasp := s.lgasp, lgLast := s.lgLast, straps := s.straps, pins := s.pins
    mgmt := if x.island then s.mgmt else Mgmt.reset
    pwr := s.pwr.restart x.island }
  let r := if x.rate then r.carryRate else r
  let r := if s.kiln.battLost then r.orPreg pgKiln 0o037 (fld 27 27 1) else r
  if x.island && fired then r.setPregF pgTimer 0o052 34 34 1 else r

/-! ### Start-up -/

/-- SR_LGASP names the newest valid last-gasp slot (17 R430). -/
def State.findLastGasp (s : State) : State :=
  s.setPreg pgSticky 0o026
    (match s.lgNewest with
      | some sl => fld 0 0 1 ||| fld 1 1 sl ||| fld 2 5 (bits (tget 0 s.lgasp (272 * sl)) 0 5)
      | none => 0)

/-- EN of the link ports from the straps (15 R389, Table 15-7). -/
def State.strapPorts (s : State) : State :=
  let on (p : Nat) : Bool :=
    (decide (p = 0) && s.straps.twin) || (decide (1 ≤ p) && decide (p ≤ 4) && decide (s.straps.role.toNat ≤ 1))
  ((List.range 8).filter on).foldl (fun s p => s.setPreg (pgPort p) 0o021 1) s

/-- The enabled ports begin to train (15 R389). -/
def State.trainPorts (s : State) : State :=
  ((List.range 8).filter fun p => s.portEn p && s.portsMayTrain p).foldl (fun s p => s.setEn p true) s

/-- Section 10 of the running image stands in frames 0 to 383, placed in cluster 0's memory, and the steward runs it
(18 Table 18-3 step 4; log entry 20). -/
def State.stageTwo (s : State) : State :=
  let home := (List.range 384).foldl (fun t f => tset 0 t f (f + 1)) s.mal.home
  let s := { s with mal := { s.mal with home } }
  let img := if s.steep.sel = 0 ∧ s.steep.lenConf = 0 then [] else s.runningImage
  let sec := imageSection img 10 786432
  sec.zipIdx.foldl (fun s wi => s.wr wi.2 { w := wi.1, tag := false }) s

/-- A Spent device: it drives no hold and trains port 0 (16 R410). -/
def State.spentStart (s : State) : State := ({ s with twin := { s.twin with hold := false } }).trainPorts

/-- Steps 1 to 5 of Table 18-3, up to the start of stage two. -/
def State.startUp (s : State) (selfTest copyA copyB : Bool) : State :=
  let s := { s with sys := 2, cores := [] }
  let s := s.findLastGasp.strapPorts
  if s.steep.spent then s.spentStart
  else
    let s := ({ s with sys := 3 }).startCheck copyA copyB
    if s.steep.spent then s.spentStart
    else if s.straps.role = 3 then (s.setPreg pgSticky 0o022 4).log 2 pgSys 0 4
    else
      let s := if selfTest then s
        else if s.steep.sel = 1 then s.revertDone.checkCopies copyA copyB
        else s.becomeSpent
      let s := ({ s with sys := 5 }).stageTwo
      if s.steep.spent then s.spentStart
      else
        let s := { s with twin := { s.twin with st := if s.straps.twin then 1 else 0 } }
        let s := s.trainPorts
        if s.kiln.tstop then { s with sys := 8 } else s

/-- POWER_ON_RESET: PORST_N has risen with main power good (18 R433, R435). -/
def execPowerOnReset (straps : Straps) (selfTest copyA copyB : Bool) (s : State) : Host.Outcome State Fault Refusal :=
  let s := s.restart .powerOn
  let s := { s with
    straps
    pins := { s.pins with porstLow := false, pwrGood := true, thermtripLow := false } }
  .next (s.startUp selfTest copyA copyB)

/-- PORST_N driven low: the device is held in power-on reset (18 R433, R452). -/
def execPorstN (s : State) : Host.Outcome State Fault Refusal :=
  let s := s.restart .powerOn
  .next { s with pins := { s.pins with porstLow := true, thermtripLow := false } }

/-- PWR_GOOD falls (18 R432; 15 R374). -/
def execPwrGood (s : State) : Host.Outcome State Fault Refusal :=
  let s := s.restart .powerLoss
  .next { s with pins := { s.pins with pwrGood := false } }

/-! ### Warm reset -/

/-- A warm reset is caused: the Cellar drains first (18 R434); after THERMTRIP only power-on reset helps (R448). -/
def State.causeWarm (s : State) : State :=
  if s.pwr.fatalTherm || !s.pins.pwrGood || s.pins.porstLow then s
  else { s.cellarDrain with warmPend := true }

/-- WARMRST_N low for 1 µs (18 Table 18-2). -/
def execWarmrstN (s : State) : Host.Outcome State Fault Refusal :=
  .next { s.causeWarm with pins := { s.pins with warmLow := true } }

/-- A write of RST_CMD (18 Table 18-10). -/
def State.wrRstCmd (s : State) (v : Word) : Nat × State :=
  if bits v 33 35 = 1 then (0, s.causeWarm) else (3, s)

/-- WARM_RESET: postings past their commit point have run to their end, key records are written back, and the device restarts (18 R433, R434). -/
def execWarmReset (selfTest copyA copyB : Bool) (s : State) : Host.Outcome State Fault Refusal :=
  if s.warmPend = false then .next s
  else
    let s := (List.range 65).foldl (fun s n => s.completeCommitted n) s
    let s := s.kcache.foldl (fun s e => s.kcWriteBack e.2.1 e.2.2) s
    let s := s.restart .warm
    .next (({ s with pins := { s.pins with warmLow := false } }).startUp selfTest copyA copyB)

/-! ### Stage two -/

/-- DRAM_TRAINING (19 R455, R456): what the SPD gives goes to every controller, or every one fails. Two DIMMs in a
channel do not run at 6400. -/
def execDramTraining (pop : DramPop) (s : State) : Host.Outcome State Fault Refusal :=
  if s.sys < 5 then .next s
  else
    let rate := bits (s.preg pgPower 0o062) 34 35
    let good := pop.pass && decide (pop.dimms = 1 ∨ pop.dimms = 2) && decide (1 ≤ pop.ranks.toNat ∧ pop.ranks.toNat ≤ 4) &&
      decide (rate ≤ 2) && !(decide (rate = 2) && decide (pop.dimms = 2))
    let one (s : State) (c : Nat) : State :=
      let pg := pgDram c
      let s := s.setPreg pg 0o021 (fld 16 19 pop.dimms.toNat ||| fld 20 23 pop.ranks.toNat ||| fld 24 35 pop.gib.toNat)
      if good then
        let s := s.setPreg pg 0o020 (fld 30 31 rate ||| fld 32 32 1 ||| fld 33 35 2)
        [(0o022, pop.t1), (0o023, pop.t2), (0o024, pop.t3)].foldl
          (fun s r => (s.setPreg pg r.1 r.2).setShadow pg r.1 r.2) s
      else s.setPreg pg 0o020 (fld 30 31 rate ||| fld 33 35 4)
    let s := (List.range 8).foldl one s
    .next { s with
      installed := if good then min (pop.dimms.toNat * pop.gib.toNat * 2 ^ 31) (2 ^ 39) else 0
      spd := if good then pop else DramPop.none }

/-- PCIE_LINK_TRAINING (18 R437, 19 Table 19-3): a link the endpoint supports (R458). -/
def execPcieLinkTraining (gen : BitVec 4) (width : BitVec 5) (s : State) : Host.Outcome State Fault Refusal :=
  if s.sys < 5 ∨ s.pins.perstLow = true ∨ s.steep.spent = true ∨ s.domOn .pcie = false then .next s
  else if gen = 0 ∨ 5 < gen.toNat ∨ ¬(width = 4 ∨ width = 8 ∨ width = 16) then .next s
  else .next (s.setPreg pgPcie 0o020 (fld 24 27 gen.toNat ||| fld 28 32 width.toNat))

/-- DRAM is trained. -/
def State.dramTrained (s : State) : Bool := bit (s.preg (pgDram 0) 0o020) 32

/-- The twin's state is settled: no twin, its start-up wait over, or port 0 has led on from TRAIN (15 R386). -/
def State.twinSettled (s : State) : Bool :=
  !s.straps.twin || s.twin.waited || (decide (s.twin.st ≠ 1) && decide (s.twin.st ≠ 2))

/-- READY (18 R435 step 6). -/
def execReady (s : State) : Host.Outcome State Fault Refusal :=
  .next (if s.sys = 5 ∧ s.steep.spent = false ∧ s.dramTrained = true ∧ s.cel.st ≠ .scan ∧ s.twinSettled = true then
      { s with sys := 6 }
    else s)

/-- A write of SV_START: the first one of a frame while READY starts the supervisor (19 R464; 11 Table 11-1). -/
def State.svWrite (s : State) (v : Word) : State :=
  if s.sys ≠ 6 ∨ s.svStarted = true then s
  else
    let s := { s with svStarted := true }
    s.modCore 64 fun k =>
      { k with
        run := .running, wait := none, pc := mkPtr (bits v 7 35 * 2048) 0, npc := none, slot := false
        psw := Core.steward.psw, c0T := .rootC0, c0H := .rootC0, c0F := .rootC0, c0E := .rootC0
        c := Core.steward.c }

/-- HEALTH (18 R451). -/
def State.health (s : State) : Nat :=
  if s.steep.spent ∨ s.sys = 7 ∨ s.sys = 8 then 3
  else if s.sys < 6 then 0
  else if !s.pwr.fenced.isEmpty ∨ s.cores.any (fun e => e.1 < 64 && decide (e.2.run = .halted)) = true ∨
      s.cel.st = .fault ∨ s.twin.st = 6 ∨ s.pwr.watch = true then 2
  else 1

/-! ### Fatal errors and power failure -/

/-- THERMTRIP (18 R447, R448). -/
def execThermtrip (s : State) : Host.Outcome State Fault Refusal :=
  let s := { s with
    pins := { s.pins with thermtripLow := true }
    pwr := { s.pwr with fatalTherm := true } }
  .next ((s.log 3 pgSys 0 0).fatal 3 2)

/-- LOCKSTEP_MISMATCH (10 R255, 18 R448). -/
def execLockstepMismatch (s : State) : Host.Outcome State Fault Refusal := .next (s.fatal 1 3)

/-- PWR_FAIL_N asserted (07 R176; 17 R429, R430; 18 R449). -/
def execPwrFailN (s : State) : Host.Outcome State Fault Refusal :=
  if s.pins.pwrFailLow then .next s
  else
    let s := { s with pins := { s.pins with pwrFailLow := true } }
    let s := (s.bump pgSticky 0o025 1).log 4 1023 0 0
    .next (s.cellarDrain.lastGasp 1)

/-- PWR_FAIL_N released with power still good (07 R176). -/
def execPwrFailNRelease (s : State) : Host.Outcome State Fault Refusal :=
  let s := { s with pins := { s.pins with pwrFailLow := false } }
  .next (if s.pins.pwrGood ∧ s.cel.st = .drain ∧ s.sys ≠ 7 ∧ s.warmPend = false then
      s.modCel fun c => { c with st := .service }
    else s)

/-- PERST_N: low, it resets the endpoint only (18 Table 18-2). -/
def execPerstN (low : Bool) (s : State) : Host.Outcome State Fault Refusal :=
  let s := { s with pins := { s.pins with perstLow := low } }
  .next (if low then s.resetEndpoint else s)

/-- A write of SR_LGASP: ACK clears the reported copy's marker (17 R430). -/
def State.wrLgasp (s : State) (v : Word) : Nat × State :=
  let r := s.preg pgSticky 0o026
  if bit v 6 && bit r 0 then
    (0, ({ s with lgasp := tset 0 s.lgasp (272 * bits r 1 1) 0 }).setPreg pgSticky 0o026 (setBits r 0 0 0))
  else (0, s)

end Sys2Proof.Machine
end

