-- ==== Sys2Proof/Machine/CorePage.lean ====
section
/-! DEFINITION. What the writes of the core pages and of their namesakes on the steward/system page do, and the events
they lead to (08 R197-R199; 09 R219-R230; 10 R252, R254; 11 R273; 17 R426, R427; 18 R433, R439, R453). -/

namespace Sys2Proof.Machine

/-! ### Reset and release -/

/-- Every ledger core stays in reset: a fatal error, tamper stop, a Spent device (14 R360, 16 R410, 18 R448). -/
def State.coresHeld (s : State) : Bool := decide (s.sys = 7 ∨ s.sys = 8) || s.steep.spent

/-- PITCH of a core (17 R426). -/
def State.startPitch (s : State) (n : Nat) : State := s.modCore n fun k => { k with pitching := true }

/-- A write of CORE_CTL (17 Table 17-6, R426; 18 R433, R439). -/
def State.wrCoreCtl (s : State) (n : Nat) (v : Word) : Answer :=
  let k := s.core n
  if bit v 35 ∧ k.run = .running then (cState, s)
  else
    let was := bit (s.preg n 0o021) 34
    let s := s.setPregF n 0o021 34 34 (bits v 34 34)
    let s :=
      if bit v 34 then s.resetCore n
      else if was then s.modCore n fun k => { k with releasing := true }
      else s
    (0, if bit v 35 then s.startPitch n else s)

/-- A core has a control store that the steward pitched from a checked image (01 R10, 18 Table 18-3 step 4). -/
def State.pitched (s : State) (n : Nat) : Bool :=
  decide (5 ≤ s.sys) && !(s.core n).csBad && !(s.core n).pitching

/-- CORE_RELEASE (18 R439): the first fetch is at the pointer that vector table entry 0 holds. -/
def execCoreRelease (n : Fin 64) (s : State) : Host.Outcome State Fault Refusal :=
  let k := s.core n.val
  if k.releasing = false ∨ k.run ≠ .reset ∨ s.pitched n.val = false ∨ s.coresHeld = true ∨ s.pwr.fenced.contains (clusterOf n.val) = true ∨
      s.domOn (.core n) = false then .next s
  else
    let s := s.modCore n.val fun k => { k with releasing := false, run := .running }
    match s.vecEntry n.val 0 with
    | some e => .next (s.modCore n.val fun k => ({ k with pc := e.pc }).ibFrom e.pc)
    | none => .next (s.escalate n.val 4 0)

/-- PITCH_COMPLETION (09 R221, 10 R254, 17 R426): a WAIT in bank E ends. -/
def execPitchCompletion (n : Fin 64) (s : State) : Host.Outcome State Fault Refusal :=
  let k := s.core n.val
  if k.pitching = false then .next s
  else
    let s := (s.pitchCore n.val).modCore n.val fun k => { k with pitching := false }
    .next (if k.run = .waiting ∧ k.bank = 3 then
        (s.modCore n.val fun k => { k with run := .running }).retire n.val 1 .seq
      else s)

/-- A write of ICI (17 Table 17-6). -/
def State.wrIci (s : State) (n : Nat) (v : Word) : Answer := (0, if bit v 35 then s.pendInt n 35 else s)

/-! ### Tasks -/

/-- Words of a task area, tags kept; an unreadable word is zero and an error response (09 Table 09-12, 17 R428). -/
def State.areaRead (s : State) (n base : Nat) (is : List Nat) : List Cell × State :=
  is.foldl
    (fun r i =>
      match r.2.engineRead (base + i) with
      | .ok (c, s) => (r.1 ++ [c], s)
      | .error s => (r.1 ++ [Cell.zero], s.mcheck n 3 1023)) ([], s)

/-- Cells written to a task area from a word on. -/
def State.areaWrite (s : State) (base i : Nat) (cs : List Cell) : State :=
  cs.zipIdx.foldl (fun s ci => s.engineCell (base + i + ci.2) ci.1) s

/-- Plain words as cells, and a token as its two. -/
def plainCells (ws : List Word) : List Cell := ws.map fun w => { w, tag := false }
def tokCells (t : Tok) : List Cell := [{ w := t.a, tag := t.tag }, { w := t.b, tag := t.tag }]

/-- A token of two cells: tagged where both are (02 R34). -/
def tokOf (cs : List Cell) : Tok :=
  let a := cs.getD 0 Cell.zero
  let b := cs.getD 1 Cell.zero
  { a := a.w, b := b.w, tag := a.tag && b.tag }

/-- The registers of group W by place in the register table, in the order of the task area, the ring state aside. -/
def groupW : List Nat := (List.range 7).map (· + 1) ++ (List.range 176).map (· + 64) ++ (List.range 8).map (· + 32)
def groupWArea : List Nat := List.range 7 ++ (List.range 184).map (· + 8)

/-- Bank T's ring state as the task area holds it. -/
def Core.ringWord (k : Core) : Word := fld 0 3 k.tRing.cwp ||| fld 4 7 k.tRing.res ||| fld 8 11 k.tRing.old

/-- The task area of core n. -/
def State.taskBase (s : State) (n : Nat) : Nat := bits (s.creg n 0o025) 0 30 * 512

/-- A dirty group written to the task area: 8 W, 4 D, 2 V, 1 C (09 R229). -/
def State.saveGroup (s : State) (n base : Nat) (g : BitVec 4) : State :=
  let k := s.core n
  match g.toNat with
  | 8 =>
    let s := (List.zip groupWArea groupW).foldl
      (fun s ar => s.areaWrite base ar.1 (plainCells [tget 0 k.regs ar.2])) s
    s.areaWrite base 7 (plainCells [k.ringWord])
  | 4 => s.areaWrite base 200 (plainCells ((List.range 4).flatMap (fun i => accWords (k.acc i)) ++ [k.dsr]))
  | 2 => s.areaWrite base 240 (plainCells ((List.range 16).flatMap fun i => vWords (k.vreg i)))
  | _ => s.areaWrite base 304 ((List.range 15).flatMap fun i => tokCells (tget Tok.clear k.c (i + 1)))

/-- The ring state of a task area word. -/
def ringOf (w : Word) : Ring := { cwp := bits w 0 3, res := bits w 4 7, old := bits w 8 11 }

/-- A group loaded from the task area; its absent bit clears (09 R229). -/
def State.loadGroup (s : State) (n base : Nat) (g : BitVec 4) : State :=
  let done (k : Core) : Core := { k with tabs := k.tabs &&& ~~~g }
  match g.toNat with
  | 8 =>
    let (cs, s) := s.areaRead n base (groupWArea ++ [7])
    s.modCore n fun k =>
      let regs := (List.zip groupW cs).foldl (fun t rc => tset 0 t rc.1 rc.2.w) k.regs
      done { k with regs, tRing := ringOf (cs.getD 191 Cell.zero).w }
  | 4 =>
    let (cs, s) := s.areaRead n base ((List.range 33).map (· + 200))
    let ws := cs.map Cell.w
    s.modCore n fun k =>
      let da := (List.range 4).foldl (fun t i => tset 12 t i (accOfWords ((ws.drop (8 * i)).take 8))) k.da
      done { k with da, dsr := setBits 0 0 4 (bits (ws.getD 32 0) 0 4) }
  | 2 =>
    let (cs, s) := s.areaRead n base ((List.range 64).map (· + 240))
    let ws := cs.map Cell.w
    s.modCore n fun k =>
      done { k with v := (List.range 16).foldl (fun t i => tset 0 t i (vOfWords ((ws.drop (4 * i)).take 4))) k.v }
  | _ =>
    let (cs, s) := s.areaRead n base ((List.range 30).map (· + 304))
    s.modCore n fun k =>
      done { k with c := (List.range 15).foldl (fun t i => tset Tok.clear t (i + 1) (tokOf (cs.drop (2 * i)))) k.c }

/-- The groups in the order of TGROUP's bits. -/
def taskGroups : List (BitVec 4) := [8, 4, 2, 1]

/-- Bank T's C0 after a task switch: the area's token where C0 may hold it, else the one it held (11 R256; log entry 59). -/
def taskC0 (old t : Tok) : Tok :=
  if t.tag && !t.sealed && !t.illFormed && decide (t.type = 6) then t else old

/-- A write of TASK_AREA switches tasks (09 R229). -/
def State.wrTaskArea (s : State) (n : Nat) (v : Word) : Answer :=
  let k := s.core n
  if k.depth ≠ 1 ∨ k.mark.ds = true ∨ k.mark.vs = true then (cState, s)
  else
    let base := s.taskBase n
    let s := taskGroups.foldl (fun s g => if k.tdrt &&& g = 0 then s else s.saveGroup n base g) s
    let s := s.areaWrite base 192 (tokCells k.c0T)
    let s := s.setPreg (coreOff n 0o025).1 (coreOff n 0o025).2 v
    let (cs, s) := s.areaRead n (s.taskBase n) [192, 193, 7]
    (0, s.modCore n fun k =>
      ({ k with c0T := taskC0 k.c0T (tokOf cs), tRing := ringOf (cs.getD 2 Cell.zero).w, tabs := 15, tdrt := 0 }).mirrorKey)

/-- A write of TGROUP: absent bits, then the groups of LOAD (09 R229, Table 09-13). -/
def State.wrTgroup (s : State) (n : Nat) (v : Word) : Answer :=
  let s := s.modCore n fun k => { k with tabs := BitVec.ofNat 4 (bits v 24 27) }
  let ld : BitVec 4 := BitVec.ofNat 4 (bits v 32 35)
  (0, taskGroups.foldl (fun s g => if ld &&& g = 0 then s else s.loadGroup n (s.taskBase n) g) s)

/-- TGROUP and WSTATE as they read (09 Tables 09-13, 09-14). -/
def Core.tgroup (k : Core) : Word := fld 24 27 k.tabs.toNat ||| fld 28 31 k.tdrt.toNat

/-! ### Other registers of a core -/

/-- A write of VGATE (08 R199): HOLD starts a wake at once. -/
def State.wrVgate (s : State) (n : Nat) (v : Word) : Answer :=
  if bits v 18 35 < 256 then (cRange, s)
  else
    let s := s.setPreg n 0o031 (setBits v 16 16 0)
    (0, s.modCore n fun k => if bit v 17 && !k.vAwake then { k with vWaking := true } else k)

/-- A write of TLBWIRE restarts both counters at the wired bound (11 R277). -/
def State.wrTlbwire (s : State) (n : Nat) (v : Word) : Answer :=
  let s := s.setPreg (coreOff n 0o030).1 (coreOff n 0o030).2 v
  (0, s.modCore n fun k => { k with itlbNext := bits v 24 28, dtlbNext := bits v 29 35 })

/-- A write of KT_BASE (11 R273): only with every ledger core in reset or Halt-check. -/
def State.wrKtBase (s : State) (v : Word) : Answer :=
  if s.cores.any fun e => e.1 < 64 && decide (e.2.run = .running ∨ e.2.run = .waiting) then (cBusy, s)
  else if 2 ^ 28 ≤ bits v 7 35 then (cRange, s)
  else (0, { s.setPreg pgSys 0o020 v with ktWritten := true })

/-- A write of DBG_CTL0 or DBG_CTL1: a bit that clears resumes its core and disarms BRK (18 R453). -/
def State.wrDbgCtl (s : State) (high : Bool) (v : Word) : Answer :=
  let s := s.setPreg pgSys (if high then 0o044 else 0o043) v
  let cores := if high then (List.range 28).map (· + 36) else List.range 36
  (0, (cores.filter fun n => !s.debuggable n).foldl
    (fun s n =>
      (s.setPregF n 0o042 33 33 0).modCore n fun k => { k with dbgHalt := false, dbgStep := false, brkPass := k.dbgHalt }) s)

/-- A write of BRK (18 R453, Table 18-6). -/
def State.wrBrk (s : State) (n : Nat) (v : Word) : Answer :=
  if s.debuggable n then (0, s.setPreg n 0o042 v) else (cState, s)

/-- CORE_STAT.STATE (17 Table 17-6). -/
def State.coreStat (s : State) (n : Nat) : Nat :=
  if s.domOn (.core (coreFin n)) = false then 4
  else
    match (s.core n).run with
    | .reset => 0
    | .running => 1
    | .waiting => 2
    | .halted => 3

/-- A core page register that the core itself holds, as it reads (17 Table 17-6). -/
def State.rdCore (s : State) (n off : Nat) : Option Word :=
  let k := s.core n
  match off with
  | 0o020 => some (wd n)
  | 0o026 => some k.tgroup
  | 0o027 => some k.wstate
  | 0o031 => some (setBit (s.preg n 0o031) 16 k.vAwake)
  | 0o033 => some (s.servWord n)
  | 0o035 => some (fld 4 35 k.pend.toNat)
  | 0o036 => some (Config.cycles n (s.preg n 0o037).toNat s.pwr.tb s.free)
  | 0o043 => some (wd (s.coreStat n))
  | _ => none

end Sys2Proof.Machine
end

