-- ==== Sys2Proof/Machine/Power.lean ====
section
/-! DEFINITION. Power domains, clocks, rails, temperatures, timers and the watchdog (08 R197; 13 R311; 18 R440-R446,
R451, R454; 19 R455-R457). -/

namespace Sys2Proof.Machine

/-! ### Domains -/

/-- The domains of CL_PWR of cluster c by bit, and of IO_PWR (18 Table 18-7). -/
def clusterDomains (c : Nat) : List (Nat × Domain) :=
  (List.range 8).map (fun i => (20 + i, Domain.core (coreFin (8 * c + i)))) ++
    (List.range 4).map (fun b => (28 + b, Domain.subBank (clusterFin c) ⟨b % 4, Nat.mod_lt _ (by decide)⟩)) ++
    [(32, Domain.fabric (clusterFin c))]
def ioDomains : List (Nat × Domain) :=
  (List.range 8).map (fun i => (13 + i, Domain.dram (clusterFin i))) ++ [(21, Domain.pcie)] ++
    (List.range 4).map (fun b => (22 + b, Domain.kilnLane ⟨b % 4, Nat.mod_lt _ (by decide)⟩)) ++ [(26, Domain.cellar)] ++
    (List.range 2).map (fun b => (27 + b, Domain.queueHalf ⟨b % 2, Nat.mod_lt _ (by decide)⟩)) ++ [(29, Domain.maltster)]

/-- PD_STAT as it reads: the domains that are on (18 Table 18-7). -/
def State.pdStat (s : State) (ds : List (Nat × Domain)) : Word :=
  ds.foldl (fun w d => if s.domOn d.2 then w ||| fld d.1 d.1 1 else w) 0

/-- A domain may be turned off (18 R440, Table 18-4; 07 R181, 13 R311), given the register value that turns it off. -/
def State.mayTurnOff (s : State) (v : Word) (d : Domain) : Bool :=
  match d with
  | .core n => decide ((s.core n.val).run = .reset)
  | .subBank c b => !s.mal.home.any fun e => (e.2 - 1) / 128 == c.val * 4 + b.val
  | .fabric _ => decide (bits v 20 31 = 0)
  | .dram _ => true
  | .pcie =>
    let p := bits (s.preg pgPcie 0o020) 33 35
    decide (p = 2 ∨ p = 3) || s.pins.perstLow
  | .kilnLane _ => decide (bits v 22 25 ≠ 0)
  | .cellar => decide (s.cel.st = .service) && !s.cel.posts.any Posting.committed
  | .queueHalf h => !s.que.q.any fun e => e.1 / 8192 == h.val && decide (e.2.st ≠ qOff)
  | .maltster => decide (bits (s.preg pgMal 0o020) 32 33 = 0)

/-- What is lost when a domain goes off (18 Table 18-4). -/
def State.turnOff (s : State) (d : Domain) : State :=
  let s := { s with pwr := { s.pwr with off := d :: s.pwr.off, waking := s.pwr.waking.filter (· != d) } }
  match d with
  | .core n =>
    s.modCore n.val fun k => { Core.reset with releasing := k.releasing, kreq := k.kreq }
  | .fabric c =>
    (List.range 8).foldl
      (fun s i => s.modCore (8 * c.val + i) fun k => { k with v := [], vAwake := false, vWaking := false }) s
  | .dram n => s.setPregF (pgDram n.val) 0o020 33 35 (if bit (s.preg (pgDram n.val) 0o020) 32 then 3 else 0)
  | .pcie => s.resetEndpoint
  | .cellar => s.modCel fun c => { c with st := .off }
  | .maltster => { s with mal := { s.mal with heat := [], qheat := [], cand := [] } }
  | _ => s

/-- A domain is usable again (18 Table 18-4; 07 R181, 13 R311). -/
def State.turnedOn (s : State) (d : Domain) : State :=
  let s := { s with pwr :=
    { s.pwr with off := s.pwr.off.filter (· != d), waking := s.pwr.waking.filter (· != d) } }
  match d with
  | .core n => s.pitchCore n.val
  | .dram n => s.setPregF (pgDram n.val) 0o020 33 35 (if bit (s.preg (pgDram n.val) 0o020) 32 then 2 else 1)
  | .cellar => s.modCel fun c => if c.st = .off then { c with st := .scan } else c
  | .queueHalf h => { s with que := { s.que with q := s.que.q.filter fun e => e.1 / 8192 != h.val } }
  | _ => s

/-- A write of CL_PWR or IO_PWR: every domain that it would turn off may go off, or the write is rejected (18 R440). -/
def State.wrPower (s : State) (off : Nat) (ds : List (Nat × Domain)) (v : Word) : Answer :=
  let down := ds.filter fun d => !bit v d.1 && (s.domOn d.2 || s.pwr.waking.contains d.2)
  let up := ds.filter fun d => bit v d.1 && !s.domOn d.2 && !s.pwr.waking.contains d.2
  if down.any fun d => s.domOn d.2 && !s.mayTurnOff v d.2 then (cBusy, s)
  else
    let s := s.setPreg pgPower off v
    let s := down.foldl (fun s d => if s.domOn d.2 then s.turnOff d.2
      else { s with pwr := { s.pwr with waking := s.pwr.waking.filter (· != d.2) } }) s
    (0, { s with pwr := { s.pwr with waking := up.map Prod.snd ++ s.pwr.waking } })

/-- DOMAIN_WAKE (18 R440). -/
def execDomainWake (d : Domain) (s : State) : Host.Outcome State Fault Refusal :=
  .next (if s.pwr.waking.contains d then s.turnedOn d else s)

/-! ### Frequency -/

/-- The largest MULT of the part (18 R441). -/
def topMult : Nat := if Config.gradeE then 28 else 32

/-- The committed multiplier, the cap and the effective multiplier of a cluster (18 R441, R446). -/
def State.multOf (s : State) (c : Nat) : Nat := tget 8 s.pwr.mult c
def State.clkCap (s : State) (c : Nat) : Nat := min topMult (tget 32 s.pwr.cap c)
def State.effMult (s : State) (c : Nat) : Nat := min (s.multOf c) (s.clkCap c)
def State.cappedAt (s : State) (c : Nat) : Bool := decide (s.clkCap c < s.multOf c)

/-- The rail of a cluster as measured, in millivolts; a free value before the first sample (log entry 3). -/
def State.railMv (s : State) (c : Nat) : Nat := if s.pwr.sampled then tget 0 s.pwr.rails c else Config.railMv c

/-- Vmin in millivolts at MULT times 50 MHz (18 R441). -/
def vmin (m : Nat) : Nat := if m ≤ 12 then 600 else 420 + 15 * m

/-- The check of a frequency commit (18 R441). -/
def State.freqCode (s : State) (c m : Nat) : Nat :=
  if m < 8 ∨ topMult < m then cRange else if s.railMv c < vmin m + 10 then cRange else 0

/-- FREQUENCY_SWITCH (18 R442): it waits for the commit phases of the cluster. -/
def State.freqSwitch (s : State) (c : Nat) : State :=
  if (List.range 8).any fun i => match s.postingOf (8 * c + i) with
      | some p => p.committed
      | none => false
  then s
  else
    let s := s.applyStaged pgPower (c + 1)
    { s with pwr := { s.pwr with mult := tset 8 s.pwr.mult c (bits (s.preg pgPower (0o042 + c)) 30 35) } }

/-- FREQUENCY_SWITCH. -/
def execFrequencySwitch (n : Fin 8) (s : State) : Host.Outcome State Fault Refusal := .next (s.freqSwitch n.val)

/-- CL_FEFF as it reads. -/
def State.rdFeff (s : State) (c : Nat) : Word := fld 29 29 (s.cappedAt c).toNat ||| fld 30 35 (s.effMult c)

/-! ### DRAM timing -/

/-- Every field of a word is at least the same field of another. -/
def fieldsAtLeast (fs : List (Nat × Nat)) (v lo : Word) : Bool := fs.all fun f => decide (bits lo f.1 f.2 ≤ bits v f.1 f.2)

/-- The check of a timing group's commit (19 R457): against what the SPD gives. -/
def State.timingCode (s : State) (grp : Nat) (v : Word) : Nat :=
  let low (fs : List (Nat × Nat)) (lo : Word) : Nat := if fieldsAtLeast fs v lo then 0 else cRange
  match grp with
  | 1 => low [(0, 7), (8, 15), (16, 23), (24, 35)] s.spd.t1
  | 2 => low [(12, 19), (20, 27), (28, 35)] s.spd.t2
  | 3 => low [(0, 15), (16, 27)] s.spd.t3
  | _ => if 1000 < bits v 26 35 then cRange else 0

/-- The check of a commit of DRAM_CLK (18 R454): 6400 with one DIMM a channel; 3 is no rate of Table 18-7. -/
def State.rateCode (s : State) (v : Word) : Nat :=
  let r := bits v 34 35
  if r = 3 then cReserved
  else if r = 2 ∧ (List.range 8).any (fun c => bits (s.preg (pgDram c) 0o021) 16 19 == 2) = true then cRange
  else 0

/-- COMMIT_APPLY: the safe point of a pending commit (17 R421). Groups 9 and 10 of the power page reach theirs only at
a warm reset and at a training of the Adjunct port (18 R454). -/
def execCommitApply (page : Fin 100) (group : BitVec 6) (s : State) : Host.Outcome State Fault Refusal :=
  let p := page.val
  let g := group.toNat
  .next (if p = pgPower then (if 1 ≤ g ∧ g ≤ 8 then (if s.staged.contains (p, g) then s.freqSwitch (g - 1) else s) else s)
    else s.applyStaged p g)

/-- A line of a sealed frame that the patrol has corrected is written back, sealed again (14 R345; 19 R457). -/
def State.scrubBack (s : State) (line : Nat) : State :=
  let f := line / 128
  let sl := if s.inWindow f then s.sealFor f else 0
  if sl = 0 ∨ s.opened.any (fun e => e.1 == line) = true then s
  else
    match s.kilnOpen line sl with
    | .opened s =>
      ({ s with opened := s.opened.map fun (e : Nat × Bool) => if e.1 = line then (line, true) else e }).kilnClose line
    | _ => s

/-- An uncorrectable line of a channel (19 Table 19-1). -/
def State.dramUe (s : State) (c line : Nat) : State :=
  (s.bump (pgDram c) 0o027 1).setPreg (pgDram c) 0o030 (wd line)

/-- A controller's patrol runs: DRC_STATE.STATE is in service and DRC_T4.HOURS is not 0 (19 Table 19-1). -/
def State.patrols (s : State) (c : Nat) : Bool :=
  decide (bits (s.preg (pgDram c) 0o020) 33 35 = 2) && decide (bits (s.preg (pgDram c) 0o025) 26 35 ≠ 0)

/-- PATROL_SCRUB (02 R40, 12 R297, 19 R457): the patrol runs on a controller in service whose HOURS is not 0. -/
def execPatrolScrub (line : BitVec 36) (check : LineCheck) (s : State) : Host.Outcome State Fault Refusal :=
  let l := line.toNat
  let c := l % 8
  if s.patrols c = false ∨ s.installed ≤ 16 * l ∨ (s.placed (l / 128)).isSome = true then .next s
  else
    match check with
    | .good => .next s
    | .corrected => .next (((s.bump (pgDram c) 0o026 1).bump pgSticky (0o072 + c) 1).scrubBack l)
    | .uncorrectable => .next ((s.dramUe c l).bump pgSticky 0o102 1)

/-! ### Rails -/

/-- Neighbours n and n + 1 (18 R444). -/
def neighbours : List Nat := [0, 1, 2, 4, 5, 6]

/-- The rails of clusters n and n + 1 differ by more than 150 mV. -/
def State.railsApart (s : State) (n : Nat) : Bool :=
  let a := s.railMv n
  let b := s.railMv (n + 1)
  decide (a + 150 < b ∨ b + 150 < a)

/-- A cluster fence (18 R444). -/
def State.fence (s : State) (c : Nat) : State :=
  if s.pwr.fenced.contains c then s
  else
    let s := (List.range 8).foldl (fun s i => s.resetCore (8 * c + i)) s
    let s := { s with pwr := { s.pwr with fenced := s.pwr.fenced ++ [c] } }
    (s.log 12 (pgCluster c) 0 c).mcheck 64 5 c

/-- VOLTAGE_SAMPLE (18 R444): two consecutive samples with a larger difference fence the cluster with the lower
voltage. -/
def execVoltageSample (mv : List Nat) (s : State) : Host.Outcome State Fault Refusal :=
  if mv.length ≠ 8 then .fault .malformedCommand
  else
    let before := s.pwr.overRuns
    let rails := mv.zipIdx.foldl (fun t vi => tset 0 t vi.2 vi.1) s.pwr.rails
    let s := { s with pwr := { s.pwr with rails, sampled := true } }
    let now := neighbours.filter s.railsApart
    let s := { s with pwr := { s.pwr with overRuns := now } }
    .next ((now.filter before.contains).foldl
      (fun s n => s.fence (if s.railMv n < s.railMv (n + 1) then n else n + 1)) s)

/-- A write of CLU_UNFENCE (18 R444). -/
def State.wrUnfence (s : State) (c : Nat) (v : Word) : Answer :=
  if bit v 35 = false then (0, s)
  else if neighbours.any fun n => (n == c || n + 1 == c) && s.railsApart n then (cState, s)
  else (0, { s with pwr := { s.pwr with fenced := s.pwr.fenced.filter (· != c) } })

/-! ### Heat -/

/-- The junction temperature of a cluster, a free value before the first reading (log entry 3). -/
def State.tempOf (s : State) (c : Nat) : Int := match s.pwr.temps with
  | [] => Config.tempC c
  | l => l.getD c 0

/-- The temperatures read, with SR_TMAX the highest seen (17 Table 17-8). -/
def State.takeTemps (s : State) (degc : List Int) : State :=
  let top := degc.foldl max (degc.headD 0)
  let seen := sgn 9 (bits (s.preg pgSticky 0o111) 27 35)
  let s := { s with pwr := { s.pwr with temps := degc } }
  if seen < top then s.setPreg pgSticky 0o111 (fld 27 35 (top % 512).toNat) else s

/-- A cluster's cap. -/
def State.setCap (s : State) (c v : Nat) : State :=
  { s with pwr := { s.pwr with cap := tset 32 s.pwr.cap c (if topMult ≤ v then 32 else v) } }

/-- The device throttles: a sensor at TLIM, or PROCHOT_N held low from outside (18 R446). -/
def State.hot (s : State) : Bool :=
  s.pins.prochotLow || s.pwr.temps.any fun t => decide ((bits (s.preg pgPower 0o064) 27 35 : Int) ≤ t)

/-- The sensors read below TLIM less 5 and nobody holds PROCHOT_N (18 R446). -/
def State.cool (s : State) : Bool :=
  !s.pins.prochotLow && s.pwr.temps.all fun t => decide (t < (bits (s.preg pgPower 0o064) 27 35 : Int) - 5)

/-- GRADIENT_STEP: one timed step of R445. A neighbour pair above 30 °C is acted on until it is at most 25 °C apart; a
cluster acted on earlier recovers a step where nothing holds it down. -/
def execGradientStep (degc : List Int) (s : State) : Host.Outcome State Fault Refusal :=
  if degc.length ≠ 8 then .fault .malformedCommand
  else
    let s := s.takeTemps degc
    let apart (n : Nat) : Nat := (s.tempOf n - s.tempOf (n + 1)).natAbs
    let acting := neighbours.filter fun n => decide (30 < apart n) || (s.pwr.grad.contains n && decide (25 < apart n))
    let hotter (n : Nat) : Nat := if s.tempOf n < s.tempOf (n + 1) then n + 1 else n
    let down := (acting.map hotter).eraseDups
    let s := { s with pwr := { s.pwr with grad := acting } }
    let s := down.foldl
      (fun s c => (s.setCap c (max 8 (s.clkCap c - 1))).setPregF (pgCluster c) 0o020 34 34 1) s
    let s := if down.isEmpty then s else s.setPregF pgPower 0o065 34 34 1
    let up := (List.range 8).filter fun c =>
      bit (s.preg (pgCluster c) 0o020) 34 && !down.contains c && !s.hot
    .next (up.foldl
      (fun s c =>
        let s := s.setCap c (s.clkCap c + 1)
        if s.clkCap c = topMult then s.setPregF (pgCluster c) 0o020 34 34 0 else s) s)

/-- THROTTLE_STEP: one timed step of R446. -/
def execThrottleStep (degc : List Int) (s : State) : Host.Outcome State Fault Refusal :=
  if degc.length ≠ 8 then .fault .malformedCommand
  else
    let s := s.takeTemps degc
    let held (c : Nat) : Bool := s.pwr.grad.any fun n =>
      (if s.tempOf n < s.tempOf (n + 1) then n + 1 else n) == c
    if s.hot then
      let s := { s with pins := { s.pins with prochotOut := true } }
      .next ((List.range 8).foldl (fun s c => s.setCap c (max 8 (s.clkCap c - 2))) s)
    else
      let s := { s with pins := { s.pins with prochotOut := false } }
      .next (if s.cool then
          ((List.range 8).filter fun c => !held c).foldl (fun s c => s.setCap c (s.clkCap c + 1)) s
        else s)

/-- PROCHOT_N driven or released from outside (18 R446). -/
def execProchotN (low : Bool) (s : State) : Host.Outcome State Fault Refusal :=
  let s := { s with pins := { s.pins with prochotLow := low } }
  .next { s with pins := { s.pins with prochotOut := s.hot } }

/-- A write of THERM_CTL (18 R446). -/
def State.wrTherm (s : State) (v : Word) : Answer :=
  let t := bits v 27 35
  if t < 60 ∨ (if Config.gradeE then 100 else 95) < t then (cRange, s) else (0, s.setPreg pgPower 0o064 v)

/-- THERM_STAT as it reads (18 Table 18-7). -/
def State.rdTherm (s : State) : Word :=
  setBit (setBit (s.preg pgPower 0o065) 33 s.hot) 35 s.pins.prochotLow

/-- CLU_STAT as it reads (18 Table 18-8). -/
def State.rdClu (s : State) (c off : Nat) : Option Word :=
  match off with
  | 0o020 => some (setBit (setBit (s.preg (pgCluster c) 0o020) 33 (s.pwr.fenced.contains c)) 35 (s.cappedAt c))
  | 0o021 => some (fld 24 35 (s.railMv c))
  | 0o022 => some (fld 27 35 (s.tempOf c % 512).toNat)
  | 0o024 =>
    let ls := s.cel.locks.filter fun l => s.homeOf l.1 == c
    some (fld 14 23 (ls.filter fun l => l.2.isPrepared).length ||| fld 24 35 ls.length)
  | _ => none

/-! ### Timers and the watchdog -/

/-- Registers of timer n. -/
def tmrInt (n : Nat) : Nat := 0o022 + 3 * n
def tmrCnt (n : Nat) : Nat := 0o023 + 3 * n
def tmrCtl (n : Nat) : Nat := 0o024 + 3 * n

/-- A timer that counts (18 Table 18-9). -/
def State.timerRuns (s : State) (n : Nat) : Bool :=
  bit (s.preg pgTimer (tmrCtl n)) 27 && decide (s.preg pgTimer (tmrCnt n) ≠ 0)

/-- A timer reaches expiry (18 Table 18-9). -/
def State.timerExpires (s : State) (n : Nat) : State :=
  let ctl := s.preg pgTimer (tmrCtl n)
  let s := s.setPreg pgTimer (tmrCnt n) (if bit ctl 28 then s.preg pgTimer (tmrInt n) else 0)
  s.pendInt (if bit ctl 29 then 64 else bits ctl 30 35) 34

/-- TIMER_EXPIRY: time has run to the expiry of a timer that counts. -/
def execTimerExpiry (n : Fin 8) (s : State) : Host.Outcome State Fault Refusal :=
  .next (if s.timerRuns n.val then s.timerExpires n.val else s)

/-- A write of TMRn_CTL: EN going to 1 starts the count from the interval (log entry 21). -/
def State.wrTmrCtl (s : State) (n : Nat) (v : Word) : Answer :=
  let was := bit (s.preg pgTimer (tmrCtl n)) 27
  let s := s.setPreg pgTimer (tmrCtl n) v
  (0, if bit v 27 && !was then s.setPreg pgTimer (tmrCnt n) (s.preg pgTimer (tmrInt n)) else s)

/-- The watchdog's period in microseconds. -/
def State.wdogPeriod (s : State) : Nat := bits (s.preg pgTimer 0o052) 20 27 * 1000

/-- A write of WDOG_CTL (18 R451, R454): EN once set cannot be cleared. -/
def State.wrWdogCtl (s : State) (v : Word) : Answer :=
  let old := s.preg pgTimer 0o052
  if bit old 35 ∧ bit v 35 = false then (cLocked, s)
  else if bits v 20 27 = 0 then (cRange, s)
  else
    let s := s.setPreg pgTimer 0o052 (setBit v 34 (bit old 34 && !bit v 34))
    (0, { s with pwr := { s.pwr with wdogLeft := s.wdogPeriod } })

/-- A write of WDOG_KICK (18 R451). -/
def State.wrWdogKick (s : State) (v : Word) : Answer :=
  (0, if bit v 35 then { s with pwr := { s.pwr with wdogLeft := s.wdogPeriod } } else s)

/-- The watchdog fires (18 R451). -/
def State.wdogFires (s : State) : State :=
  let s := s.setPregF pgTimer 0o052 34 34 1
  ({ s with pwr := { s.pwr with watch := true, wdogLeft := s.wdogPeriod } }).causeWarm

/-- WATCHDOG: a period has passed without a kick. -/
def execWatchdog (s : State) : Host.Outcome State Fault Refusal :=
  .next (if bit (s.preg pgTimer 0o052) 35 then s.wdogFires else s)

end Sys2Proof.Machine
end

