-- ==== Sys2Proof/Machine/Dma.lean ====
section
/-! DEFINITION. The DMA channels and the aperture of the PCI Express endpoint (19 R459-R466). -/

namespace Sys2Proof.Machine

/-! ### Key records as the host's accesses apply them -/

/-- A discarded host write (19 Table 19-3). -/
def State.badWrite (s : State) : State := s.bump pgPcie 0o022 1

/-- SEAL of a frame's key record, read through the key cache of the frame's home cluster; none where the key table's
word is above installed DRAM, and zero before KT_BASE is written (11 R268, 19 R462, R466). -/
def State.recordSeal (s : State) (f : Nat) : Option (Nat × State) :=
  if s.ktWritten then
    let cl := s.homeOf f
    match s.kcFind cl f with
    | some kr => some (bits kr 8 19, s.kcPut cl f kr)
    | none =>
      if s.populated 64 (s.ktAddr f) then
        let kr := (s.rd (s.ktAddr f)).w
        some (bits kr 8 19, if s.badRecord f kr then s else s.kcPut cl f kr)
      else none
  else some (0, s)

/-- What a device word is to a host's access: above installed DRAM (itself or its key record), in a sealed frame, or open
to it. -/
inductive HostReach where
  | above | shut | clear
  deriving DecidableEq, Repr

/-- The checks of one device word for DMA and the aperture (11 R268; 19 R462, R466). -/
def State.hostReach (s : State) (pa : Nat) : HostReach × State :=
  if s.installed ≤ pa then (.above, s)
  else
    match s.recordSeal (pa / 2048) with
    | none => (.above, s)
    | some (sl, s) => (if sl = 0 then .clear else .shut, s)

/-! ### Aperture -/

/-- APERTURE: a read or a write of one slot of BAR2 by the host (19 R460, R462). -/
def execAperture (how : SlotAccess) (index : Nat) (v : BitVec 64) (s : State) : Host.Outcome State Fault Refusal :=
  let a := s.preg pgPcie 0o021
  if 2 ^ 27 ≤ index ∨ bit a 35 = false ∨ s.endpointUp = false then .next s
  else if how = .part ∨ (how = .store ∧ 2 ^ 36 ≤ v.toNat) then .next s.badWrite
  else
    let pa := bits a 23 34 * 2 ^ 27 + index
    let r := s.hostReach pa
    let s := r.2
    if r.1 = .clear then
      if how = .store then .next (s.engineWrite pa (wd v.toNat))
      else
        match s.engineRead pa with
        | .ok (c, s) => .next { s with hostOut := c.w.toNat }
        | .error s => .next { s.badWrite with hostOut := 0 }
    else .next (if how = .store then s.badWrite else { s.badWrite with hostOut := 0 })

/-! ### The registers of a channel -/

/-- Offsets of a channel's registers. -/
def dmaRing (n : Nat) : Nat := 0o024 + 2 * n
def dmaPtr (n : Nat) : Nat := 0o025 + 2 * n

/-- HEAD, TAIL and LOG of a channel (19 Table 19-3). -/
def State.dmaHead (s : State) (n : Nat) : Nat := bits (s.preg pgPcie (dmaPtr n)) 6 20
def State.dmaTail (s : State) (n : Nat) : Nat := bits (s.preg pgPcie (dmaPtr n)) 21 35
def State.dmaLog (s : State) (n : Nat) : Nat := bits (s.preg pgPcie (dmaPtr n)) 0 4

/-- A channel runs while HEAD and TAIL differ. -/
def State.dmaRuns (s : State) (n : Nat) : Bool := decide (s.dmaHead n ≠ s.dmaTail n)

/-- A write of DMA_RINGn: stopped-only (19 Table 19-3). -/
def State.wrDmaRing (s : State) (n : Nat) (v : Word) : Answer :=
  if s.dmaRuns n then (cBusy, s) else (0, s.setPreg pgPcie (dmaRing n) v)

/-- A write of DMA_PTRn: LOG is stopped-only, and TAIL may not pass HEAD + 2^LOG (19 R465). -/
def State.wrDmaPtr (s : State) (n : Nat) (v : Word) : Answer :=
  let log := bits v 0 4
  let head := s.dmaHead n
  if s.dmaRuns n ∧ log ≠ s.dmaLog n then (cBusy, s)
  else if log < 4 ∨ 12 < log then (cRange, s)
  else if 2 ^ log < (bits v 21 35 + 2 ^ 15 - head) % 2 ^ 15 then (cRange, s)
  else (0, s.setPreg pgPcie (dmaPtr n) (setBits v 6 20 head))

/-! ### Descriptors -/

/-- A descriptor (19 Table 19-4). -/
structure Desc where
  out : Bool
  lay : Nat
  fn : Nat
  dev : Nat
  count : Nat
  host : Nat
  zeros : Bool
  deriving DecidableEq, Repr

/-- The fields of a descriptor's four words. -/
def descOf (ws : List Word) : Desc :=
  let w (i : Nat) : Word := ws.getD i 0
  { out := bit (w 0) 0
    lay := bits (w 0) 1 2
    fn := bits (w 0) 3 9
    dev := bits (w 0) 10 13 * 2 ^ 36 + (w 1).toNat
    count := bits (w 0) 15 35
    host := bits (w 2) 4 35 * 2 ^ 32 + bits (w 3) 4 35
    zeros := !bit (w 0) 14 && decide (bits (w 2) 0 3 = 0) && decide (bits (w 3) 0 3 = 0) }

/-- A descriptor that keeps the rules of its layout (19 R466); a zero COUNT, an FN past 64 and a set zero field break
them too (log entry 22). -/
def Desc.ok (d : Desc) : Bool :=
  d.zeros && decide (d.fn ≤ 64) && decide (0 < d.count) &&
    (match d.lay with
      | 0 => decide (d.count % 8 = 0) && decide (d.host % 4 = 0)
      | 1 => decide (d.host % 8 = 0)
      | 2 => true
      | _ => false)

/-- Host bytes that the first i + 1 units take: words, or characters of layout 2 (19 R466). -/
def Desc.bytesFor (d : Desc) (i : Nat) : Nat :=
  match d.lay with
  | 0 => 9 * (i / 2) + (if i % 2 = 0 then 5 else 9)
  | 1 => 8 * (i + 1)
  | _ => i + 1

/-- The device word of unit i. -/
def Desc.word (d : Desc) (i : Nat) : Nat := d.dev + (if d.lay = 2 then i / 4 else i)

/-- A number from bytes, first byte most significant, and the bytes of a number, least significant first. -/
def beBytes (bs : List Octet) : Nat := bs.foldl (fun a b => a * 256 + b.toNat) 0
def leBytes (n v : Nat) : List Octet := (List.range n).map fun i => BitVec.ofNat 8 (v / 256 ^ i)

/-- Unit i from the host's bytes (19 R466). -/
def Desc.unitIn (d : Desc) (host : List Octet) (i : Nat) : Nat :=
  match d.lay with
  | 0 =>
    if i % 2 = 0 then beBytes ((host.drop (9 * (i / 2))).take 5) / 16
    else beBytes ((host.drop (9 * (i / 2) + 4)).take 5) % 2 ^ 36
  | 1 => beBytes ((host.drop (8 * i)).take 8).reverse % 2 ^ 36
  | _ => beBytes ((host.drop i).take 1)

/-- Words as a packed string of bits; the last half byte of an odd number of words is filled with zeros (log entry 22). -/
def packWords : List Nat → List Octet
  | a :: b :: t => (leBytes 9 (a * 2 ^ 36 + b)).reverse ++ packWords t
  | [a] => (leBytes 5 (a * 16)).reverse
  | [] => []

/-- Units as the host receives them. -/
def Desc.bytesOut (d : Desc) (us : List Nat) : List Octet :=
  match d.lay with
  | 0 => packWords us
  | 1 => us.flatMap (leBytes 8)
  | _ => us.map (BitVec.ofNat 8)

/-- A transfer as far as it has come: state, units moved, what went out, and the code that ended it. -/
structure Xfer where
  s : State
  n : Nat
  out : List Nat
  code : Nat
  deriving Repr

/-- One unit from the host to the device. -/
def Desc.stepIn (d : Desc) (host : List Octet) (have_ : Nat) (x : Xfer) (i : Nat) : Xfer :=
  if x.code ≠ 0 then x
  else if have_ < d.bytesFor i then { x with code := cAbsent }
  else
    let pa := d.word i
    let r := x.s.hostReach pa
    match r.1 with
    | .above => { x with s := r.2, code := cRange }
    | .shut => { x with s := r.2, code := 1 }
    | .clear =>
      let v := d.unitIn host i
      let w := if d.lay = 2 then setChar (r.2.rd pa).w (i % 4) v else wd v
      { x with s := r.2.engineWrite pa w, n := x.n + 1 }

/-- One unit from the device to the host; a marked character ends an octet transfer. -/
def Desc.stepOut (d : Desc) (answered : Nat) (x : Xfer) (i : Nat) : Xfer :=
  if x.code ≠ 0 then x
  else
    let pa := d.word i
    let r := x.s.hostReach pa
    match r.1 with
    | .above => { x with s := r.2, code := cRange }
    | .shut => { x with s := r.2, code := 1 }
    | .clear =>
      match r.2.engineRead pa with
      | .error s => { x with s, code := cRange }
      | .ok (c, s) =>
        let v := if d.lay = 2 then charOf c.w (i % 4) else c.w.toNat
        if d.lay = 2 ∧ 256 ≤ v then { x with s, code := cReserved }
        else if answered < d.bytesFor i then { x with s, code := cAbsent }
        else { x with s, n := x.n + 1, out := x.out ++ [v] }

/-- The transfer of a descriptor (19 R466). -/
def State.dmaMove (s : State) (d : Desc) (host : List Octet) (answered : Nat) : Xfer :=
  let x : Xfer := { s, n := 0, out := [], code := 0 }
  if !d.ok then { x with code := cReserved }
  else if d.out then
    let x := (List.range d.count).foldl (d.stepOut answered) x
    let s := x.s
    { x with s := { s with dmaOut := s.dmaOut ++ [(d.fn, d.host, d.bytesOut x.out)] } }
  else (List.range d.count).foldl (d.stepIn host (min host.length answered)) x

/-- The words of a channel's next descriptor; none where the ring cannot be read (log entry 22). -/
def State.dmaFetch (s : State) (pa : Nat) : Option (List Word × State) :=
  (List.range 4).foldl
    (fun r i => r.bind fun (ws, s) =>
      let h := s.hostReach (pa + i)
      if h.1 = .clear then (h.2.engineRead (pa + i)).toOption.map fun (c, s) => (ws ++ [c.w], s) else none) (some ([], s))

/-- DMA_DESCRIPTOR: a running channel takes its next descriptor. `host` is what the host's memory holds at the
descriptor's address, `answered` the bytes of the transfer that the host answers (19 R465, R466). -/
def execDmaDescriptor (n : Fin 4) (host : List Octet) (answered : Nat) (s : State) :
    Host.Outcome State Fault Refusal :=
  let p := n.val
  if s.dmaRuns p = false ∨ s.endpointUp = false then .next s
  else
    let pa := bits (s.preg pgPcie (dmaRing p)) 0 33 * 64 + 4 * (s.dmaHead p % 2 ^ s.dmaLog p)
    match s.dmaFetch pa with
    | none => .next (s.mcheck 64 3 pgPcie)
    | some (ws, s) =>
      let x := s.dmaMove (descOf ws) host answered
      let s := x.s.engineWrite (pa + 3) (fld 0 0 1 ||| fld 6 26 x.n ||| fld 27 35 x.code)
      .next (s.setPregF pgPcie (dmaPtr p) 6 20 (s.dmaHead p + 1))

end Sys2Proof.Machine
end

