-- ==== Sys2Proof/Machine/PageMap.lean ====
section
/-! DEFINITION. The control pages: what a load reads and what a write does, its checks in the order of R474, commit
groups, locks and rejections (07 R172, R180; 13 R311-R313, R333; 14 R341; 15 R389, R390; 16 R411; 17 R413-R427, R474; 18
R454; 19 R457, R465). -/

namespace Sys2Proof.Machine

/-! ### The common header -/

/-- The catalogue row of a page and its instance (17 Table 17-1). -/
def pageKind (p : Nat) : Nat :=
  if p < 64 then 1 else if p < 72 then 2 else if p < 80 then 3 else if p < 88 then 4 else p - 83
def pageInst (p : Nat) : Nat := if p < 64 then p else if p < 88 then p % 8 else 0

/-- The power domain of the page's block is on, a link port's while its EN is 1 (18 R440); the sticky record page always
answers (17 R418). -/
def State.pageOn (s : State) (p : Nat) : Bool :=
  decide (p = pgSticky) || (s.pins.pwrGood &&
    (if p < 64 then s.domOn (.core (coreFin p))
      else if p < 72 then s.domOn (.fabric (clusterFin p))
      else if p < 80 then s.domOn (.dram (clusterFin p))
      else if p < 88 then bit (s.preg p 0o021) 35
      else if p = pgPcie then s.domOn .pcie
      else if p = pgQueue then s.halfOn 0 || s.halfOn 8192
      else if p = pgMal then s.domOn .maltster
      else if p = pgCellar then s.domOn .cellar
      else true))

/-- A word of a page whose block is off; PORT_CTL of a link port answers all the same, since its EN turns the port on
(15 R389, 17 R418; log entry 70). -/
def State.pageDark (s : State) (p off : Nat) : Bool := !s.pageOn p && !(decide (80 ≤ p ∧ p < 88) && decide (off = 0o021))

/-- A register of the queue that QSEL names, whose half is off (13 R311). -/
def State.halfAbsent (s : State) (p off : Nat) : Bool :=
  decide (p = pgQueue) && (decide (off = 5) || (decide (0o021 ≤ off) && decide (off ≤ 0o032))) && !s.halfOn s.qsel

/-- A function of the page is suspended: a queue, or the Kiln's window once a command met it broken (17 R422). -/
def State.pageSkew (s : State) (p : Nat) : Bool :=
  (decide (p = pgQueue) && s.skewed) || (decide (p = pgKiln) && bit (s.preg p 2) 34)

/-- An accepted commit of the page waits for its safe point. -/
def State.commitPends (s : State) (p : Nat) : Bool := s.staged.any fun e => e.1 == p

/-- Direct-write mode of a page. -/
def State.direct (s : State) (p : Nat) : Bool := bit (s.preg p 7) 35

/-- The block is on and out of reset (17 Table 17-2): PERST_N holds the endpoint in reset (18 Table 18-2). -/
def State.pageRuns (s : State) (p : Nat) : Bool :=
  s.pageOn p && (decide (64 ≤ p) || decide ((s.core p).run ≠ .reset)) && !(decide (p = pgPcie) && s.pins.perstLow)

/-- The header as it reads (17 Table 17-2). -/
def State.rdHead (s : State) (p off : Nat) : Word :=
  match off with
  | 0 => fld 12 17 (pageKind p) ||| fld 18 23 (pageInst p) ||| fld 29 35 p
  | 1 => fld 18 26 1
  | 2 =>
    fld 31 31 (s.pageRuns p).toNat ||| fld 32 32 (s.commitPends p).toNat ||| fld 33 33 (bit (s.preg p 6) 0).toNat |||
      fld 34 34 (s.pageSkew p).toNat ||| fld 35 35 (decide (s.preg p 3 ≠ 0)).toNat
  | 5 => 0
  | _ => s.preg p off

/-! ### Reading -/

/-- The Cellar's registers as they read (07 Table 07-12). DESIGN CHOICE: PREP_SEL counts the prepared postings in the order
in which they were prepared, and a settled one leaves no gap (07 R180; log entry 62). -/
def State.rdCellar (s : State) (off : Nat) : Word :=
  let c := s.cel
  let entry := c.prepared[bits (s.preg pgCellar 0o032) 28 35]?
  match off with
  | 0o020 =>
    fld 31 31 (decide (c.freePairs < c.lowMark)).toNat |||
      (match c.st with
        | .off => 0
        | .scan => 1
        | .service => 2
        | .drain => 3
        | .fault => 4)
  | 0o022 => c.append
  | 0o023 => c.archive
  | 0o024 => wd c.freePairs
  | 0o026 => (seqWords c.term c.count).1
  | 0o027 => (seqWords c.term c.count).2
  | 0o030 => wd c.unacked.length
  | 0o031 => wd c.prepared.length
  | 0o033 => (entry.map Prepared.seq0).getD 0
  | 0o034 => (entry.map Prepared.seq1).getD 0
  | 0o035 => wd c.posted
  | 0o036 => wd c.refused
  | 0o037 => wd c.lone
  | 0o040 => wd c.lapTotal
  | _ => s.preg pgCellar off

/-- The Kiln's registers as they read (14 Table 14-1). DEDUCED: LANES shows the lanes that PD_STAT8 shows, all on from
reset as IO_PWR resets, though its own row gives reset 0 (18 Table 18-7; log entry 64). -/
def State.rdKiln (s : State) (off : Nat) : Word :=
  let d : KeySlot := { st := 0, ktype := 0, octets := [] }
  match off with
  | 0o020 =>
    fld 30 30 s.kiln.kek.isSome.toNat ||| fld 31 31 s.kiln.tstop.toNat ||| fld 32 35 (bits (s.pdStat ioDomains) 22 25)
  | 0o031 =>
    let k := tget d s.kiln.slots (bits (s.preg pgKiln 0o030) 24 35)
    fld 0 1 k.st ||| fld 2 5 k.ktype
  | 0o034 =>
    match s.kiln.refresh with
    | some g => fld 0 0 1 ||| fld 23 35 g
    | none => 0
  | _ => s.preg pgKiln off

/-- PORT_STATE of a port as it reads (15 Table 15-7). -/
def State.rdPortState (s : State) (p : Nat) : Word :=
  fld 20 27 (s.port p).lanes.toNat ||| fld 28 29 (s.portWidth p) ||| fld 33 35 (s.port p).st

/-- The steward/system page's own registers (17 Table 17-7, 18 Table 18-10). -/
def State.rdSys (s : State) (off : Nat) : Word :=
  match off with
  | 0o040 => fld 32 35 s.sys
  | 0o041 => fld 0 11 3664 ||| fld 12 14 2 ||| fld 15 17 1 ||| fld 18 19 Config.gradeE.toNat
  | 0o042 =>
    fld 22 22 s.straps.twin.toNat ||| fld 23 25 s.straps.smba.toNat ||| fld 26 27 s.straps.role.toNat |||
      fld 28 32 s.straps.devid.toNat
  | 0o051 => (s.core 64).tgroup
  | 0o052 => (s.core 64).wstate
  | _ => s.preg pgSys off

/-- A block register as it reads, commit groups apart. -/
def State.rdBlock (s : State) (p off : Nat) : Word :=
  let live := s.preg p off
  if p < 64 then (s.rdCore p off).getD live
  else if p < 72 then (s.rdClu (p - 64) off).getD live
  else if p < 80 then live
  else if p < 88 then (if off = 0o020 then s.rdPortState (p - 80) else live)
  else
    match p with
    | 89 => s.rdQueue (s.direct p) off
    | 90 => if 0o033 ≤ off ∧ off ≤ 0o042 then s.rdMalRes (off - 0o033) else live
    | 91 => s.rdKiln off
    | 92 => s.rdCellar off
    | 93 => (s.rdSteep off).getD live
    | 94 =>
      if 0o031 ≤ off ∧ off ≤ 0o040 then s.pdStat (clusterDomains (off - 0o031))
      else if off = 0o041 then s.pdStat ioDomains
      else if 0o052 ≤ off ∧ off ≤ 0o061 then s.rdFeff (off - 0o052)
      else if off = 0o065 then s.rdTherm
      else live
    | 95 => s.rdSys off
    | 96 => (s.rdTwin off).getD live
    | 97 => s.stickyReg off
    | 98 => if off = 0o020 then wd (s.pwr.tb / 2 ^ 36) else if off = 0o021 then wd s.pwr.tb else live
    | 99 => if off = 0o020 then setBits live 33 35 (s.port 8).st else live
    | _ => live

/-- A word of a control page as a load reads it (17 R414, R418, R420). -/
def State.pageRead (s : State) (p off : Nat) : Word :=
  match regAt p off with
  | none => 0
  | some r =>
    if off < 16 then s.rdHead p off
    else if s.pageDark p off = true ∨ s.halfAbsent p off = true then (if p < 64 ∧ off = 0o043 then 4 else 0)
    else if r.grp ≠ 0 ∧ p ≠ pgQueue ∧ s.direct p = false then s.shadowReg p off
    else s.rdBlock p off

/-! ### Commit groups -/

/-- The registers of a page that belong to commit groups, and those of one group. -/
def groupRegs (p : Nat) : List (Nat × Nat) :=
  (List.range 64).filterMap fun off => match regAt p off with
    | some r => if r.grp = 0 then none else some (off, r.grp)
    | none => none
def groupOffs (p g : Nat) : List Nat := ((groupRegs p).filter fun e => e.2 == g).map Prod.fst

/-- The state and value rules of a group on the values its registers would have (13 R333, 18 R441, R454, 19 R457). -/
def State.groupCode (s : State) (p g : Nat) (v : Nat → Word) : Nat :=
  if p = pgMal then
    if g = 1 then thrCode (v 0o021) (v 0o022)
    else if bit (s.preg pgMal 0o020) 32 then cBusy
    else evqCode (v 0o045)
  else if p < 80 then s.timingCode g (v (0o021 + g))
  else if g ≤ 8 then s.freqCode (g - 1) (bits (v (0o041 + g)) 30 35)
  else if g = 9 then s.rateCode (v 0o062)
  else 0

/-- The shadows of a group become its pending set (17 R421). -/
def State.stage (s : State) (p g : Nat) : State :=
  { s with
    staged := s.staged ++ [(p, g)]
    stagedV := (groupOffs p g).foldl (fun t off => tput t (p * 256 + off) (s.shadowReg p off)) s.stagedV }

/-- A write of COMMIT (17 R421, R474). -/
def State.commit (s : State) (p g : Nat) : Answer :=
  if !((groupRegs p).any fun e => e.2 == g) then (cReserved, s)
  else if s.direct p then (cState, s)
  else if s.staged.contains (p, g) then (cBusy, s)
  else if p = pgQueue then s.commitRing
  else if p = pgKiln then s.commitWindow
  else
    match s.groupCode p g (s.shadowReg p) with
    | 0 => (0, if p = pgMal ∧ g = 2 then (s.stage p g).applyStaged p g else s.stage p g)
    | code => (code, s)

/-- A direct write of a register of the Kiln's window (14 R341, 17 R422). -/
def State.wrWindow (s : State) (off : Nat) (v : Word) : Answer :=
  if s.anyFormatted then (cBusy, s)
  else if off = 0o022 ∧ (v.toNat < 512 ∨ 4194304 < v.toNat) then (cRange, s)
  else if off ≠ 0o023 ∧ v.toNat % 512 ≠ 0 then (cAlign, s)
  else
    let s := s.setPreg pgKiln off v
    (0, if s.windowSkewed then s else s.setPregF pgKiln 2 34 34 0)

/-- A write of a commit group's register: to the shadow, or live in direct-write mode (17 R420, R422). -/
def State.wrGroup (s : State) (p off g : Nat) (v : Word) : Answer :=
  if p = pgQueue then
    (if s.direct p = true ∧ off = 0o022 ∧ (s.queue s.qsel).st = qOff ∧ (bits v 31 35 < 4 ∨ 16 < bits v 31 35) then
      (cRange, s)
    else s.wrRing (s.direct p) off v)
  else if s.direct p = false then (0, s.setShadow p off v)
  else if p = pgKiln then s.wrWindow off v
  else
    match s.groupCode p g fun o => if o = off then v else s.preg p o with
    | 0 => (0, s.setPreg p off v)
    | code => (code, s)

/-- A change of MODE from 1 to 0 loads every shadow from its live field (17 R422). -/
def State.loadShadows (s : State) (p : Nat) : State :=
  if p = pgQueue then
    (s.que.q.map Prod.fst).foldl
      (fun s q => let c := s.queue q; s.setQueue q { c with shRing := c.ring, shShape := c.shape }) s
  else (groupRegs p).foldl (fun s e => s.setShadow p e.1 (s.preg p e.1)) s

/-- A write of MODE (17 R422). -/
def State.wrMode (s : State) (p : Nat) (v : Word) : Answer :=
  if bit v 35 = true ∧ groupRegs p = [] then (cReserved, s)
  else if s.commitPends p ∨ s.pageSkew p = true then (cBusy, s)
  else
    let s := if s.direct p && !bit v 35 then s.loadShadows p else s
    (0, s.setPreg p 7 v)

/-! ### Writers -/

/-- ERR_CODE.SRC of a writer (17 Table 17-2). -/
def srcOf (w : Writer) : Nat :=
  match w with
  | .core c => c.val
  | .host => 65
  | .smbus => 66
  | .relay => 67

/-- The update source of an outside writer (16 R400). -/
def updateSource (w : Writer) : Option Nat :=
  match w with
  | .core _ => none
  | .host => some 1
  | .smbus => some 2
  | .relay => some 3

/-- A writer may write the page: a core's token was checked at issue (17 R416), an outside agent needs its bit of
EXT_WR, and nobody outside writes EXT_WR itself (17 R419). -/
def State.mayWrite (s : State) (w : Writer) (p off : Nat) : Bool :=
  let e := s.preg pgSys 0o037
  match w with
  | .core _ => true
  | .host => bit e (3 + pageKind p) && !(decide (p = pgSys) && decide (off = 0o037))
  | .smbus => bit e (19 + pageKind p) && !(decide (p = pgSys) && decide (off = 0o037))
  | .relay => false

/-- LOCK.EXT and DOM as the writer would hold them (17 R423). -/
def State.lockAs (s : State) (w : Writer) : Word :=
  match w with
  | .core c => fld 24 35 (s.core c.val).domTok.dom
  | .host => fld 23 23 1 ||| fld 24 35 1
  | .smbus => fld 23 23 1 ||| fld 24 35 2
  | .relay => fld 23 23 1 ||| fld 24 35 3

/-- The writer is a core whose C0 holds SYSTEM. -/
def State.systemWriter (s : State) (w : Writer) : Bool :=
  match w with
  | .core c => (s.core c.val).domTok.system
  | _ => false

/-- The page is locked against this write (17 R423). -/
def State.lockedOut (s : State) (w : Writer) (p off : Nat) (v : Word) : Bool :=
  let l := s.preg p 6
  bit l 0 && decide (setBit l 0 false ≠ s.lockAs w) && decide (off ≠ 3) &&
    !(decide (off = 6) && !bit v 0 && s.systemWriter w)

/-- A write of LOCK that reached it: taken by the writer, kept by the holder, or released (17 R423). -/
def State.wrLock (s : State) (w : Writer) (p : Nat) (v : Word) : Answer :=
  (0, s.setPreg p 6 (if bit v 0 then setBit (s.lockAs w) 0 true else 0))

/-! ### Writing -/

/-- A write of ARCHIVE_POS (07 R172, R180; 15 R379): a holder sends the new position to its twin. -/
def State.wrArchive (s : State) (v : Word) : Answer :=
  let c := s.cel
  if c.st = .scan then (cBusy, s)
  else if s.standby then (cState, s)
  else if ringPairs ≤ posPair v ∨ posDist c.archive c.append < posDist c.archive v then (cRange, s)
  else
    let s := s.modCel fun c => { c with archive := v }
    (0, if s.paired && s.twin.hold || s.catching then s.sendFlits 0 [mkFlit 0o024 v 0 0 0] else s)

/-- The registers of the Cellar page (07 R180). -/
def State.wrCellar (s : State) (off : Nat) (v : Word) : Answer :=
  let ok : Answer := (0, s.setPreg pgCellar off v)
  match off with
  | 0o021 => if bits v 34 35 = 3 then (cReserved, s) else ok
  | 0o023 => s.wrArchive v
  | 0o025 => if 14913080 < v.toNat then (cRange, s) else ok
  | 0o032 => if 255 < v.toNat then (cRange, s) else ok
  | _ => ok

/-- The registers of the queue manager page (13 R311). -/
def State.wrQueuePage (s : State) (off : Nat) (v : Word) : Answer :=
  match off with
  | 0o025 => s.wrQctl (s.direct pgQueue) v
  | 0o026 => s.wrQlink v
  | 0o027 => s.wrQatt v
  | 0o030 => s.wrQattv v
  | 0o031 => (0, s.setQueue s.qsel { s.queue s.qsel with flist := v })
  | 0o032 => s.wrQflen v
  | 0o033 => s.wrParkq v
  | 0o035 => s.wrQrel v
  | 0o037 => s.wrDirEnt v
  | _ => (0, s.setPreg pgQueue off v)

/-- A store of a live field, W1C bits clearing. -/
def State.wrPlain (s : State) (p off : Nat) (r : Reg) (v : Word) : Answer :=
  (0, s.setPreg p off (r.apply (s.preg p off) v))

/-- A register of a core page, or of its namesake for the steward (17 Tables 17-6, 17-7). -/
def State.wrCorePage (s : State) (n off : Nat) (v : Word) : Answer :=
  match off with
  | 0o021 => s.wrCoreCtl n v
  | 0o025 => s.wrTaskArea n v
  | 0o030 => s.wrTlbwire n v
  | 0o026 => s.wrTgroup n v
  | 0o031 => s.wrVgate n v
  | 0o034 => s.wrIci n v
  | 0o042 => s.wrBrk n v
  | _ => (0, s.setPreg (coreOff n off).1 (coreOff n off).2 v)

/-- The registers of the steward/system page (17 R427, 18 Table 18-10). -/
def State.wrSys (s : State) (off : Nat) (v : Word) : Answer :=
  match off with
  | 0o020 => s.wrKtBase v
  | 0o043 => s.wrDbgCtl false v
  | 0o044 => s.wrDbgCtl true v
  | 0o045 => s.wrRstCmd v
  | _ => if 0o046 ≤ off then s.wrCorePage 64 (off - 0o023) v else (0, s.setPreg pgSys off v)

/-- The registers of the timers page (18 Table 18-9, R451, R454). -/
def State.wrTimer (s : State) (off : Nat) (v : Word) : Answer :=
  match off with
  | 0o052 => s.wrWdogCtl v
  | 0o053 => s.wrWdogKick v
  | _ =>
    let n := (off - 0o022) / 3
    if (off - 0o022) % 3 = 0 then (if v = 0 then (cRange, s) else (0, s.setPreg pgTimer off v)) else s.wrTmrCtl n v

/-- The registers of the power and clock page (18 Table 18-7). -/
def State.wrPowerPage (s : State) (off : Nat) (r : Reg) (v : Word) : Answer :=
  if off < 0o030 then s.wrPower off (clusterDomains (off - 0o020)) v
  else if off = 0o030 then s.wrPower off ioDomains v
  else if off = 0o064 then s.wrTherm v
  else s.wrPlain pgPower off r v

/-- The registers of the PCI Express page (19 Table 19-3). -/
def State.wrPcie (s : State) (off : Nat) (v : Word) : Answer :=
  if off < 0o024 then (0, s.setPreg pgPcie off v)
  else if off % 2 = 0 then s.wrDmaRing ((off - 0o024) / 2) v
  else s.wrDmaPtr ((off - 0o024) / 2) v

/-- A block register outside the commit groups, its word's reserved bits checked already. -/
def State.wrBlock (s : State) (w : Writer) (p off : Nat) (r : Reg) (v : Word) : Answer :=
  if p < 64 then s.wrCorePage p off v
  else if p < 72 then s.wrUnfence (p - 64) v
  else if p < 80 then s.wrPlain p off r v
  else if p < 88 then s.wrPortCtl (p - 80) v
  else
    match p with
    | 88 => s.wrPcie off v
    | 89 => s.wrQueuePage off v
    | 90 =>
      if 0o023 ≤ off ∧ off ≤ 0o032 then s.wrMalCap off v
      else if off = 0o050 then s.wrMalCmd v
      else s.wrPlain p off r v
    | 91 =>
      if off = 0o024 then s.wrKcmd (bits v 33 35) else if off = 0o036 then s.wrTampCtl v else s.wrPlain p off r v
    | 92 => s.wrCellar off v
    | 93 =>
      if off = 0o022 then s.wrSteepCmd (updateSource w) (bits v 33 35)
      else if (off = 0o021 ∧ bits v 27 35 = 0) ∨ (off = 0o037 ∧ 27 < bits v 31 35) then (cRange, s)
      else s.wrPlain p off r v
    | 94 => s.wrPowerPage off r v
    | 95 => s.wrSys off v
    | 96 =>
      if off = 0o022 then s.wrTwCmd (bits v 33 35)
      else if off = 0o040 then s.wrClCtl v
      else if off = 0o021 ∧ bits v 20 27 = 0 then (cRange, s)
      else s.wrPlain p off r v
    | 97 =>
      if off = 0o026 then s.wrLgasp v
      else if off = 0o027 ∧ 272 ≤ bits v 27 35 then (cRange, s)
      else s.wrPlain p off r v
    | 98 => s.wrTimer off v
    | 99 => s.wrAdjCtl v
    | _ => (cReserved, s)

/-- A write that has passed the checks of steps 1 to 4 of R474 and the mask of reserved bits. -/
def State.wrReg (s : State) (w : Writer) (p off : Nat) (r : Reg) (v : Word) : Answer :=
  match off with
  | 3 => s.wrPlain p 3 r v
  | 5 => s.commit p (bits v 30 35)
  | 6 => s.wrLock w p v
  | 7 => s.wrMode p v
  | _ => if r.grp ≠ 0 then s.wrGroup p off r.grp v else s.wrBlock w p off r v

/-- A rejection is recorded (17 R424). -/
def State.reject (s : State) (w : Writer) (p off code : Nat) : State :=
  (s.setPreg p 4 (fld 0 7 off ||| fld 11 17 (srcOf w) ||| fld 27 35 code)).orPreg p 3 (fld 35 35 1)

/-- The code of a write that its carrier malformed, in the order of R474: too short or misaligned (17 R417), or with bits
above the word (19 R460; log entry 22). -/
def State.malformedCode (s : State) (w : Writer) (p off : Nat) (v : Word) (short : Bool) : Nat :=
  if s.mayWrite w p off = false then 1
  else if short then cAlign
  else if s.lockedOut w p off v then cLocked
  else if (s.pageDark p off = true ∧ off ≠ 3) ∨ s.halfAbsent p off = true then cAbsent
  else cReserved

/-- The answer of a page to a write of one word: its code by R474's order, and the state. -/
def State.pageAnswer (s : State) (w : Writer) (p off : Nat) (v : Word) : Answer :=
  if s.mayWrite w p off = false then (1, s)
  else if s.lockedOut w p off v then (cLocked, s)
  else if (s.pageDark p off = true ∧ off ≠ 3) ∨ s.halfAbsent p off = true then (cAbsent, s)
  else
    match regAt p off with
    | none => (cReserved, s)
    | some r => if !r.writable || decide (v &&& r.reserved ≠ 0) then (cReserved, s) else s.wrReg w p off r v

/-- A write of one word to a page, and the record of its rejection (17 R424, R474). -/
def State.pageWrite (s : State) (w : Writer) (p off : Nat) (v : Word) : Answer :=
  match s.pageAnswer w p off v with
  | (0, s') => (0, s')
  | (code, s') => (code, s'.reject w p off code)

/-- The state a write to a page leaves. -/
def State.wrPage (s : State) (w : Writer) (p off : Nat) (v : Word) : State := (s.pageWrite w p off v).2

end Sys2Proof.Machine
end

