-- ==== Sys2Proof/Machine/Board.lean ====
section
/-! DEFINITION. What reaches the device from its board: the host's writes to BAR0, the SMBus port, JTAG and its debug (13
R314; 16 R400, R410; 17 R419; 18 R452, R453; 19 R458-R464, R467, R468). -/

namespace Sys2Proof.Machine

/-! ### PCI Express BAR0 -/

/-- DOORBELL. -/
def execDoorbell (fn : BitVec 7) (q : BitVec 14) (w3 : Word) (s : State) : Host.Outcome State Fault Refusal :=
  .next (if s.endpointUp then s.ringDoorbell fn.toNat q.toNat w3 else s)

/-- RETIRE_WORD. -/
def execRetireWord (fn : BitVec 7) (q : BitVec 14) (v : Word) (s : State) : Host.Outcome State Fault Refusal :=
  .next (if s.endpointUp then s.retireTo fn.toNat q.toNat v else s)

/-- MB_SUBMIT. -/
def execMbSubmit (v : Word) (s : State) : Host.Outcome State Fault Refusal :=
  .next (if s.endpointUp then s.mbWrite v else s)

/-- SV_START. -/
def execSvStart (v : Word) (s : State) : Host.Outcome State Fault Refusal :=
  .next (if s.endpointUp then s.svWrite v else s)

/-- A write of HOST_DB: vector 48 + j for each bit 20 + j of MASK (19 R463). -/
def State.hostRing (s : State) (c : Nat) (v : Word) : State :=
  ((List.range 16).filter fun j => bit v (20 + j)).foldl (fun s j => s.pendInt c (48 + j)) s

/-- HOST_DB. -/
def execHostDb (c : CoreId) (v : Word) (s : State) : Host.Outcome State Fault Refusal :=
  .next (if s.endpointUp then s.hostRing c.val v else s)

/-- A doorbell slot written by a function: words 0 to 2 are kept, word 3 rings, byte 32 retires (19 R461). -/
def State.hostSlot (s : State) (fn q i : Nat) (v : Word) : State :=
  if i < 3 then (if (s.queue q).fn = fn then s.setDbWord q i v else s.badWrite)
  else if i = 3 then s.ringDoorbell fn q v
  else if i = 4 then s.retireTo fn q v
  else s.badWrite

/-- Raw bytes of a host write, those of its size. -/
def hostBytes (v : BitVec 64) (size : Nat) : List Octet := leBytes size v.toNat

/-- Bytes written into the MSI-X table of a function (19 R463). -/
def State.msixWrite (s : State) (fn off : Nat) (bs : List Octet) : State :=
  { s with msixTab := bs.zipIdx.foldl (fun t bi => tset 0 t (fn * 2 ^ 14 + off + bi.2) bi.1) s.msixTab }

/-- A host write to a slot of BAR0 by function fn, at a byte offset, of a size in bytes (19 R459, R460, Table 19-2). -/
def State.hostStore (s : State) (fn off : Nat) (v : BitVec 64) (size : Nat) : State :=
  let w := wd v.toNat
  let short := decide (size < 8) || decide (off % 8 ≠ 0)
  let bad := short || decide (2 ^ 36 ≤ v.toNat)
  if off < 0x100000 then (if bad then s.badWrite else s.hostSlot fn (off / 64) (off % 64 / 8) w)
  else if fn ≠ 0 then
    (if off < 0x100100 then s.msixWrite fn (off - 0x100000) (hostBytes v size) else s.badWrite)
  else if off < 0x132000 then
    let p := (off - 0x100000) / 2048
    let o := off % 2048 / 8
    if bad then s.reject .host p o (s.malformedCode .host p o w short) else s.wrPage .host p o w
  else if 0x200000 ≤ off ∧ off < 0x201000 then s.fillBuffer 1 (off - 0x200000) (hostBytes v size)
  else if 0x300000 ≤ off ∧ off < 0x304000 then s.msixWrite 0 (off - 0x300000) (hostBytes v size)
  else if bad then s.badWrite
  else if off = 0x201000 then s.mbWrite w
  else if off = 0x201010 then s.svWrite w
  else if 0x202000 ≤ off ∧ off ≤ 0x202200 then s.hostRing ((off - 0x202000) / 8) w
  else s.badWrite

/-- Bytes as a little-endian number. -/
def leNumber (bs : List Octet) : Nat := bs.foldr (fun b v => v * 256 + b.toNat) 0

/-- What a host read of the slot of BAR0 that holds a byte answers (17 R419; 19 R459-R461, R464, Table 19-2): the words
and bytes that the host has written there, a page's word, MB_STAT; 0 elsewhere. -/
def State.hostLoad (s : State) (fn off : Nat) : Nat :=
  let o := off - off % 8
  let raw (at_ : Nat → Octet) : Nat := leNumber ((List.range 8).map at_)
  let table : Nat := raw fun i => tget 0 s.msixTab (fn * 2 ^ 14 + o % 2 ^ 14 + i)
  if o < 0x100000 then
    let q := o / 64
    if o % 64 < 24 ∧ (s.queue q).fn = fn then (s.dbWord q (o % 64 / 8)).toNat else 0
  else if fn ≠ 0 then (if o < 0x100100 then table else 0)
  else if o < 0x132000 then (s.pageRead ((o - 0x100000) / 2048) (o % 2048 / 8)).toNat
  else if 0x200000 ≤ o ∧ o < 0x201000 then raw fun i => (s.buffer 1).getD (o - 0x200000 + i) 0
  else if o = 0x201008 then (fld 0 0 s.mgmt.mbDone.toNat ||| fld 27 35 s.mgmt.mbCode).toNat
  else if 0x300000 ≤ o ∧ o < 0x304000 then table
  else 0

/-- HOST_WRITE (19 R460), and a host read of BAR0 (17 R419). -/
def execHostWrite (fn : BitVec 7) (off : Nat) (v : HostAccess) (size : Nat) (s : State) :
    Host.Outcome State Fault Refusal :=
  .next (if s.endpointUp = false ∨ 64 < fn.toNat then s
    else match v with
      | .write v => s.hostStore fn.toNat off v size
      | .read => { s with hostOut := s.hostLoad fn.toNat off })

/-! ### SMBus -/

/-- The port answers: it lies in the always-on island, and needs no main power (18 R450, 19 R467). -/
def State.smbUp (s : State) : Bool := !s.pins.porstLow

/-- Modify the management ports. -/
def State.modMgmt (s : State) (f : Mgmt → Mgmt) : State := { s with mgmt := f s.mgmt }

/-- RESULT becomes a code. -/
def State.smbResult (s : State) (code : Nat) : State := s.modMgmt fun m => { m with result := code }

/-- The window pointer advances one word. -/
def Mgmt.advance (m : Mgmt) : Mgmt :=
  let t := m.page * 256 + m.off + 1
  { m with page := t / 256 % 256, off := t % 256 }

/-- A Spent device's window reaches only the sticky record page (16 R410, 19 R467). -/
def State.smbReach (s : State) : Bool := !s.steep.spent || decide (s.mgmt.page = pgSticky)

/-- A transaction of the port: one with a wrong PEC is discarded (19 R467). -/
def State.smb (s : State) (pecGood : Bool) (act : State) : State :=
  if s.smbUp = false then s else if pecGood then act else s.smbResult cCheck

/-- SET_WINDOW_POINTER: command 0x01. -/
def execSetWindowPointer (page off : Octet) (pecGood : Bool) (s : State) : Host.Outcome State Fault Refusal :=
  .next (s.smb pecGood (s.modMgmt fun m => { m with page := page.toNat, off := off.toNat }))

/-- WINDOW_READ: command 0x02; a word past the pages reads zero (17 R413, R419). -/
def execWindowRead (s : State) : Host.Outcome State Fault Refusal :=
  let m := s.mgmt
  let w := if s.smbReach && decide (m.page < 100) then s.pageRead m.page m.off else 0
  .next (s.smb true (s.modMgmt fun m => { m.advance with out := (leBytes 5 w.toNat).reverse }))

/-- A write at the window pointer: its code and the state (17 R419; 19 R467). Bits above the word count as set reserved
bits (log entry 22). -/
def State.windowWrite (s : State) (v : Nat) : Answer :=
  let m := s.mgmt
  if 100 ≤ m.page ∨ s.smbReach = false then (cAbsent, s)
  else if 2 ^ 36 ≤ v then
    let code := s.malformedCode .smbus m.page m.off (wd v) false
    (code, s.reject .smbus m.page m.off code)
  else s.pageWrite .smbus m.page m.off (wd v)

/-- WINDOW_WRITE: command 0x03, a block of 5 bytes. -/
def execWindowWrite (bytes : List Octet) (pecGood : Bool) (s : State) : Host.Outcome State Fault Refusal :=
  if bytes.length ≠ 5 then .next s
  else
    let r := s.windowWrite (beBytes bytes)
    .next (s.smb pecGood ((r.2.smbResult r.1).modMgmt Mgmt.advance))

/-- READ_RESULT: command 0x04. -/
def execReadResult (s : State) : Host.Outcome State Fault Refusal :=
  .next (s.smb true (s.modMgmt fun m => { m with out := [BitVec.ofNat 8 m.result] }))

/-- PIECE_BUFFER_WRITE: command 0x10, an offset and 1 to 128 bytes; the buffer has main power only. -/
def execPieceBufferWrite (off : Nat) (bytes : List Octet) (pecGood : Bool) (s : State) :
    Host.Outcome State Fault Refusal :=
  if bytes = [] ∨ 128 < bytes.length then .next s
  else .next (s.smb pecGood (if s.pins.pwrGood then s.fillBuffer 2 off bytes else s))

/-- SMBUS_SUBMIT: command 0x11; ABSENT without main power. -/
def execSmbusSubmit (number : Nat) (pecGood : Bool) (s : State) : Host.Outcome State Fault Refusal :=
  let r := if s.pins.pwrGood then s.submit 2 number (s.buffer 2) else (cAbsent, s)
  .next (s.smb pecGood (r.2.smbResult r.1))

/-- SMB_ALERT_N is low (19 R467). -/
def State.smbAlert (s : State) : Bool := decide (s.preg pgSticky 0o020 ≠ 0) || decide (2 ≤ s.health)

/-- ALERT_RESPONSE: the port answers with its 7-bit address while SMB_ALERT_N is low. -/
def execAlertResponse (s : State) : Host.Outcome State Fault Refusal :=
  .next (s.smb true (s.modMgmt fun m =>
    { m with out := if s.smbAlert then [BitVec.ofNat 8 (0x58 + s.straps.smba.toNat)] else [] }))

/-! ### JTAG -/

/-- An instruction with the data register it selects. -/
def State.jtag (s : State) (ir : Octet) (dr drBits : Nat) : State := s.modMgmt fun m => { m with ir, dr, drBits }

/-- The boundary register as captured: its 4,812 cells hold what the balls carry, which the model does not show (log
entry 3). -/
def State.boundaryReg (s : State) (ir : Octet) : State :=
  let d := s.draw
  d.2.jtag ir (Config.free d.1 % 2 ^ 4812) 4812

/-- BYPASS: not on a Spent device (18 R452). -/
def execBypass (s : State) : Host.Outcome State Fault Refusal :=
  .next (if s.steep.spent then s else s.jtag 0xFF 0 1)

/-- IDCODE (19 R468). -/
def execIdcode (s : State) : Host.Outcome State Fault Refusal := .next (s.jtag 0x01 0x20E50B4B 32)

/-- SAMPLE/PRELOAD. -/
def execSamplePreload (s : State) : Host.Outcome State Fault Refusal :=
  .next (if s.steep.spent then s else s.boundaryReg 0x02)

/-- An instruction that drives balls is accepted: only while PORST_N is low (18 R452). -/
def State.mayDrive (s : State) : Bool := s.pins.porstLow && !s.steep.spent

/-- EXTEST. -/
def execExtest (s : State) : Host.Outcome State Fault Refusal := .next (if s.mayDrive then s.boundaryReg 0x03 else s)

/-- EXTEST_PULSE. -/
def execExtestPulse (s : State) : Host.Outcome State Fault Refusal :=
  .next (if s.mayDrive then s.boundaryReg 0x04 else s)

/-- EXTEST_TRAIN. -/
def execExtestTrain (s : State) : Host.Outcome State Fault Refusal :=
  .next (if s.mayDrive then s.boundaryReg 0x05 else s)

/-- CLAMP. -/
def execClamp (s : State) : Host.Outcome State Fault Refusal := .next (if s.mayDrive then s.jtag 0x06 0 1 else s)

/-- HIGHZ. -/
def execHighz (s : State) : Host.Outcome State Fault Refusal := .next (if s.mayDrive then s.jtag 0x07 0 1 else s)

/-- DBG_SEL (19 Table 19-6). -/
def execDbgSel (core : Octet) (s : State) : Host.Outcome State Fault Refusal :=
  .next (if s.steep.spent then s
    else (s.jtag 0x20 core.toNat 8).modMgmt fun m => { m with sel := core.toNat, trace := 0 })

/-- DBG_DATA with an operation and its operand or result (19 Table 19-6). -/
def State.dbgData (s : State) (op : Nat) (v : Word) : State := s.jtag 0x21 (op * 2 ^ 36 + v.toNat) 40

/-- Debug reaches the selected core (18 R453). -/
def State.dbgReach (s : State) : Bool := s.debuggable s.mgmt.sel && !s.steep.spent

/-- The selected core is halted: by debug, or in Halt-check. -/
def State.dbgStopped (s : State) : Bool :=
  let k := s.core s.mgmt.sel
  s.dbgReach && (k.dbgHalt || decide (k.run = .halted))

/-- HALT (18 R453, 09 R221): a commit phase completes first; a core in WAIT stops with WAIT as its PC. -/
def execHalt (s : State) : Host.Outcome State Fault Refusal :=
  let n := s.mgmt.sel
  let r := (s.core n).run
  if s.dbgReach = false ∨ ¬(r = .running ∨ r = .waiting) then .next s
  else
    let s := (s.completeCommitted n).dbgData 1 0
    .next ((s.modCore n fun k => { k with dbgHalt := true, dbgStep := false, run := .running }).modMgmt fun m =>
      { m with trace := 0 })

/-- STEP (18 R453): the halted core goes on for one instruction or micro-trap point. -/
def execStep (s : State) : Host.Outcome State Fault Refusal :=
  let n := s.mgmt.sel
  if s.dbgReach = false ∨ (s.core n).dbgHalt = false then .next s
  else
    .next (((s.dbgData 2 0).modCore n fun k => { k with dbgHalt := false, dbgStep := true, brkPass := true }).modMgmt
      fun m => { m with trace := 0 })

/-- RESUME (19 Table 19-6). -/
def execResume (s : State) : Host.Outcome State Fault Refusal :=
  let n := s.mgmt.sel
  if s.dbgReach = false ∨ (s.core n).dbgHalt = false then .next s
  else .next ((s.dbgData 3 0).modCore n fun k => { k with dbgHalt := false, dbgStep := false, brkPass := true })

/-- A register of core n as debug reads it. -/
def State.dbgRead (s : State) (n : Nat) (r : DbgReg) : Word :=
  let k := s.core n
  match r with
  | .g i => k.g i.toNat
  | .c i second => if second then (k.tok i.toNat).b else (k.tok i.toNat).a
  | .da i w => (accWords (k.acc i.toNat)).getD w.toNat 0
  | .v i w => (vWords (k.vreg i.toNat)).getD w.toNat 0
  | .pc => k.pc
  | .npc => s.frameNpc n
  | .spr i => if sprListed i.toNat then k.sprRead i.toNat else 0

/-- A register written by debug; a special register takes what a MOV could write, at once. A word written to C1 to C15
clears the register's tag, and C0 keeps its token (02 R33, 11 R256; log entry 22). -/
def Core.dbgWrite (k : Core) (r : DbgReg) (v : Word) : Core :=
  match r with
  | .g i => k.setG i.toNat v
  | .c i second =>
    let t := k.tok i.toNat
    if i = 0 then k
    else k.setTok i.toNat { (if second then { t with b := v } else { t with a := v }) with tag := false }
  | .da i w => k.setAcc i.toNat (accOfWords ((accWords (k.acc i.toNat)).set w.toNat v))
  | .v i w => k.setV i.toNat (vOfWords ((vWords (k.vreg i.toNat)).set w.toNat v))
  | .pc => { k with pc := v }
  | .npc => { k with npc := some v }
  | .spr i =>
    let n := i.toNat
    if !sprListed n || sprReadOnly n || k.sprBad n v then k
    else if n = 12 then { k with ibHeld := some v }
    else
      let what : Exposed := if n = 0 then .psw else .spr n
      { (k.sprPut n v) with shadow := k.shadow.filter fun x => decide (x.what ≠ what) }

/-- A write by debug to a register of core n; the key cache index probes (11 R271). -/
def State.dbgPut (s : State) (n : Nat) (r : DbgReg) (v : Word) : State :=
  if r = .spr 51 then
    match ((probeKc n v).run s : EStateM.Result Stop State Unit) with
    | .ok _ s => s.modCore n Core.settleAll
    | .error _ s => s
  else s.modCore n fun k => k.dbgWrite r v

/-- READ_REGISTER. -/
def execReadRegister (r : DbgReg) (s : State) : Host.Outcome State Fault Refusal :=
  .next (if s.dbgStopped then s.dbgData 4 (s.dbgRead s.mgmt.sel r) else s)

/-- WRITE_REGISTER. -/
def execWriteRegister (r : DbgReg) (v : Word) (s : State) : Host.Outcome State Fault Refusal :=
  .next (if s.dbgStopped then (s.dbgData 5 v).dbgPut s.mgmt.sel r v else s)

/-- A word as a halted core's own load would see it: under its C0 and translation, its store buffer first. -/
def dbgLoad (n : Nat) (ptr : Word) : M Word := do
  let k ← getC n
  let va := ptrWord ptr
  let p ← access n k.c0 .read 2 storeOpt va 6 0
  let c ← fetchWord n p va k.c0.dom 6 0
  return (k.sbNaming p.pa).foldl (fun w e => mergeChars e.mask e.data w) c.w

/-- A word stored by a halted core behind its earlier stores, which drain where the buffer is full (12 R288). -/
def dbgStore (n : Nat) (ptr v : Word) : M Unit := do
  let k ← getC n
  let p ← access n k.c0 .write 3 storeOpt (ptrWord ptr) 6 0
  if 8 ≤ (← getC n).sb.length then modify (·.flushStores n)
  needRoom n 1
  pushStore n p fullMask v false

/-- READ_MEMORY; an access that fails returns a value the manual does not give (log entry 3). -/
def execReadMemory (ptr : Word) (s : State) : Host.Outcome State Fault Refusal :=
  if s.dbgStopped = false then .next s
  else
    match (dbgLoad s.mgmt.sel ptr).run s with
    | .ok w s => .next (s.dbgData 6 w)
    | .error _ s =>
      let d := s.draw
      .next (d.2.dbgData 6 (wd (Config.free d.1)))

/-- WRITE_MEMORY; an access that fails writes nothing. -/
def execWriteMemory (ptr v : Word) (s : State) : Host.Outcome State Fault Refusal :=
  if s.dbgStopped = false then .next s
  else
    match (dbgStore s.mgmt.sel ptr v).run s with
    | .ok _ s => .next (s.dbgData 7 v)
    | .error _ s => .next (s.dbgData 7 v)

/-- READ_TRACE: the taken-branch targets, newest first, one a reading (18 R453). -/
def execReadTrace (s : State) : Host.Outcome State Fault Refusal :=
  if s.dbgReach = false then .next s
  else
    .next ((s.dbgData 8 ((s.core s.mgmt.sel).targets.getD s.mgmt.trace 0)).modMgmt fun m =>
      { m with trace := (m.trace + 1) % 256 })

/-- BREAKPOINT: a core that is to issue the instruction at its armed breakpoint halts or traps (10 R235, 18 R453); `c.long`
tells that the instruction has two parcels. -/
def execBreakpoint (c : CoreAt) (s : State) : Host.Outcome State Fault Refusal :=
  .next (if s.canIssue c.core.val && s.brkHit c.core.val then (s.noteLen c.core.val (if c.long then 2 else 1)).takeBrk c.core.val else s)

end Sys2Proof.Machine
end

