-- ==== Sys2Proof/Machine/Strings.lean ====
section
/-! DEFINITION. The string instructions: move, fill, translate, compare, scan (06 R124-R139). -/

namespace Sys2Proof.Machine

/-- The register fields of a form that name a register an earlier field names (06 R125): each by its first bit, the
registers it names, and whether it may name G0. -/
def sameFields : List (Nat × List Nat × Bool) → List Nat → List (Nat × Bool)
  | [], _ => []
  | (b, rs, _) :: t, seen => (b, rs.any seen.contains) :: sameFields t (seen ++ rs)

/-- Those that name G0 and may not (06 R125). -/
def zeroFields (fs : List (Nat × List Nat × Bool)) : List (Nat × Bool) :=
  fs.map fun f => (f.1, !f.2.2 && f.2.1.contains 0)

/-- A string instruction's encoding: its register fields under R125, zero fields of MOD. -/
def stringIns (min : Nat) (o : LR) (fs : List (Nat × List Nat × Bool)) (zeros : List (Nat × Bool)) : Ins :=
  let i := insLR 0o34 min o
  { i with
    fields := i.fields ++ zeros
    ops := sameFields fs []
    zero := zeroFields fs
    regs := fs.map fun f => (f.1, f.2.1.headD 0)
    more := fs.flatMap fun f => f.2.1.drop 1
    ctl := true }

/-- A pad or fill register: a character in [27:35] (06 R125). -/
def padReg (n r role : Nat) : M Nat := do
  let w ← gr n r
  if bits w 0 26 ≠ 0 then regFault role r else return w.toNat

/-- A count register of 0 to 2^24 (06 R125). -/
def countReg (n r role : Nat) : M Nat := do
  let v := (← gr n r).toNat
  if 2 ^ 24 < v then regFault role r else return v

/-- The word offset of a pointer from an operand's start (10 Table 10-3). -/
def wordsFrom (p0 p : Word) : Nat := (ptrWord p + 2 ^ 32 - ptrWord p0) % 2 ^ 32

/-- The character a pointer names; p0 is where its operand started. -/
def readChar (n : Nat) (p0 p : Word) (role : Nat) : M Nat := do
  let c ← readWord n (ptrWord p) role (wordsFrom p0 p)
  return charOf c.w (ptrNib p)

/-- One character written, indivisibly (06 R130). -/
def writeChar (n : Nat) (p0 p : Word) (role v : Nat) : M Unit :=
  writeWord n (ptrWord p) role (wordsFrom p0 p) (charMask (ptrNib p)) (setChar 0 (ptrNib p) v)

/-- The pointer one character on, and k characters on. -/
def nextChar (p : Word) : Word := advance p 1 4

/-- Units of a resumable instruction, at most `fuel`, until one ends it; after `left` of them the interruption
that the command names is taken (06 R127, R128). -/
def unitLoop (unit : M Bool) : Nat → Option Nat → M Unit
  | 0, _ => pure ()
  | fuel + 1, left => do
    if left = some 0 then await .microTrap
    if ← unit then unitLoop unit fuel (left.map (· - 1)) else pure ()

/-- MVS (06 R131). -/
def execMvs (c : CoreId) (o : LR) (stop : Option Nat) : State → Host.Outcome State Fault Refusal :=
  let (ra, rb, rc) := (nat o.ra, nat o.rb, nat o.rc)
  issue c
    (stringIns 0o020 o [(5, [ra], false), (10, [rb], false), (26, [rc], false)] [(31, decide (nat o.mod ≠ 0))]) do
    let n := c.val
    let l ← countReg n rc 2
    let a0 ← gr n ra
    let b0 ← gr n rb
    alignChar a0 0 ra
    alignChar b0 1 rb
    let unit : M Bool := do
      let a ← gr n ra
      let b ← gr n rb
      let v ← readChar n b0 b 1
      writeChar n a0 a 0 v
      modC n fun k => ((k.setG ra (nextChar a)).setG rb (nextChar b)).setG rc (k.g rc - 1)
      return true
    unitLoop unit l stop
    return .seq

/-- MVSR (06 R132). -/
def execMvsr (c : CoreId) (o : LR) (stop : Option Nat) : State → Host.Outcome State Fault Refusal :=
  let (ra, rb, rc) := (nat o.ra, nat o.rb, nat o.rc)
  issue c
    (stringIns 0o021 o [(5, [ra], false), (10, [rb], false), (26, [rc], false)] [(31, decide (nat o.mod ≠ 0))]) do
    let n := c.val
    let l ← countReg n rc 2
    let a ← gr n ra
    let b ← gr n rb
    alignChar a 0 ra
    alignChar b 1 rb
    let unit : M Bool := do
      let i := (← gr n rc).toNat - 1
      let v ← readChar n b (advance b i 4) 1
      writeChar n a (advance a i 4) 0 v
      setGr n rc (wd i)
      return true
    unitLoop unit l stop
    return .seq

/-- FILL (06 R133). -/
def execFill (c : CoreId) (o : LR) (stop : Option Nat) : State → Host.Outcome State Fault Refusal :=
  let (ra, rb, rc) := (nat o.ra, nat o.rb, nat o.rc)
  issue c
    (stringIns 0o025 o [(5, [ra], false), (10, [rb], true), (26, [rc], false)] [(31, decide (nat o.mod ≠ 0))]) do
    let n := c.val
    let v ← padReg n rb 1
    let l ← countReg n rc 2
    let a0 ← gr n ra
    alignChar a0 0 ra
    let unit : M Bool := do
      let a ← gr n ra
      writeChar n a0 a 0 v
      modC n fun k => (k.setG ra (nextChar a)).setG rc (k.g rc - 1)
      return true
    unitLoop unit l stop
    return .seq

/-- TRS (06 R134): MOD may be RA, which then advances once. -/
def execTrs (c : CoreId) (o : LR) (stop : Option Nat) : State → Host.Outcome State Fault Refusal :=
  let (ra, rb, rc, rm) := (nat o.ra, nat o.rb, nat o.rc, nat o.mod)
  let fs := [(5, [ra], false), (10, [rb], false), (26, [rc], false)]
  issue c (stringIns 0o024 o (if rm = ra then fs else fs ++ [(31, [rm], false)]) []) do
    let n := c.val
    let l ← countReg n rc 2
    let a0 ← gr n ra
    let t ← gr n rb
    let m0 ← gr n rm
    alignChar a0 0 ra
    if ptrNib t ≠ 0 then alignFault 1 rb
    alignChar m0 3 rm
    let unit : M Bool := do
      let a ← gr n ra
      let m ← gr n rm
      let ch ← readChar n m0 m 3
      let w ← readWord n ((ptrWord t + ch / 4) % 2 ^ 32) 4 (ch / 4)
      writeChar n a0 a 0 (charOf w.w (ch % 4))
      modC n fun k =>
        let k := k.setG ra (nextChar a)
        let k := if rm = ra then k else k.setG rm (nextChar m)
        k.setG rc (k.g rc - 1)
      return true
    unitLoop unit l stop
    return .seq

/-- CMS (06 R135). -/
def execCms (c : CoreId) (o : LR) (stop : Option Nat) : State → Host.Outcome State Fault Refusal :=
  let (ra, rb, rc, rm) := (nat o.ra, nat o.rb, nat o.rc, nat o.mod)
  issue c
    (stringIns 0o022 o [(5, [ra], false), (10, [rb], false), (26, [rc, rc + 1], false), (31, [rm], true)]
      [(26, decide (rc % 2 ≠ 0))]) do
    let n := c.val
    let la ← countReg n rc 2
    let lb ← countReg n (rc + 1) 2
    let pad ← padReg n rm 3
    let a0 ← gr n ra
    let b0 ← gr n rb
    alignChar a0 0 ra
    alignChar b0 1 rb
    let pair : M (Nat × Nat) := do
      let k ← getC n
      let x ← if k.g rc = 0 then pure pad else readChar n a0 (k.g ra) 0
      let y ← if k.g (rc + 1) = 0 then pure pad else readChar n b0 (k.g rb) 1
      return (x, y)
    let unit : M Bool := do
      let (x, y) ← pair
      if x ≠ y then
        modC n fun k => k.compareFlags x y
        return false
      else
        modC n fun k =>
          let k := if k.g rc = 0 then k else (k.setG ra (nextChar (k.g ra))).setG rc (k.g rc - 1)
          if k.g (rc + 1) = 0 then k
          else (k.setG rb (nextChar (k.g rb))).setG (rc + 1) (k.g (rc + 1) - 1)
        let k ← getC n
        if k.g rc = 0 ∧ k.g (rc + 1) = 0 then modC n fun k => k.compareFlags 0 0
        return true
    if la = 0 ∧ lb = 0 then modC n fun k => k.compareFlags 0 0
    unitLoop unit (max la lb) stop
    return .seq

/-- SCS (06 R136). -/
def execScs (c : CoreId) (o : LR) (stop : Option Nat) : State → Host.Outcome State Fault Refusal :=
  let (ra, rb, rc) := (nat o.ra, nat o.rb, nat o.rc)
  issue c
    (stringIns 0o023 o [(5, [ra], false), (10, [rb], false), (26, [rc], false)]
      [(32, decide (nat o.mod % 16 ≠ 0))]) do
    let n := c.val
    let sense := o.mod.getMsbD 0
    let l ← countReg n rc 2
    let a0 ← gr n ra
    let t ← gr n rb
    alignChar a0 0 ra
    if ptrNib t ≠ 0 then alignFault 1 rb
    let map ← (List.range 15).mapM fun i => readWord n ((ptrWord t + i) % 2 ^ 32) 4 i
    let flags (z : Bool) : M Unit := modC n fun k => k.setFlags (some false) (some z) (some false) none
    let unit : M Bool := do
      let a ← gr n ra
      let ch ← readChar n a0 a 0
      if bit (map.getD (ch / 36) Cell.zero).w (ch % 36) != sense then
        flags true
        return false
      else
        modC n fun k => (k.setG ra (nextChar a)).setG rc (k.g rc - 1)
        if (← gr n rc) = 0 then flags false
        return true
    if l = 0 then flags false
    unitLoop unit l stop
    return .seq

end Sys2Proof.Machine
end

