-- ==== Sys2Proof/Machine/Edit.lean ====
section
/-! DEFINITION. EDIT and EDMK (06 R140-R148). -/

namespace Sys2Proof.Machine

/-- The edit state of PROG (06 R142, Table 06-9), with the digits of the current field still untaken and its sign
as read at the start or at NX. -/
structure EditSt where
  fill : Nat
  sig : Bool
  nz : Bool
  blank : Bool
  txt : Bool
  txs : Bool
  pend : Bool
  clen : Nat
  cback : Nat
  untaken : List Nat
  minus : Bool
  base : Word
  deriving DecidableEq, Repr

/-- PROG as it holds an edit state (06 Table 06-9). -/
def editProg (e : EditSt) : Word :=
  fld 0 3 5 ||| fld 4 12 e.fill ||| fld 13 13 e.sig.toNat ||| fld 14 14 e.nz.toNat ||| fld 15 15 e.blank.toNat |||
    fld 16 16 e.txt.toNat ||| fld 17 17 e.txs.toNat ||| fld 18 18 e.pend.toNat ||| fld 19 22 e.clen |||
    fld 23 30 e.cback

/-- The edit state that PROG holds, or a fresh one; none where R146 refuses it. -/
def editState (p : Word) : Option EditSt :=
  let fresh : EditSt :=
    { fill := 0o040, sig := false, nz := false, blank := false, txt := false, txs := false, pend := false, clen := 0
      cback := 0, untaken := [], minus := false, base := 0 }
  let kind := bits p 0 3
  if (kind ≠ 0 ∧ kind ≠ 5) ∨ bits p 31 35 ≠ 0 ∨ (bit p 18 = true ∧ bits p 19 22 = 0) ∨
      (bit p 18 = false ∧ bits p 19 30 ≠ 0) ∨ (bit p 16 = false ∧ bit p 17 = true) then none
  else if kind = 0 then some fresh
  else
    some { fresh with
      fill := bits p 4 12, sig := bit p 13, nz := bit p 14, blank := bit p 15, txt := bit p 16, txs := bit p 17
      pend := bit p 18, clen := bits p 19 22, cback := bits p 23 30 }

/-- A field is zero, and negative (06 R142). -/
def EditSt.zero (e : EditSt) : Bool := !e.nz && e.untaken.all (· == 0)
def EditSt.negative (e : EditSt) : Bool := e.minus && !e.zero

/-- The untaken digits and the sign of a field, checked (06 R147). -/
def readField (n : Nat) (e : EditSt) (p : Word) (d : Nat) : M EditSt := do
  let nibs ← readPacked n p d 2
  match badNib nibs d with
  | some i => raise 12 4 i
  | none => return { e with untaken := nibs.take d, minus := minusNib (nibs.getD d 12), base := p }

/-- A refusal of a pattern cell (10 Table 10-3 SUB 5). -/
def cellFault {α : Type} (place : Nat) : M α := raise 4 5 place

/-- Separator and point characters (06 Table 06-7). -/
def sepChar (i : Nat) : Nat :=
  match i with
  | 0 => 0o054
  | 1 => 0o056
  | 2 => 0o040
  | _ => 0o047

/-- The argument of a control cell is allowed (06 Tables 06-6, 06-7). -/
def argOk (code arg : Nat) : Bool :=
  match code with
  | 0 => decide (1 ≤ arg)
  | 5 | 6 => decide (arg ≤ 3)
  | 7 => decide (arg ≤ 1)
  | _ => decide (arg = 0)

/-- The registers of an edit instruction. -/
structure EditRegs where
  ra : Nat
  rb : Nat
  rc : Nat
  rm : Nat
  mark : Bool
  a0 : Word
  b0 : Word
  deriving DecidableEq, Repr

/-- A digit taken at G[RC]: the state after it and the digit (06 Table 06-8). -/
def takeDigit (n : Nat) (r : EditRegs) (e : EditSt) (k : Core) : M (EditSt × Nat) := do
  let p := k.g r.rc
  let c ← readWord n (ptrWord p) 2 (wordsFrom e.base p)
  let d := digitOf c.w (ptrNib p)
  if 9 < d then raise 12 4 (wordsFrom e.base p * 9 + ptrNib p - ptrNib e.base)
  return ({ e with untaken := e.untaken.drop 1, nz := e.nz || decide (d ≠ 0) }, d)

/-- The currency text to flush, as stored, and the state after (06 R142). DESIGN CHOICE: under BLANK the text is still
read, so a fault on it is still taken, and PEND is cleared (log entry 65). -/
def flushCurrency (n : Nat) (r : EditRegs) (e : EditSt) (k : Core) : M (EditSt × List Nat) := do
  if e.pend then
    let start := advanceI (k.g r.rb) (-(e.cback : Int)) 4
    let cs ← (List.range e.clen).mapM fun i => readChar n r.b0 (advance start i 4) 1
    return ({ e with pend := false, clen := 0, cback := 0 }, if e.blank then [] else cs)
  else return (e, [])

/-- What a cell group does (06 Tables 06-6, 06-8, R144): its code (16 for a literal), its cells, the state after
it, the characters emitted, the source pointer and the digits left after it. -/
structure Group where
  code : Nat
  cells : Nat
  st : EditSt
  out : List Nat
  src : Word
  d : Nat
  deriving DecidableEq, Repr

/-- The cells of a group. -/
def groupCells (cell : Nat) : Nat :=
  if cell < 0o400 then 1
  else
    match cell / 16 % 16 with
    | 0 => 1 + cell % 16
    | 1 | 4 => 2
    | _ => 1

/-- The checks of R144 that the control cell alone decides. -/
def cellChecks (r : EditRegs) (e : EditSt) (cell d p : Nat) : M Unit := do
  if 0o400 ≤ cell then
    let code := cell / 16 % 16
    if 11 ≤ code ∨ argOk code (cell % 16) = false then cellFault 0
    if code = 10 ∧ r.mark = false then cellFault 0
    if code ≠ 8 ∧ e.txt = true then cellFault 0
    if code = 8 ∧ e.txt = false then cellFault 0
    if (code = 2 ∨ code = 3) ∧ d = 0 then cellFault 0
  if p < groupCells cell then cellFault 0

/-- Characters emitted under BLANK become the fill character (06 R143). -/
def EditSt.emit (e : EditSt) (cs : List Nat) : List Nat := if e.blank then cs.map fun _ => e.fill else cs

/-- A cell group, up to its output (06 R143). DESIGN CHOICE: SE clears TXS with TXT (log entry 65). -/
def cellGroup (n : Nat) (r : EditRegs) (e : EditSt) (d p : Nat) : M Group := do
  let k ← getC n
  let pat := k.g r.rb
  let src := k.g r.rc
  let cell ← readChar n r.b0 pat 1
  cellChecks r e cell d p
  let code := if cell < 0o400 then 16 else cell / 16 % 16
  let plain (e : EditSt) (out : List Nat) : M Group :=
    return { code, cells := groupCells cell, st := e, out, src, d }
  let arg := cell % 16
  if cell < 0o400 then
    let shown := !e.txt || (e.txs != e.negative)
    plain e (e.emit [if shown then cell else e.fill])
  else
    match code with
    | 0 =>
      let _ ← (List.range arg).mapM fun i => readChar n r.b0 (advance pat (i + 1) 4) 1
      plain { e with pend := true, clen := arg, cback := arg } []
    | 1 =>
      let f ← readChar n r.b0 (nextChar pat) 1
      plain { e with fill := f } []
    | 2 =>
      let (e, x) ← takeDigit n r e k
      if e.sig = true ∨ x ≠ 0 then
        let (e, cs) ← flushCurrency n r e k
        return { code, cells := 1, st := { e with sig := true }, out := cs ++ e.emit [0o060 + x]
                 src := advance src 1 9, d := d - 1 }
      else return { code, cells := 1, st := e, out := e.emit [e.fill], src := advance src 1 9, d := d - 1 }
    | 3 =>
      let (e, x) ← takeDigit n r e k
      let (e, cs) ← flushCurrency n r e k
      return { code, cells := 1, st := { e with sig := true }, out := cs ++ e.emit [0o060 + x]
               src := advance src 1 9, d := d - 1 }
    | 4 =>
      let len ← readChar n r.b0 (nextChar pat) 1
      if 0o400 ≤ len ∨ len = 0 then cellFault 1
      let src := advance src (d + 1) 9
      let e : EditSt := { e with
        sig := false, nz := false, blank := false, txt := false, txs := false, pend := false, clen := 0, cback := 0 }
      let e ← readField n e src len
      return { code, cells := 2, st := e, out := [], src, d := len }
    | 5 => plain e (e.emit [if e.sig then sepChar arg else e.fill])
    | 6 =>
      let (e, cs) ← flushCurrency n r e k
      plain { e with sig := true } (cs ++ e.emit [sepChar arg])
    | 7 => plain { e with txt := true, txs := decide (arg = 1) } []
    | 8 => plain { e with txt := false, txs := false } []
    | 9 => plain { e with blank := e.blank || e.zero } []
    | _ => plain e []

/-- One cell group, wholly done or not begun (06 R143, R144, R147). -/
def editUnit (n : Nat) (r : EditRegs) (e : EditSt) : M EditSt := do
  let k ← getC n
  let cw := k.g r.rm
  let g ← cellGroup n r e (bits cw 3 10) (bits cw 11 35)
  let back := if g.st.pend then (if g.code = 0 then g.st.cback else g.st.cback + g.cells) else 0
  if 255 < back then cellFault 0
  let e := { g.st with cback := back }
  let ps ← g.out.zipIdx.mapM fun x => do
    let a := advance (k.g r.ra) x.2 4
    return (← probeWrite n (ptrWord a) 0 (wordsFrom r.a0 a), ptrNib a, x.1)
  for x in ps do
    modify fun s => s.storeWord n x.1 (charMask x.2.1) (setChar 0 x.2.1 x.2.2) false
  modC n fun k =>
    let k := if g.code = 10 then k.setG (r.ra + 1) (k.g r.ra) else k
    let k := k.setG r.ra (advance (k.g r.ra) g.out.length 4)
    let k := k.setG r.rb (advance (k.g r.rb) g.cells 4)
    let k := k.setG r.rc g.src
    let k := k.setG r.rm (setBits (setBits cw 3 10 g.d) 11 35 (bits cw 11 35 - g.cells))
    { k with prog := editProg e }
  return e

/-- Groups until the pattern ends (06 R145). -/
def editLoop (n : Nat) (r : EditRegs) : Nat → EditSt → Option Nat → M EditSt
  | 0, e, _ => return e
  | fuel + 1, e, left => do
    if bits (← gr n r.rm) 11 35 = 0 then return e
    if left = some 0 then await .microTrap
    let e ← editUnit n r e
    editLoop n r fuel e (left.map (· - 1))

/-- EDIT and EDMK from their register fields (06 R129, R140-R147). -/
def edit (n : Nat) (mark : Bool) (o : LR) (stop : Option Nat) : M Flow := do
  let (ra, rb, rc, rm) := (nat o.ra, nat o.rb, nat o.rc, nat o.mod)
  let k ← getC n
  let prog := k.sprSeen 6 k.prog
  match editState prog with
  | none => raise 4 4 0
  | some e =>
    let cw := k.g rm
    if bits cw 0 2 ≠ 0 ∨ 2 ^ 24 < bits cw 11 35 ∨ (bits prog 0 3 = 0 ∧ bits cw 3 10 = 0) then regFault 3 rm
    let a0 := k.g ra
    let b0 := k.g rb
    alignChar a0 0 ra
    alignChar b0 1 rb
    alignDigit (k.g rc) 2 rc
    let e ← readField n e (k.g rc) (bits cw 3 10)
    let e ← editLoop n { ra, rb, rc, rm, mark, a0, b0 } (bits cw 11 35) e stop
    modC n fun k =>
      ({ k with prog := 0 }).setFlags (some e.negative) (some e.zero) (some false) none
    return .seq

/-- The encoding of an edit instruction: EDMK's RA names a pair. -/
def editIns (min : Nat) (mark : Bool) (o : LR) : Ins :=
  { stringIns min o
      [(5, if mark then [nat o.ra, nat o.ra + 1] else [nat o.ra], false), (10, [nat o.rb], false),
       (26, [nat o.rc], false), (31, [nat o.mod], false)]
      [(5, mark && decide (nat o.ra % 2 ≠ 0))] with owner := true }

/-- EDIT. -/
def execEdit (c : CoreId) (o : LR) (stop : Option Nat) : State → Host.Outcome State Fault Refusal :=
  issue c (editIns 0o026 false o) (edit c.val false o stop)

/-- EDMK. -/
def execEdmk (c : CoreId) (o : LR) (stop : Option Nat) : State → Host.Outcome State Fault Refusal :=
  issue c (editIns 0o027 true o) (edit c.val true o stop)

end Sys2Proof.Machine
end

