-- ==== Sys2Proof/Machine/PageRows.lean ====
section
/-! DEFINITION. The commands that are writes of one control page register, or commits of one group: each is that write,
under all the checks of the page (17 R416-R424, R474). -/

namespace Sys2Proof.Machine

/-- ARCHIVE_POS (07 R172). -/
def execArchivePos (w : Writer) (v : Word) (s : State) : Host.Outcome State Fault Refusal :=
  .next (s.wrPage w pgCellar 0o023 v)

/-- VGATE (08 R199). -/
def execVgate (w : Writer) (n : Fin 64) (v : Word) (s : State) : Host.Outcome State Fault Refusal :=
  .next (s.wrPage w n.val 0o031 v)

/-- Q_CTL (13 R313). -/
def execQCtl (w : Writer) (v : Word) (s : State) : Host.Outcome State Fault Refusal :=
  .next (s.wrPage w pgQueue 0o025 v)

/-- QREL (13 R323). -/
def execQrel (w : Writer) (v : Word) (s : State) : Host.Outcome State Fault Refusal :=
  .next (s.wrPage w pgQueue 0o035 v)

/-- RING: COMMIT of group RING (13 R312). -/
def execRing (w : Writer) (s : State) : Host.Outcome State Fault Refusal := .next (s.wrPage w pgQueue 5 1)

/-- DIR_ENT (13 R335). -/
def execDirEnt (w : Writer) (v : Word) (s : State) : Host.Outcome State Fault Refusal :=
  .next (s.wrPage w pgQueue 0o037 v)

/-- PLACE: MAL_CMD, OP 1 (13 R334). -/
def execPlace (w : Writer) (s : State) : Host.Outcome State Fault Refusal := .next (s.wrPage w pgMal 0o050 1)

/-- EVICT: MAL_CMD, OP 2 (13 R334). -/
def execEvict (w : Writer) (s : State) : Host.Outcome State Fault Refusal := .next (s.wrPage w pgMal 0o050 2)

/-- BMOVE: MAL_CMD, OP 3 (13 R337). -/
def execBmove (w : Writer) (s : State) : Host.Outcome State Fault Refusal := .next (s.wrPage w pgMal 0o050 3)

/-- BABORT: MAL_CMD, OP 4 (13 R338). -/
def execBabort (w : Writer) (s : State) : Host.Outcome State Fault Refusal := .next (s.wrPage w pgMal 0o050 4)

/-- BFORCE: MAL_CMD, OP 5 (13 R338). -/
def execBforce (w : Writer) (s : State) : Host.Outcome State Fault Refusal := .next (s.wrPage w pgMal 0o050 5)

/-- THR: COMMIT of group THR (13 R333). -/
def execThr (w : Writer) (s : State) : Host.Outcome State Fault Refusal := .next (s.wrPage w pgMal 5 1)

/-- EVQ: COMMIT of group EVQ (13 R333). -/
def execEvq (w : Writer) (s : State) : Host.Outcome State Fault Refusal := .next (s.wrPage w pgMal 5 2)

/-- WINDOW: COMMIT of group WINDOW (14 R341). -/
def execWindow (w : Writer) (s : State) : Host.Outcome State Fault Refusal := .next (s.wrPage w pgKiln 5 1)

/-- FORMAT: KCMD, OP 1 (14 R348). -/
def execFormat (w : Writer) (s : State) : Host.Outcome State Fault Refusal := .next (s.wrPage w pgKiln 0o024 1)

/-- INIT: KCMD, OP 2 (14 R348). -/
def execInit (w : Writer) (s : State) : Host.Outcome State Fault Refusal := .next (s.wrPage w pgKiln 0o024 2)

/-- RESEAL: KCMD, OP 3 (14 R348). -/
def execReseal (w : Writer) (s : State) : Host.Outcome State Fault Refusal := .next (s.wrPage w pgKiln 0o024 3)

/-- RELEASE: KCMD, OP 4 (14 R348). -/
def execRelease (w : Writer) (s : State) : Host.Outcome State Fault Refusal := .next (s.wrPage w pgKiln 0o024 4)

/-- KEKLOAD: KCMD, OP 5 (14 R348). -/
def execKekload (w : Writer) (s : State) : Host.Outcome State Fault Refusal := .next (s.wrPage w pgKiln 0o024 5)

/-- TAMP_CTL (14 R363). -/
def execTampCtl (w : Writer) (v : Word) (s : State) : Host.Outcome State Fault Refusal :=
  .next (s.wrPage w pgKiln 0o036 v)

/-- PORT_CTL (15 R389). -/
def execPortCtl (w : Writer) (p : Fin 8) (v : Word) (s : State) : Host.Outcome State Fault Refusal :=
  .next (s.wrPage w (pgPort p.val) 0o021 v)

/-- ATTACH: TW_CMD, OP 1 (15 R385). -/
def execAttach (w : Writer) (s : State) : Host.Outcome State Fault Refusal := .next (s.wrPage w pgTwin 0o022 1)

/-- DETACH: TW_CMD, OP 2 (15 R385). -/
def execDetach (w : Writer) (s : State) : Host.Outcome State Fault Refusal := .next (s.wrPage w pgTwin 0o022 2)

/-- HANDOVER: TW_CMD, OP 3 (15 R385). -/
def execHandover (w : Writer) (s : State) : Host.Outcome State Fault Refusal := .next (s.wrPage w pgTwin 0o022 3)

/-- TW_TAKE: TW_CMD, OP 4 (15 R385). -/
def execTwTake (w : Writer) (s : State) : Host.Outcome State Fault Refusal := .next (s.wrPage w pgTwin 0o022 4)

/-- ACCEPT: TW_CMD, OP 5 (15 R385). -/
def execAccept (w : Writer) (s : State) : Host.Outcome State Fault Refusal := .next (s.wrPage w pgTwin 0o022 5)

/-- RESYNC: TW_CMD, OP 6 (15 R385). -/
def execResync (w : Writer) (s : State) : Host.Outcome State Fault Refusal := .next (s.wrPage w pgTwin 0o022 6)

/-- ACTIVATE: STEEP_CMD, OP 1 (16 R404). -/
def execActivate (w : Writer) (s : State) : Host.Outcome State Fault Refusal := .next (s.wrPage w pgSteep 0o022 1)

/-- CONFIRM: STEEP_CMD, OP 2 (16 R406). -/
def execConfirm (w : Writer) (s : State) : Host.Outcome State Fault Refusal := .next (s.wrPage w pgSteep 0o022 2)

/-- ABORT: STEEP_CMD, OP 3 (16 R403). -/
def execAbort (w : Writer) (s : State) : Host.Outcome State Fault Refusal := .next (s.wrPage w pgSteep 0o022 3)

/-- REVERT: STEEP_CMD, OP 4 (16 R407). -/
def execRevert (w : Writer) (s : State) : Host.Outcome State Fault Refusal := .next (s.wrPage w pgSteep 0o022 4)

/-- RELAY: STEEP_CMD, OP 5 (16 R412). -/
def execRelay (w : Writer) (s : State) : Host.Outcome State Fault Refusal := .next (s.wrPage w pgSteep 0o022 5)

/-- RST_CMD (18 Table 18-10). -/
def execRstCmd (w : Writer) (v : Word) (s : State) : Host.Outcome State Fault Refusal :=
  .next (s.wrPage w pgSys 0o045 v)

/-- RESET: CORE_CTL (17 R426, 18 R433, R439). -/
def execReset (w : Writer) (n : Fin 64) (v : Word) (s : State) : Host.Outcome State Fault Refusal :=
  .next (s.wrPage w n.val 0o021 v)

/-- PITCH: CORE_CTL with PITCH, RESET as it stands (17 R426). -/
def execPitch (w : Writer) (n : Fin 64) (s : State) : Host.Outcome State Fault Refusal :=
  .next (s.wrPage w n.val 0o021 ((s.preg n.val 0o021 &&& fld 34 34 1) ||| 1))

/-- ICI (17 Table 17-6). -/
def execIci (w : Writer) (n : Fin 64) (s : State) : Host.Outcome State Fault Refusal :=
  .next (s.wrPage w n.val 0o034 1)

/-- TASK_AREA (09 R229, 17 R427). -/
def execTaskArea (w : Writer) (c : CoreId) (v : Word) (s : State) : Host.Outcome State Fault Refusal :=
  .next (s.wrPage w (coreOff c.val 0o025).1 (coreOff c.val 0o025).2 v)

/-- TGROUP (09 R229, 17 R427). -/
def execTgroup (w : Writer) (c : CoreId) (v : Word) (s : State) : Host.Outcome State Fault Refusal :=
  .next (s.wrPage w (coreOff c.val 0o026).1 (coreOff c.val 0o026).2 v)

/-- SR_LGASP (17 R430). -/
def execSrLgasp (w : Writer) (v : Word) (s : State) : Host.Outcome State Fault Refusal :=
  .next (s.wrPage w pgSticky 0o026 v)

/-- CL_PWR (18 R440). -/
def execClPwr (w : Writer) (n : Fin 8) (v : Word) (s : State) : Host.Outcome State Fault Refusal :=
  .next (s.wrPage w pgPower (0o020 + n.val) v)

/-- IO_PWR (18 R440). -/
def execIoPwr (w : Writer) (v : Word) (s : State) : Host.Outcome State Fault Refusal :=
  .next (s.wrPage w pgPower 0o030 v)

/-- CL_FREQ: COMMIT of the group of CL_FREQn (18 R441). -/
def execClFreq (w : Writer) (n : Fin 8) (s : State) : Host.Outcome State Fault Refusal :=
  .next (s.wrPage w pgPower 5 (wd (n.val + 1)))

/-- DRAM_CLK: COMMIT of group 9 (18 R454). -/
def execDramClk (w : Writer) (s : State) : Host.Outcome State Fault Refusal := .next (s.wrPage w pgPower 5 9)

/-- ADJ_CLK: COMMIT of group 10 (18 R454). -/
def execAdjClk (w : Writer) (s : State) : Host.Outcome State Fault Refusal := .next (s.wrPage w pgPower 5 10)

/-- CORE: COMMIT of group CORE (19 R457). -/
def execCoreTiming (w : Writer) (n : Fin 8) (s : State) : Host.Outcome State Fault Refusal :=
  .next (s.wrPage w (pgDram n.val) 5 1)

/-- TURN: COMMIT of group TURN (19 R457). -/
def execTurnTiming (w : Writer) (n : Fin 8) (s : State) : Host.Outcome State Fault Refusal :=
  .next (s.wrPage w (pgDram n.val) 5 2)

/-- REF: COMMIT of group REF (19 R457). -/
def execRefTiming (w : Writer) (n : Fin 8) (s : State) : Host.Outcome State Fault Refusal :=
  .next (s.wrPage w (pgDram n.val) 5 3)

/-- SCRUB: COMMIT of group SCRUB (19 R457). -/
def execScrubTiming (w : Writer) (n : Fin 8) (s : State) : Host.Outcome State Fault Refusal :=
  .next (s.wrPage w (pgDram n.val) 5 4)

/-- CLU_UNFENCE (18 R444). -/
def execCluUnfence (w : Writer) (n : Fin 8) (v : Word) (s : State) : Host.Outcome State Fault Refusal :=
  .next (s.wrPage w (pgCluster n.val) 0o023 v)

/-- WDOG_KICK (18 R451). -/
def execWdogKick (w : Writer) (v : Word) (s : State) : Host.Outcome State Fault Refusal :=
  .next (s.wrPage w pgTimer 0o053 v)

/-- WDOG_CTL (18 R451, R454). -/
def execWdogCtl (w : Writer) (v : Word) (s : State) : Host.Outcome State Fault Refusal :=
  .next (s.wrPage w pgTimer 0o052 v)

/-- DMA_PTR (19 R465). -/
def execDmaPtr (w : Writer) (n : Fin 4) (v : Word) (s : State) : Host.Outcome State Fault Refusal :=
  .next (s.wrPage w pgPcie (dmaPtr n.val) v)

/-- DBG_CTL (18 R453). -/
def execDbgCtl (w : Writer) (high : Bool) (v : Word) (s : State) : Host.Outcome State Fault Refusal :=
  .next (s.wrPage w pgSys (if high then 0o044 else 0o043) v)

/-- BRK (18 R453). -/
def execBrk (w : Writer) (n : Fin 64) (v : Word) (s : State) : Host.Outcome State Fault Refusal :=
  .next (s.wrPage w n.val 0o042 v)

/-- LOCK (17 R423). -/
def execLock (w : Writer) (page : Fin 100) (v : Word) (s : State) : Host.Outcome State Fault Refusal :=
  .next (s.wrPage w page.val 6 v)

/-- MODE (17 R422). -/
def execMode (w : Writer) (page : Fin 100) (v : Word) (s : State) : Host.Outcome State Fault Refusal :=
  .next (s.wrPage w page.val 7 v)

/-- PAGE_WRITE (17 R474). -/
def execPageWrite (w : Writer) (page : Fin 100) (off : BitVec 8) (v : Word) (s : State) : Host.Outcome State Fault Refusal :=
  .next (s.wrPage w page.val off.toNat v)

end Sys2Proof.Machine
end

