-- ==== Sys2Proof/Machine/LoadStore.lean ====
section
/-! DEFINITION. The load and store instructions, the store buffer's drain, line fills and key record reads (02 R33, R34;
11 R266-R269, R280, R282; 12 R284-R293, R297; 17 R413-R417, R425). -/

namespace Sys2Proof.Machine

/-! ### Words of the device region -/

/-- The page of a device word and the offset in it; none for an unpopulated word (17 R413). -/
def devPage (pa : Nat) : Option (Nat × Nat) :=
  if (pa - 2 ^ 39) / 256 < 100 then some ((pa - 2 ^ 39) / 256, pa % 256) else none

/-- A token of C1 to C14 authorises page p with a right (17 R416). -/
def Core.pageToken (k : Core) (p : Nat) (right : Tok → Bool) : Bool :=
  (List.range 14).any fun i =>
    let t := k.tok (i + 1)
    t.tag && !t.sealed && !t.illFormed && decide (t.type = 4) && decide (bits t.a 29 35 = p) && right t

/-- The authority of an access to a device word, searched for at issue (17 R416). -/
def devAuthority (n pa : Nat) (right : Tok → Bool) : M Unit := do
  match devPage pa with
  | some (p, _) => if (← getC n).pageToken p right then pure () else raise 5 0 0
  | none => pure ()

/-- A device word as a load reads it (17 R413). -/
def State.devWord (s : State) (pa : Nat) : Word :=
  match devPage pa with
  | some (p, off) => s.pageRead p off
  | none => 0

/-! ### The words of a load and of a store -/

/-- The m words at a pointer's word address, translated and checked in order. -/
def accessWords (n : Nat) (dom : Tok) (kind : AKind) (sub : Nat) (o : AOpt) (va m : Nat) : M (List (Phys × Nat)) :=
  (List.range m).mapM fun i => do
    let a := (va + i) % 2 ^ 32
    let p ← access n dom kind sub o a 1 i
    return (p, a)

/-- No access to a DEV page is made while an earlier instruction may still meet its exception check (12 R293). -/
def pastFloat (n : Nat) : M Unit := do
  if !(← getC n).fpu.isEmpty then await .floating

/-- Loads of m words at a pointer: from the pages on a DEV page, else from the buffer or memory (12 R289-R293). -/
def loadAt (n : Nat) (dom : Tok) (o : AOpt) (fwd : Bool) (va m : Nat) : M (List Cell) := do
  let ps ← accessWords n dom .read 2 o va m
  if ps.any fun p => p.1.dev then
    let _ ← ps.mapM fun p => if p.1.dev then devAuthority n p.1.pa Tok.read else pure ()
    needEmpty n
    pastFloat n
    ps.mapM fun p => do
      if p.1.dev then return { w := (← get).devWord p.1.pa, tag := false }
      else fetchWord n p.1 p.2 dom.dom 1 0
  else loadWords n ps dom.dom 1 fwd

/-- Stores of words at a pointer, one entry each (12 R288, R293; 17 R416). -/
def storeAt (n : Nat) (dom : Tok) (o : AOpt) (va : Nat) (mask : BitVec 4) (ws : List Word) (tag : Bool) : M Unit := do
  let ps ← accessWords n dom .write 3 o va ws.length
  let _ ← ps.mapM fun p => if p.1.dev then devAuthority n p.1.pa Tok.configure else pure ()
  needRoom n ws.length
  let _ ← (List.zip ps ws).mapM fun pw => pushStore n pw.1.1 mask pw.2 tag
  pure ()

/-- Pointers that name a whole word, or a character (10 R236, 02 R15). -/
def wordPtr (p : Word) (rb : Nat) : M Unit := if ptrNib p = 0 then pure () else alignFault 1 rb
def charPtr (p : Word) (rb : Nat) : M Unit := if ptrNib p ≤ 3 then pure () else alignFault 1 rb

/-- The first register of a group of m must be a multiple of m (03 R50). -/
def Ins.group (i : Ins) (rd m : Nat) : Ins :=
  { i with fields := i.fields ++ [(5, decide (rd % m ≠ 0))], more := (List.range (m - 1)).map fun j => rd + 1 + j }

/-- Encoding of a form with a short and a long spelling. -/
def memIns (smaj s lmaj min : Nat) : MemForm → Ins
  | .sm o => insSM smaj o s
  | .lm o => insLM lmaj min o

/-- The operand pointer, RB and RD of such a form. -/
def memPtr (k : Core) : MemForm → Word
  | .sm o => shortPtr k (nat o.db) (nat o.rb)
  | .lm o => longPtr k (nat o.rb) o.disp
def memRb : MemForm → Nat
  | .sm o => nat o.rb
  | .lm o => nat o.rb
def memRd : MemForm → Nat
  | .sm o => nat o.rd
  | .lm o => nat o.rd

/-- The same for the half forms. -/
def halfIns (smaj lmaj : Nat) : HalfForm → Ins
  | .sm o => insSM smaj o (nat o.h)
  | .lh o => insLH lmaj 3 o
def halfPtr (k : Core) : HalfForm → Word
  | .sm o => shortPtr k (nat o.db) (nat o.rb)
  | .lh o => longPtr k (nat o.rb) o.disp
def halfRb : HalfForm → Nat
  | .sm o => nat o.rb
  | .lh o => nat o.rb
def halfRd : HalfForm → Nat
  | .sm o => nat o.rd
  | .lh o => nat o.rd
def halfH : HalfForm → Nat
  | .sm o => nat o.h
  | .lh o => nat o.h

/-! ### Loads -/

/-- LD (12 R287). -/
def execLd (c : CoreId) (o : MemForm) : State → Host.Outcome State Fault Refusal :=
  issue c (memIns 0o10 0 0o30 0 o) do
    let k ← getC c.val
    let p := memPtr k o
    wordPtr p (memRb o)
    let ws ← loadAt c.val k.domTok plainOpt true (ptrWord p) 1
    setGr c.val (memRd o) (ws.headD Cell.zero).w
    return .seq

/-- Loads of several words into consecutive registers. -/
def loadMany (c : CoreId) (m : Nat) (min : Nat) (o : LM) : State → Host.Outcome State Fault Refusal :=
  issue c ((insLM 0o30 min o).group (nat o.rd) m) do
    let k ← getC c.val
    let p := longPtr k (nat o.rb) o.disp
    wordPtr p (nat o.rb)
    let ws ← loadAt c.val k.domTok plainOpt false (ptrWord p) m
    modC c.val fun k => ws.zipIdx.foldl (fun k wi => k.setG (nat o.rd + wi.2) wi.1.w) k
    return .seq

/-- LD2 (12 R287). -/
def execLd2 (c : CoreId) (o : LM) : State → Host.Outcome State Fault Refusal := loadMany c 2 1 o

/-- LD4 (12 R287). -/
def execLd4 (c : CoreId) (o : LM) : State → Host.Outcome State Fault Refusal := loadMany c 4 2 o

/-- LDH (12 R287). -/
def execLdh (c : CoreId) (o : HalfForm) : State → Host.Outcome State Fault Refusal :=
  issue c (halfIns 0o12 0o30 o) do
    let k ← getC c.val
    let p := halfPtr k o
    wordPtr p (halfRb o)
    let ws ← loadAt c.val k.domTok plainOpt true (ptrWord p) 1
    setGr c.val (halfRd o) (wd (halfOf (ws.headD Cell.zero).w (halfH o)))
    return .seq

/-- LDC (12 R287). -/
def execLdc (c : CoreId) (o : MemForm) : State → Host.Outcome State Fault Refusal :=
  issue c (memIns 0o11 0 0o30 4 o) do
    let k ← getC c.val
    let p := memPtr k o
    charPtr p (memRb o)
    let ws ← loadAt c.val k.domTok plainOpt true (ptrWord p) 1
    setGr c.val (memRd o) (wd (charOf (ws.headD Cell.zero).w (ptrNib p)))
    return .seq

/-- The physical address that a register pair holds (02 R21). -/
def physPair (even odd : Word) : Nat := bits even 28 35 * 2 ^ 32 + bits odd 0 31

/-- LDP (11 R282). -/
def execLdp (c : CoreId) (o : LP) : State → Host.Outcome State Fault Refusal :=
  issue c (insLP 0o30 7 o) do
    let n := c.val
    needSystem n 0 0
    let k ← getC n
    let rb := nat o.rb
    if bits (k.g rb) 0 27 ≠ 0 then regFault 1 rb
    if bits (k.g (rb + 1)) 32 35 ≠ 0 then regFault 1 (rb + 1)
    let pa := physPair (k.g rb) (k.g (rb + 1))
    let s ← get
    if 2 ^ 39 ≤ pa ∨ s.populated n pa = false then
      modC n fun k => { k.setG (nat o.rd) 0 with tlbIndex := setBit k.tlbIndex 20 true }
    else
      if !(k.sbNaming pa).isEmpty then await .storeBuffer
      let sl := s.sealSeen n (pa / 2048)
      let w ← fetchWord n { pa, c := false, wt := false, dev := false, sl, bad := false } 0 0 1 0
      setGr n (nat o.rd) w.w
    return .seq

/-- The checks of a cross access before its pointer's: SYSTEM in C0, then the token in C[CX] (11 R280). -/
def crossToken (n cx : Nat) : M Tok := do
  needSystem n 0 0
  let t := (← getC n).tokSeen cx
  useToken t cx 6 6
  if t.system then raise 5 0 cx
  return t

/-- A cross access (11 R280). -/
def crossOpt : AOpt := { plainOpt with cross := true }

/-- XLD (11 R280). -/
def execXld (c : CoreId) (o : LX) : State → Host.Outcome State Fault Refusal :=
  issue c (insLX 0o30 6 o) do
    let t ← crossToken c.val (nat o.cx)
    let p := longPtr (← getC c.val) (nat o.rb) o.disp
    wordPtr p (nat o.rb)
    let ws ← loadAt c.val t crossOpt false (ptrWord p) 1
    setGr c.val (nat o.rd) (ws.headD Cell.zero).w
    return .seq

/-- A token access, which no DEV page takes (11 R266). -/
def tokenOpt : AOpt := { plainOpt with devOk := false }

/-- A pointer to an even word pair (02 R34). -/
def pairPtr (p : Word) (rb : Nat) : M Unit := if ptrNib p = 0 ∧ ptrWord p % 2 = 0 then pure () else alignFault 1 rb

/-- CLD (11 R266). -/
def execCld (c : CoreId) (o : LM) : State → Host.Outcome State Fault Refusal :=
  issue c (insLMC 0o30 5 o) do
    let k ← getC c.val
    let p := longPtr k (nat o.rb) o.disp
    pairPtr p (nat o.rb)
    let ws ← loadAt c.val k.domTok tokenOpt false (ptrWord p) 2
    let a := ws.headD Cell.zero
    let b := ws.getD 1 Cell.zero
    putTok c.val (nat o.rd) { a := a.w, b := b.w, tag := a.tag && b.tag } 0 0 2
    return .seq

/-! ### Stores -/

/-- ST (12 R287, R288). -/
def execSt (c : CoreId) (o : MemForm) : State → Host.Outcome State Fault Refusal :=
  issue c (memIns 0o10 1 0o31 0 o) do
    let k ← getC c.val
    let p := memPtr k o
    wordPtr p (memRb o)
    storeAt c.val k.domTok plainOpt (ptrWord p) fullMask [k.g (memRd o)] false
    return .seq

/-- Stores of consecutive registers. -/
def storeMany (c : CoreId) (m : Nat) (min : Nat) (o : LM) : State → Host.Outcome State Fault Refusal :=
  issue c ((insLM 0o31 min o).group (nat o.rd) m) do
    let k ← getC c.val
    let p := longPtr k (nat o.rb) o.disp
    wordPtr p (nat o.rb)
    storeAt c.val k.domTok plainOpt (ptrWord p) fullMask ((List.range m).map fun i => k.g (nat o.rd + i)) false
    return .seq

/-- ST2 (12 R287, R288). -/
def execSt2 (c : CoreId) (o : LM) : State → Host.Outcome State Fault Refusal := storeMany c 2 1 o

/-- ST4 (12 R287, R288). -/
def execSt4 (c : CoreId) (o : LM) : State → Host.Outcome State Fault Refusal := storeMany c 4 2 o

/-- The characters of half h (12 R288). -/
def halfMask (h : Nat) : BitVec 4 := if h = 0 then 0b1100 else 0b0011

/-- STH (12 R287, R288). -/
def execSth (c : CoreId) (o : HalfForm) : State → Host.Outcome State Fault Refusal :=
  issue c (halfIns 0o25 0o31 o) do
    let k ← getC c.val
    let p := halfPtr k o
    wordPtr p (halfRb o)
    let w := setHalf 0 (halfH o) (halfOf (k.g (halfRd o)) 1)
    storeAt c.val k.domTok plainOpt (ptrWord p) (halfMask (halfH o)) [w] false
    return .seq

/-- STC (12 R287, R288). -/
def execStc (c : CoreId) (o : MemForm) : State → Host.Outcome State Fault Refusal :=
  issue c (memIns 0o11 1 0o31 4 o) do
    let k ← getC c.val
    let p := memPtr k o
    charPtr p (memRb o)
    let w := setChar 0 (ptrNib p) (charOf (k.g (memRd o)) 3)
    storeAt c.val k.domTok plainOpt (ptrWord p) (charMask (ptrNib p)) [w] false
    return .seq

/-- CST (11 R266). -/
def execCst (c : CoreId) (o : LM) : State → Host.Outcome State Fault Refusal :=
  issue c (insLMC 0o31 5 o) do
    let k ← getC c.val
    let p := longPtr k (nat o.rb) o.disp
    pairPtr p (nat o.rb)
    let t := k.tokSeen (nat o.rd)
    storeAt c.val k.domTok tokenOpt (ptrWord p) fullMask [t.a, t.b] t.tag
    return .seq

/-- XST (11 R280). -/
def execXst (c : CoreId) (o : LX) : State → Host.Outcome State Fault Refusal :=
  issue c (insLX 0o31 6 o) do
    let t ← crossToken c.val (nat o.cx)
    let k ← getC c.val
    let p := longPtr k (nat o.rb) o.disp
    wordPtr p (nat o.rb)
    storeAt c.val t crossOpt (ptrWord p) fullMask [k.g (nat o.rd)] false
    return .seq

/-- The answer of a device word to STK: NO_AUTH without a token, ABSENT where unpopulated (17 R413, R416, R425). -/
def State.stkAnswer (s : State) (c : CoreId) (pa : Nat) (w : Word) : Answer :=
  match devPage pa with
  | none => (cAbsent, s)
  | some (p, off) =>
    if (s.core c.val).pageToken p Tok.configure then s.pageWrite (.core c) p off w else (1, s)

/-- STK (17 R425). -/
def execStk (c : CoreId) (o : LM) : State → Host.Outcome State Fault Refusal :=
  issue c (insLM 0o31 7 o) do
    let n := c.val
    needEmpty n
    let k ← getC n
    let p := longPtr k (nat o.rb) o.disp
    wordPtr p (nat o.rb)
    let va := ptrWord p
    match k.lookup .write va k.domTok.dom with
    | some e => if e.dev then pure () else accessFault 9 3 .write va k.domTok.dom 1 0 false
    | none => pure ()
    let ph ← access n k.domTok .write 3 plainOpt va 1 0
    pastFloat n
    let r := (← get).stkAnswer c ph.pa (k.g (nat o.rd))
    set r.2
    modC n fun k => (k.setG (nat o.rd) (wd r.1)).setFlags (some false) (some (decide (r.1 = 0))) (some false) none
    return .seq

/-! ### The memory's own events -/

/-- A wait of core n ends. -/
def State.endWait (s : State) (n : Nat) (w : Why) : State :=
  if (s.core n).wait = some w then s.modCore n fun k => { k with wait := none } else s

/-- A drained entry of a DEV page reaches its page (17 R413, R417, R474). -/
def State.drainDev (s : State) (c : CoreId) (e : SbEntry) : State :=
  match devPage e.addr with
  | none => s
  | some (p, off) =>
    if e.mask = fullMask then s.wrPage (.core c) p off e.data else s.reject (.core c) p off cAlign

/-- The head entry of a store buffer becomes visible (12 R291; 02 R33). -/
def State.drainEntry (s : State) (c : CoreId) (e : SbEntry) : State :=
  if e.dev then s.drainDev c e else s.drainStore c.val e

/-- STORE_DRAIN: the head of the buffer drains; `ue` tells that its line held uncorrectable data (10 R252, 12 R291). One of
a DEV page waits for the floating operations in flight (12 R293; log entry 58). -/
def execStoreDrain (c : CoreId) (ue : Bool) (s : State) : Host.Outcome State Fault Refusal :=
  match (s.core c.val).sb with
  | [] => .next s
  | e :: rest =>
    if e.dev && !(s.core c.val).fpu.isEmpty then .next s else
    let s := (s.modCore c.val fun k => { k with sb := rest }).endWait c.val .storeBuffer
    .next (if ue && !e.dev then s.storeLost c.val else s.drainEntry c e)

/-- The controller's count of a corrected line that came from DRAM (17 Table 17-8, 19 R457). -/
def State.lineCorrected (s : State) (line : Nat) : State :=
  if (s.placed (line / 128)).isSome then s
  else (s.bump (pgDram (line % 8)) 0o026 1).bump pgSticky (0o072 + line % 8) 1

/-- An uncorrectable line on a core's own read: machine check of class 1 with RST 1 (02 R40; 10 R252, R253). -/
def State.lineBad (s : State) (n line off : Nat) : State :=
  (if (s.placed (line / 128)).isSome then s else s.dramUe (line % 8) line).mcheck n 1 (512 + min off 127)

/-- The line takes its place in a cache of the core. -/
def State.lineIn (s : State) (n : Nat) (instrSide : Bool) (line : Nat) : State :=
  if (s.core n).resting then s
  else if instrSide then s.modCore n (·.icPut line)
  else s.dcPut n line false

/-- Core k may fetch from a line ahead of need: an executable, cacheable page of its domain holds it (12 R303). -/
def Core.mayPrefetch (k : Core) (line : Nat) : Bool :=
  if k.idI then decide (line < 2 ^ 28)
  else k.itlb.any fun e =>
    e.2.valid && e.2.x && e.2.c && !e.2.dev && (e.2.g || decide (e.2.asid.toNat = k.domTok.dom)) &&
      decide (e.2.pfn.toNat * 128 ≤ line) && decide (line < e.2.pfn.toNat * 128 + 2 ^ (tlbSpan e.2.size - 4))

/-- LINE_FILL: a line asked for arrives (12 R284, R286). A line that no load waits for does not arrive on the data side;
on the instruction side it may come ahead of need (12 R303). -/
def execLineFill (c : CoreId) (instrSide : Bool) (line : BitVec 36) (check : LineCheck) (s : State) :
    Host.Outcome State Fault Refusal :=
  let n := c.val
  let l := line.toNat
  let asked : Option Nat := match (s.core n).wait with
    | some (.lineFill m off) => if m = l then some off else none
    | _ => if instrSide && (s.core n).mayPrefetch l then some 0 else none
  match asked with
  | none => .next s
  | some off =>
    let s := s.endWait n (.lineFill l off)
    match check with
    | .good => .next (s.lineIn n instrSide l)
    | .corrected => .next ((s.lineCorrected l).lineIn n instrSide l)
    | .uncorrectable => .next (s.lineBad n l off)

/-- KEY_RECORD_READ: a record read from the key table enters a key cache, unless R42 refuses it, and the accesses that wait
for it go on (02 R42; 11 R268). -/
def execKeyRecordRead (cluster : Fin 8) (frame : BitVec 29) (s : State) : Host.Outcome State Fault Refusal :=
  let f := frame.toNat
  if s.ktWritten = false ∨ s.populated 64 (s.ktAddr f) = false then .next s
  else
    let kr := (s.rd (s.ktAddr f)).w
    let s := if (s.kcFind cluster.val f).isSome || s.badRecord f kr then s else s.kcPut cluster.val f kr
    .next ((List.range 65).foldl (fun s n => s.endWait n (.keyRecord cluster.val f)) s)

end Sys2Proof.Machine
end

