-- ==== Sys2Proof/Machine/Entries.lean ====
section
/-! DEFINITION. The events of a core between instructions: an entry at a boundary, the end of a hold, a machine check; and
an instruction word that the tables do not define (03 R45, R52, R53, R74; 09 R213-R220; 10 R233, R252-R254). -/

namespace Sys2Proof.Machine

/-- FULL_ENTRY: core c stands at a boundary, or at a micro-trap point, and takes what R233 takes there (09 R213); `c.long`
tells that the instruction at PC has two parcels (10 R239; log entry 10). -/
def execFullEntry (c : CoreAt) (s : State) : Host.Outcome State Fault Refusal :=
  match s.wake c.core.val with
  | none => .next s
  | some s =>
    if s.canIssue c.core.val then
      match (s.noteLen c.core.val (if c.long then 2 else 1)).boundary c.core.val with
      | some s => .next (s.endStep c.core.val)
      | none => .next s
    else .next s

/-- HOLD_END: the hold of a handler's entry has run out (09 R220). -/
def execHoldEnd (c : CoreId) (s : State) : Host.Outcome State Fault Refusal :=
  .next (s.modCore c.val fun k => { k with holding := false })

/-- A control-store parity error met in a routine of core n, with RST in its DETAIL (10 R252-R254; 12 R307; 17 Tables
17-8, 17-9; 18 R448): the core's control store is bad and the steward is told; on the steward, a fatal device error. -/
def State.parityError (s : State) (n detail : Nat) : State :=
  let s := (s.bump pgSticky 0o103 1).log 10 (if n = 64 then pgSys else n) 0 n
  if n = 64 then s.fatal 2 3
  else ((s.modCore n fun k => { k with csBad := true }).mcheck n 0 (detail / 512 % 2 * 512)).mcheck 64 3 n

/-- MACHINE_CHECK: a cause of Table 10-7 arises at core c; classes 4 to 6 arise at the steward only (10 R252-R254). -/
def execMachineCheck (c : CoreId) (cls : Fin 7) (detail : BitVec 10) (s : State) : Host.Outcome State Fault Refusal :=
  let n := c.val
  if 4 ≤ cls.val ∧ n ≠ 64 then .fault .malformedCommand
  else if (s.core n).run = .reset then .next s
  else
    match cls.val with
    | 0 => .next (s.parityError n detail.toNat)
    | 2 => .next (s.lossCheck n)
    | k => .next (s.mcheck n k detail.toNat)

/-- A MIN, KIND or OPC that Table 03-4 lists for the major (03 R53). -/
def definedMinor (p0 p1 : Nat) : Bool :=
  let sx := p0 % 2 ^ 8
  let lr := p1 / 2 ^ 10
  match p0 / 2 ^ 13 with
  | 0o00 => decide (1 ≤ sx) && decide (sx ≤ 0o14)
  | 0o03 => decide (p0 % 8 < 7)
  | 0o17 => decide (p0 % 8 < 6)
  | 0o20 => decide (p0 % 8 < 6)
  | 0o21 => decide (p0 % 8 < 6)
  | 0o22 => decide (p0 % 16 < 9)
  | 0o23 => decide (1 ≤ sx) && decide (sx ≤ 3)
  | 0o24 => decide (p0 % 32 < 16)
  | 0o32 => decide (p0 / 16 % 16 < 8)
  | 0o33 => decide (p0 % 16 < 2)
  | 0o34 => decide (lr ≤ 0o10) || (decide (0o20 ≤ lr) && decide (lr ≤ 0o27))
  | 0o35 => decide (lr ≤ 4) || (decide (0o20 ≤ lr) && decide (lr ≤ 0o24)) || decide (lr = 0o40) || decide (lr = 0o41)
  | 0o36 => decide (p0 % 16 < 9)
  | 0o37 => decide (4 ≤ p0 / 2 ^ 10 % 8) || (kopOf (p0 / 2 ^ 10 % 8) lr).isSome
  | _ => true

/-- The parcels select no instruction of Tables 03-3 and 03-4. -/
def undefinedParcels (p0 p1 : Nat) : Bool := undefinedFirst p0 || !definedMinor p0 p1

/-- What the decoder sees of undefined parcels: the second is fetched only where the first selects a long major. -/
def undefinedIns (p0 p1 : Nat) : Ins :=
  { (if undefinedFirst p0 = false ∧ 0o30 ≤ p0 / 2 ^ 13 then Ins.long p0 p1 else Ins.short p0) with undef := true }

/-- UNDEFINED_INSTRUCTION: its decode checks raise the exception (03 R45, R53, R74, R76). -/
def execUndefinedInstruction (c : CoreId) (p0 p1 : Parcel) (s : State) : Host.Outcome State Fault Refusal :=
  if undefinedParcels p0.toNat p1.toNat then issue c (undefinedIns p0.toNat p1.toNat) (return .seq) s
  else .fault .malformedCommand

end Sys2Proof.Machine
end

