-- ==== Sys2Proof/Machine/FloatIns.lean ====
section
/-! DEFINITION. The floating instructions and the completion of one (04 R87-R99). -/

namespace Sys2Proof.Machine

/-- A binary36 or binary72 operand (04 R87). -/
def Core.fsrc (k : Core) (dbl : Bool) (r : Nat) : Nat :=
  if dbl then (k.g r).toNat * 2 ^ 36 + (k.g (r + 1)).toNat else (k.g r).toNat

/-- The fields of a register-register floating form: which of RD and RS are pairs. -/
def fltIns (maj min : Nat) (pd ps : Bool) (o : SR) : Ins :=
  { insSR maj min o with
    fields := [(5, pd && decide (nat o.rd % 2 ≠ 0)), (10, ps && decide (nat o.rs % 2 ≠ 0))]
    more := (if pd then [nat o.rd + 1] else []) ++ (if ps then [nat o.rs + 1] else [])
    flt := true }

/-- An operation is issued to the floating unit: sources read now, RM, FTZ and the enables as seen now (04 R87, R89). The
divide/root unit holds one operation at a time (04 R90). -/
def startFp (n : Nat) (op : FOp) (dbl : Bool) (rd : Nat) (pair : Bool) (x y z : Nat) : M Flow := do
  let k ← getC n
  let long (o : FOp) : Bool := decide (o = .div) || decide (o = .sqrt)
  if long op && k.fpu.any fun o => long o.op then await .floating
  let fsr := k.loopSeen 1 k.fsr
  modC n fun k =>
    { k with
      fpu := k.fpu ++
        [{ op, dbl, dst := (k.loc rd).getD 0, pair, x, y, z, rm := bits fsr 0 2, ftz := bit fsr 3, en := fsr, pc := k.pc }] }
  return .seq

/-- A two-operand form. -/
def float2 (c : CoreId) (d : Bool) (min : Nat) (op : FOp) (o : SR) : State → Host.Outcome State Fault Refusal :=
  issue c (fltIns (if d then 0o20 else 0o17) min d d o) do
    let k ← getC c.val
    startFp c.val op d (nat o.rd) d (k.fsrc d (nat o.rd)) (k.fsrc d (nat o.rs)) 0

/-- FADD. -/
def execFadd (c : CoreId) (d : Bool) (o : SR) : State → Host.Outcome State Fault Refusal := float2 c d 0 .add o

/-- FSUB. -/
def execFsub (c : CoreId) (d : Bool) (o : SR) : State → Host.Outcome State Fault Refusal := float2 c d 1 .sub o

/-- FMUL. -/
def execFmul (c : CoreId) (d : Bool) (o : SR) : State → Host.Outcome State Fault Refusal := float2 c d 2 .mul o

/-- FDIV. -/
def execFdiv (c : CoreId) (d : Bool) (o : SR) : State → Host.Outcome State Fault Refusal := float2 c d 3 .div o

/-- FSQRT: RS is its only source. -/
def execFsqrt (c : CoreId) (d : Bool) (o : SR) : State → Host.Outcome State Fault Refusal :=
  issue c (fltIns (if d then 0o20 else 0o17) 4 d d o) do
    let k ← getC c.val
    startFp c.val .sqrt d (nat o.rd) d 0 (k.fsrc d (nat o.rs)) 0

/-- FCMP: flags under Table 04-6, unless NV traps (04 R95, R96). -/
def execFcmp (c : CoreId) (d : Bool) (o : SR) : State → Host.Outcome State Fault Refusal :=
  issue c (fltIns (if d then 0o20 else 0o17) 5 d d o) do
    modC c.val fun k =>
      let r := (fmtOf d).compare (k.fsrc d (nat o.rd)) (k.fsrc d (nat o.rs))
      let (k, ok) := k.fpFlags r.2 k.pc (k.loopSeen 1 k.fsr)
      if ok then k.setPsw 0 3 r.1 else k
    return .seq

/-- FCVT: the six conversions (04 Table 04-5). -/
def execFcvt (c : CoreId) (q : Cvt) (o : SR) : State → Host.Outcome State Fault Refusal :=
  let (min, pd, ps) := match q with
    | .sw => (0, false, false)
    | .ws => (1, false, false)
    | .dw => (2, true, false)
    | .wd => (3, false, true)
    | .sd => (4, false, true)
    | .ds => (5, true, false)
  issue c (fltIns 0o21 min pd ps o) do
    let k ← getC c.val
    startFp c.val (.cvt q) false (nat o.rd) pd 0 (k.fsrc ps (nat o.rs)) 0

/-- FMA: RA is the addend and the destination, RB and RC the factors (04 R90). -/
def execFma (c : CoreId) (d : Bool) (o : LR) : State → Host.Outcome State Fault Refusal :=
  let ra := nat o.ra
  let rb := nat o.rb
  let rc := nat o.rc
  let odd (r : Nat) : Bool := d && decide (r % 2 ≠ 0)
  issue c
    { insLR 0o35 (if d then 0o041 else 0o040) o with
      fields := [(5, odd ra), (10, odd rb), (15, decide (nat o.z ≠ 0)), (26, odd rc), (33, decide (nat o.mod % 8 ≠ 0))]
      regs := [(5, ra), (10, rb), (26, rc)]
      more := if d then [ra + 1, rb + 1, rc + 1] else []
      flt := true } do
    let k ← getC c.val
    startFp c.val (.fma (o.mod.getMsbD 0) (o.mod.getMsbD 1)) d ra d (k.fsrc d rb) (k.fsrc d rc) (k.fsrc d ra)

/-- FLOATING_COMPLETION: one operation in flight completes (04 R87, R96); with none at that place, nothing. -/
def execFloatingCompletion (c : CoreId) (idx : Nat) (s : State) : Host.Outcome State Fault Refusal :=
  let k := s.core c.val
  match k.fpu[idx]? with
  | none => .next s
  | some o => .next (s.setCore c.val (({ k with fpu := k.fpu.eraseIdx idx }).completeFp o))

end Sys2Proof.Machine
end

