-- ==== Sys2Proof/Machine/Vector.lean ====
section
/-! DEFINITION. The vector unit: register forms, memory forms, gathers, tables, gating and wake (08 R182-R199). -/

namespace Sys2Proof.Machine

/-- Element i of a register, `w` bits wide (08 Table 08-1). -/
def vElem (v : VReg) (w i : Nat) : Nat := v.toNat / 2 ^ (144 - w * (i + 1)) % 2 ^ w

/-- A register from its elements, element 0 leftmost. -/
def vOfElems (w : Nat) (l : List Nat) : VReg := BitVec.ofNat 144 (l.foldl (fun r e => r * 2 ^ w + e % 2 ^ w) 0)

/-- The elements of a register. -/
def vElems (v : VReg) (w : Nat) : List Nat := (List.range (144 / w)).map (vElem v w)

/-- The unit is awake, or the instruction waits for its wake (08 R197). DESIGN CHOICE: the steward has a vector unit with a
gate, as the ledger cores have (log entry 67). -/
def vectorAwake (n : Nat) : M Unit := do
  if (← getC n).vAwake then pure ()
  else
    modC n fun k => { k with vWaking := true }
    await .vectorWake

/-- A register form that sets no flag. -/
def vectorOp (c : CoreId) (min : Nat) (useVs : Bool) (o : SV) (f : Core → VReg → VReg → VReg) :
    State → Host.Outcome State Fault Refusal :=
  issue c (insSV min o useVs) do
    vectorAwake c.val
    modC c.val fun k => k.setV (nat o.vd) (f k (k.vreg (nat o.vd)) (k.vreg (nat o.vs)))
    return .seq

/-- Element arithmetic without carries between elements (08 R184). -/
def vectorLanes (w : Nat) (f : Nat → Nat → Nat) (a b : VReg) : VReg :=
  vOfElems w ((vElems a w).zipWith f (vElems b w))

/-- VDADD and VDSUB (08 R185). -/
def vectorDec (n : Nat) (neg : Bool) (o : SV) : M Flow := do
  vectorAwake n
  let k ← getC n
  let a := vElems (k.vreg (nat o.vd)) 4
  let b := vElems (k.vreg (nat o.vs)) 4
  match a.findIdx? fun d => decide (9 < d) with
  | some i => raise 12 5 i
  | none =>
    match b.findIdx? fun d => decide (9 < d) with
    | some i => raise 12 6 i
    | none =>
      let m := 10 ^ 36
      let t := if neg then digitsNat a + m - digitsNat b else digitsNat a + digitsNat b
      let r := t % m
      let ds := (List.range 36).map fun i => r / 10 ^ (35 - i) % 10
      modC n fun k =>
        (k.setV (nat o.vd) (vOfElems 4 ds)).setFlags (some false) (some (decide (r = 0))) (some false)
          (some (decide (m ≤ t)))
      return .seq

/-- VDADD. -/
def execVdadd (c : CoreId) (o : SV) : State → Host.Outcome State Fault Refusal :=
  issue c (insSV 0 o true) (vectorDec c.val false o)

/-- VDSUB. -/
def execVdsub (c : CoreId) (o : SV) : State → Host.Outcome State Fault Refusal :=
  issue c (insSV 1 o true) (vectorDec c.val true o)

/-- VCMP.C, VCMP.H and VCMP.W (08 R186). -/
def execVcmp (c : CoreId) (view : VView) (o : SV) : State → Host.Outcome State Fault Refusal :=
  let (min, w) := match view with
    | .c => (2, 9)
    | .h => (3, 18)
    | .w => (4, 36)
  issue c (insSV min o true) do
    vectorAwake c.val
    modC c.val fun k =>
      let eq := (vElems (k.vreg (nat o.vd)) w).zipWith (· == ·) (vElems (k.vreg (nat o.vs)) w)
      (k.setV (nat o.vd) (vOfElems w (eq.map fun e => if e then 2 ^ w - 1 else 0))).setFlags none
        (some (eq.all id)) (some false) (some (eq.any id))
    return .seq

/-- VMRG. -/
def execVmrg (c : CoreId) (o : SV) : State → Host.Outcome State Fault Refusal :=
  vectorOp c 5 true o fun k a b => (a &&& ~~~(k.vreg 0)) ||| (b &&& k.vreg 0)

/-- VCLR. -/
def execVclr (c : CoreId) (o : SV) : State → Host.Outcome State Fault Refusal := vectorOp c 6 false o fun _ _ _ => 0

/-- VMOV. -/
def execVmov (c : CoreId) (o : SV) : State → Host.Outcome State Fault Refusal := vectorOp c 7 true o fun _ _ b => b

/-- VADD.H and VADD.W. -/
def execVadd (c : CoreId) (w : Bool) (o : SV) : State → Host.Outcome State Fault Refusal :=
  vectorOp c (if w then 9 else 8) true o fun _ a b => vectorLanes (if w then 36 else 18) (· + ·) a b

/-- VSUB.H and VSUB.W. -/
def execVsub (c : CoreId) (w : Bool) (o : SV) : State → Host.Outcome State Fault Refusal :=
  let n := if w then 36 else 18
  vectorOp c (if w then 11 else 10) true o fun _ a b => vectorLanes n (fun x y => x + 2 ^ n - y) a b

/-- VAND. -/
def execVand (c : CoreId) (o : SV) : State → Host.Outcome State Fault Refusal :=
  vectorOp c 12 true o fun _ a b => a &&& b

/-- VOR. -/
def execVor (c : CoreId) (o : SV) : State → Host.Outcome State Fault Refusal :=
  vectorOp c 13 true o fun _ a b => a ||| b

/-- VXOR. -/
def execVxor (c : CoreId) (o : SV) : State → Host.Outcome State Fault Refusal :=
  vectorOp c 14 true o fun _ a b => a ^^^ b

/-- VNOT. -/
def execVnot (c : CoreId) (o : SV) : State → Host.Outcome State Fault Refusal := vectorOp c 15 true o fun _ _ b => ~~~b

/-! ### Memory forms -/

/-- A form without an index run: RI must be zero (08 Table 08-4). -/
def insLV0 (min : Nat) (o : LV) : Ins :=
  { insLV min o with fields := [(18, decide (nat o.ri ≠ 0))], regs := [(9, nat o.rb)] }

/-- A form whose RI starts a run of m registers, in banks T and H alone (08 R187). -/
def insLVRun (k : Core) (min m : Nat) (o : LV) : Ins :=
  { insLV min o with
    ops := [(18, decide (nat o.ri = 0) || decide (32 < nat o.ri + m) || decide (2 ≤ k.bank))]
    regs := [(9, nat o.rb)], more := (List.range m).map (nat o.ri + ·), ctl := true, owner := true }

/-- The base pointer of a vector memory form; `top` is the largest nibble it may carry. -/
def vectorBase (n : Nat) (o : LV) (top : Nat) : M Word := do
  let p := longPtr (← getC n) (nat o.rb) o.disp
  if top < ptrNib p then alignFault 1 (nat o.rb) else return p

/-- VLD (08 R188). -/
def execVld (c : CoreId) (o : LV) : State → Host.Outcome State Fault Refusal :=
  issue c (insLV0 0 o) do
    let n := c.val
    let p ← vectorBase n o 0
    vectorAwake n
    let d := (← getC n).domTok
    let ps ← (List.range 4).mapM fun i => do
      let va := (ptrWord p + i) % 2 ^ 32
      return (← access n d .read 2 { devOk := false, cross := false, inline := false } va 1 i, va)
    let cs ← loadWords n ps d.dom 1 false
    modC n fun k => k.setV (nat o.vd) (vOfWords (cs.map Cell.w))
    return .seq

/-- VST (08 R188). -/
def execVst (c : CoreId) (o : LV) : State → Host.Outcome State Fault Refusal :=
  issue c (insLV0 1 o) do
    let n := c.val
    let p ← vectorBase n o 0
    vectorAwake n
    let k ← getC n
    let ps ← (List.range 4).mapM fun i =>
      access n k.domTok .write 3 { devOk := false, cross := false, inline := false }
        ((ptrWord p + i) % 2 ^ 32) 1 i
    needRoom n 4
    for x in ps.zip (vWords (k.vreg (nat o.vd))) do
      pushStore n x.1 fullMask x.2 false
    return .seq

/-- The element that a gather or scatter resumes at; none where PROG is refused (08 R191). DESIGN CHOICE: a KIND of 0 is a
fresh start whatever NEXT holds (log entry 66). -/
def vectorNext (p : Word) (m : Nat) : Option Nat :=
  let kind := bits p 0 3
  let next := bits p 4 7
  if bits p 8 35 ≠ 0 ∨ (kind ≠ 0 ∧ kind ≠ 6) then none
  else if kind = 0 then some 0
  else if 1 ≤ next ∧ next < m then some next
  else none

/-- The pointer of character element x of a gather, and the word and half of half element x (08 R189). -/
def gatherChar (p : Word) (x : Int) : Word := advanceI p x 4
def gatherHalf (p : Word) (x : Int) : Nat × Nat :=
  ((((ptrWord p : Int) + x.fdiv 2) % 2 ^ 32).toNat, (x.fmod 2).toNat)

/-- The faults that first-fault gathers suppress (08 R192). -/
def suppressed (e : Stop) : Bool :=
  match e with
  | .trap x => decide (x.vec = 6) || decide (8 ≤ x.vec ∧ x.vec ≤ 10)
  | .wait _ => false

/-- PROG while element i is the next (08 Table 08-5). -/
def vectorProg (i : Nat) : Word := if i = 0 then 0 else fld 0 3 6 ||| fld 4 7 i

/-- Elements from i on, `todo` of them; answers the element whose fault ended a first-fault gather
(08 R191, R192). -/
def elements (n : Nat) (first : Bool) (unit : Nat → M Unit) : Nat → Nat → Option Nat → M (Option Nat)
  | 0, _, _ => return none
  | todo + 1, i, left => do
    modC n fun k => { k with prog := vectorProg i }
    if left = some 0 then await .microTrap
    let ok ← tryCatch (do unit i; return true) fun e =>
      if first && decide (0 < i) && suppressed e then return false else throw e
    if ok then elements n first unit todo (i + 1) (left.map (· - 1)) else return some i

/-- The checks before the elements of a gather or scatter of m, and where it starts (08 R191, R195, R197). -/
def vectorStart (n m : Nat) (o : LV) (top : Nat) : M (Nat × Word) := do
  let k ← getC n
  match vectorNext (k.sprSeen 6 k.prog) m with
  | none => raise 4 4 0
  | some i =>
    let p ← vectorBase n o top
    vectorAwake n
    return (i, p)

/-- The end of a gather: PROG, and VFL and Z of a first-fault form (08 R192). -/
def gatherEnd (n m : Nat) (first : Bool) (stopped : Option Nat) : M Flow := do
  modC n fun k =>
    let k := { k with prog := 0 }
    if first then
      ({ (k.expose (.spr 7) k.vfl Tok.clear 4) with vfl := wd (stopped.getD m) }).setFlags none
        (some stopped.isNone) none none
    else k
  return .seq

/-- VGC and VGCF: 16 characters. -/
def gatherChars (c : CoreId) (min : Nat) (first : Bool) (o : LV) (stop : Option Nat) (s : State) :
    Host.Outcome State Fault Refusal :=
  issue c (insLVRun (s.core c.val) min 16 o)
    (do
      let n := c.val
      let (i, p) ← vectorStart n 16 o 3
      let unit (i : Nat) : M Unit := do
        let k ← getC n
        let q := gatherChar p (k.g (nat o.ri + i)).toInt
        let w ← readWord n (ptrWord q) 5 i
        modC n fun k =>
          k.setV (nat o.vd) (vOfElems 9 ((vElems (k.vreg (nat o.vd)) 9).set i (charOf w.w (ptrNib q))))
      gatherEnd n 16 first (← elements n first unit (16 - i) i stop)) s

/-- VGW and VGWF: 8 halves. -/
def gatherHalves (c : CoreId) (min : Nat) (first : Bool) (o : LV) (stop : Option Nat) (s : State) :
    Host.Outcome State Fault Refusal :=
  issue c (insLVRun (s.core c.val) min 8 o)
    (do
      let n := c.val
      let (i, p) ← vectorStart n 8 o 0
      let unit (i : Nat) : M Unit := do
        let k ← getC n
        let (a, h) := gatherHalf p (k.g (nat o.ri + i)).toInt
        let w ← readWord n a 5 i
        modC n fun k =>
          k.setV (nat o.vd) (vOfElems 18 ((vElems (k.vreg (nat o.vd)) 18).set i (halfOf w.w h)))
      gatherEnd n 8 first (← elements n first unit (8 - i) i stop)) s

/-- VGC. -/
def execVgc (c : CoreId) (o : LV) (stop : Option Nat) : State → Host.Outcome State Fault Refusal :=
  gatherChars c 2 false o stop

/-- VGCF. -/
def execVgcf (c : CoreId) (o : LV) (stop : Option Nat) : State → Host.Outcome State Fault Refusal :=
  gatherChars c 3 true o stop

/-- VGW. -/
def execVgw (c : CoreId) (o : LV) (stop : Option Nat) : State → Host.Outcome State Fault Refusal :=
  gatherHalves c 4 false o stop

/-- VGWF. -/
def execVgwf (c : CoreId) (o : LV) (stop : Option Nat) : State → Host.Outcome State Fault Refusal :=
  gatherHalves c 5 true o stop

/-- VSC: 16 characters stored in ascending element order (08 R189). -/
def execVsc (c : CoreId) (o : LV) (stop : Option Nat) (s : State) : Host.Outcome State Fault Refusal :=
  issue c (insLVRun (s.core c.val) 6 16 o)
    (do
      let n := c.val
      let (i, p) ← vectorStart n 16 o 3
      let unit (i : Nat) : M Unit := do
        let k ← getC n
        let q := gatherChar p (k.g (nat o.ri + i)).toInt
        writeWord n (ptrWord q) 5 i (charMask (ptrNib q)) (setChar 0 (ptrNib q) (vElem (k.vreg (nat o.vd)) 9 i))
      gatherEnd n 16 false (← elements n false unit (16 - i) i stop)) s

/-- The 128 words of a table (08 R194). -/
def readTable (n : Nat) (p : Word) : M (List Word) :=
  (List.range 128).mapM fun i => do return (← readWord n ((ptrWord p + i) % 2 ^ 32) 4 i).w

/-- Entry ch of a table. -/
def tableEntry (t : List Word) (ch : Nat) : Nat := charOf (t.getD (ch / 4) 0) (ch % 4)

/-- VCLS (08 R194). -/
def execVcls (c : CoreId) (o : LV) : State → Host.Outcome State Fault Refusal :=
  issue c
    { insLV 7 o with
      zero := [(18, decide (nat o.ri = 0))], regs := [(9, nat o.rb), (18, nat o.ri)], ctl := true } do
    let n := c.val
    let sel ← padReg n (nat o.ri) 2
    let p ← vectorBase n o 0
    vectorAwake n
    let t ← readTable n p
    modC n fun k =>
      let hits := (vElems (k.vreg (nat o.vd)) 9).map fun ch => decide (tableEntry t ch &&& sel ≠ 0)
      let mask := hits.foldl (fun r b => r * 2 + b.toNat) 0
      (k.setG (nat o.ri) (wd mask)).setFlags none (some (decide (mask = 0))) none none
    return .seq

/-- VTR (08 R194). -/
def execVtr (c : CoreId) (o : LV) : State → Host.Outcome State Fault Refusal :=
  issue c { insLV0 8 o with ctl := true } do
    let n := c.val
    let p ← vectorBase n o 0
    vectorAwake n
    let t ← readTable n p
    modC n fun k => k.setV (nat o.vd) (vOfElems 9 ((vElems (k.vreg (nat o.vd)) 9).map (tableEntry t)))
    return .seq

/-! ### Gating and wake -/

/-- VECTOR_UNIT_GATE: IDLE cycles have passed without a vector instruction; never under HOLD or in Rest mode
(08 R197-R199). -/
def execVectorUnitGate (c : CoreId) (s : State) : Host.Outcome State Fault Refusal :=
  if bit (s.creg c.val 0o031) 17 ∨ bit (s.core c.val).psw 13 then .next s
  else .next (s.modCore c.val fun k => { k with vAwake := false })

/-- VECTOR_UNIT_WAKE: the 240 cycles of a wake that was started have passed (08 R197, R198). -/
def execVectorUnitWake (c : CoreId) (s : State) : Host.Outcome State Fault Refusal :=
  if (s.core c.val).vWaking then
    .next (s.modCore c.val fun k => { k with vAwake := true, vWaking := false })
  else .next s

end Sys2Proof.Machine
end

