-- ==== Sys2Proof/Machine/Dispatch.lean ====
section
/-! DEFINITION. One arm per command: a direct call of its meaning. -/

namespace Sys2Proof.Machine

def exec (i : Instr) (s : State) : Host.Outcome State Fault Refusal :=
  match i with
  | .wait c o => Sys2Proof.Machine.execWait c o s
  | .sync c o => Sys2Proof.Machine.execSync c o s
  | .iflush c o => Sys2Proof.Machine.execIflush c o s
  | .fbar c o => Sys2Proof.Machine.execFbar c o s
  | .reti c o => Sys2Proof.Machine.execReti c o s
  | .enter c o => Sys2Proof.Machine.execEnter c o s
  | .leave c o => Sys2Proof.Machine.execLeave c o s
  | .trap c o => Sys2Proof.Machine.execTrap c o s
  | .tlbw c o => Sys2Proof.Machine.execTlbw c o s
  | .tlbi c o => Sys2Proof.Machine.execTlbi c o s
  | .kinv c o => Sys2Proof.Machine.execKinv c o s
  | .jr c o => Sys2Proof.Machine.execJr c o s
  | .bc c o => Sys2Proof.Machine.execBc c o s
  | .bal c o => Sys2Proof.Machine.execBal c o s
  | .loop c o => Sys2Proof.Machine.execLoop c o s
  | .add c o => Sys2Proof.Machine.execAdd c o s
  | .addc c o => Sys2Proof.Machine.execAddc c o s
  | .sub c o => Sys2Proof.Machine.execSub c o s
  | .subc c o => Sys2Proof.Machine.execSubc c o s
  | .addv c o => Sys2Proof.Machine.execAddv c o s
  | .subv c o => Sys2Proof.Machine.execSubv c o s
  | .and c o => Sys2Proof.Machine.execAnd c o s
  | .or c o => Sys2Proof.Machine.execOr c o s
  | .xor c o => Sys2Proof.Machine.execXor c o s
  | .not c o => Sys2Proof.Machine.execNot c o s
  | .neg c o => Sys2Proof.Machine.execNeg c o s
  | .cmp c o => Sys2Proof.Machine.execCmp c o s
  | .tst c o => Sys2Proof.Machine.execTst c o s
  | .mov c o => Sys2Proof.Machine.execMov c o s
  | .sprMove c o => Sys2Proof.Machine.execSprMove c o s
  | .mul c o => Sys2Proof.Machine.execMul c o s
  | .mulw c o => Sys2Proof.Machine.execMulw c o s
  | .mulwu c o => Sys2Proof.Machine.execMulwu c o s
  | .div c o => Sys2Proof.Machine.execDiv c o s
  | .divu c o => Sys2Proof.Machine.execDivu c o s
  | .shl c o => Sys2Proof.Machine.execShl c o s
  | .shr c o => Sys2Proof.Machine.execShr c o s
  | .sha c o => Sys2Proof.Machine.execSha c o s
  | .rot c o => Sys2Proof.Machine.execRot c o s
  | .li c o => Sys2Proof.Machine.execLi c o s
  | .liH c o => Sys2Proof.Machine.execLiH c o s
  | .ld c o => Sys2Proof.Machine.execLd c o s
  | .ld2 c o => Sys2Proof.Machine.execLd2 c o s
  | .ld4 c o => Sys2Proof.Machine.execLd4 c o s
  | .ldh c o => Sys2Proof.Machine.execLdh c o s
  | .ldc c o => Sys2Proof.Machine.execLdc c o s
  | .ldp c o => Sys2Proof.Machine.execLdp c o s
  | .xld c o => Sys2Proof.Machine.execXld c o s
  | .cld c o => Sys2Proof.Machine.execCld c o s
  | .st c o => Sys2Proof.Machine.execSt c o s
  | .st2 c o => Sys2Proof.Machine.execSt2 c o s
  | .st4 c o => Sys2Proof.Machine.execSt4 c o s
  | .sth c o => Sys2Proof.Machine.execSth c o s
  | .stc c o => Sys2Proof.Machine.execStc c o s
  | .cst c o => Sys2Proof.Machine.execCst c o s
  | .xst c o => Sys2Proof.Machine.execXst c o s
  | .stk c o => Sys2Proof.Machine.execStk c o s
  | .storeDrain c ue => Sys2Proof.Machine.execStoreDrain c ue s
  | .lineFill c instrSide line check => Sys2Proof.Machine.execLineFill c instrSide line check s
  | .keyRecordRead cluster frame => Sys2Proof.Machine.execKeyRecordRead cluster frame s
  | .fadd c d o => Sys2Proof.Machine.execFadd c d o s
  | .fsub c d o => Sys2Proof.Machine.execFsub c d o s
  | .fmul c d o => Sys2Proof.Machine.execFmul c d o s
  | .fdiv c d o => Sys2Proof.Machine.execFdiv c d o s
  | .fsqrt c d o => Sys2Proof.Machine.execFsqrt c d o s
  | .fcmp c d o => Sys2Proof.Machine.execFcmp c d o s
  | .fcvt c k o => Sys2Proof.Machine.execFcvt c k o s
  | .fma c d o => Sys2Proof.Machine.execFma c d o s
  | .floatingCompletion c idx => Sys2Proof.Machine.execFloatingCompletion c idx s
  | .dadd c o => Sys2Proof.Machine.execDadd c o s
  | .dsub c o => Sys2Proof.Machine.execDsub c o s
  | .dmul c o stop => Sys2Proof.Machine.execDmul c o stop s
  | .ddiv c o stop => Sys2Proof.Machine.execDdiv c o stop s
  | .dcmp c o => Sys2Proof.Machine.execDcmp c o s
  | .dshf c o => Sys2Proof.Machine.execDshf c o s
  | .drnd c o => Sys2Proof.Machine.execDrnd c o s
  | .dcvb c o stop => Sys2Proof.Machine.execDcvb c o stop s
  | .dcvd c o stop => Sys2Proof.Machine.execDcvd c o stop s
  | .dld c o stop => Sys2Proof.Machine.execDld c o stop s
  | .dst c o stop => Sys2Proof.Machine.execDst c o stop s
  | .daddm c o stop => Sys2Proof.Machine.execDaddm c o stop s
  | .dsubm c o stop => Sys2Proof.Machine.execDsubm c o stop s
  | .dmulm c o stop => Sys2Proof.Machine.execDmulm c o stop s
  | .dcmpm c o stop => Sys2Proof.Machine.execDcmpm c o stop s
  | .zpk c o stop => Sys2Proof.Machine.execZpk c o stop s
  | .pkz c o stop => Sys2Proof.Machine.execPkz c o stop s
  | .ckd c o stop => Sys2Proof.Machine.execCkd c o stop s
  | .mvs c o stop => Sys2Proof.Machine.execMvs c o stop s
  | .mvsr c o stop => Sys2Proof.Machine.execMvsr c o stop s
  | .cms c o stop => Sys2Proof.Machine.execCms c o stop s
  | .scs c o stop => Sys2Proof.Machine.execScs c o stop s
  | .trs c o stop => Sys2Proof.Machine.execTrs c o stop s
  | .fill c o stop => Sys2Proof.Machine.execFill c o stop s
  | .edit c o stop => Sys2Proof.Machine.execEdit c o stop s
  | .edmk c o stop => Sys2Proof.Machine.execEdmk c o stop s
  | .post c o stop => Sys2Proof.Machine.execPost c o stop s
  | .prep c o stop => Sys2Proof.Machine.execPrep c o stop s
  | .conf c o => Sys2Proof.Machine.execConf c o s
  | .abrt c o => Sys2Proof.Machine.execAbrt c o s
  | .jrd c o stop => Sys2Proof.Machine.execJrd c o stop s
  | .lockWaitEnd c => Sys2Proof.Machine.execLockWaitEnd c s
  | .admission c => Sys2Proof.Machine.execAdmission c s
  | .recordDurable => Sys2Proof.Machine.execRecordDurable s
  | .lone c => Sys2Proof.Machine.execLone c s
  | .tailScan => Sys2Proof.Machine.execTailScan s
  | .mramFailure => Sys2Proof.Machine.execMramFailure s
  | .archivePos w v => Sys2Proof.Machine.execArchivePos w v s
  | .cmov c o => Sys2Proof.Machine.execCmov c o s
  | .cnarrow c o => Sys2Proof.Machine.execCnarrow c o s
  | .cseal c o => Sys2Proof.Machine.execCseal c o s
  | .cunseal c o => Sys2Proof.Machine.execCunseal c o s
  | .ctest c o => Sys2Proof.Machine.execCtest c o s
  | .take c o => Sys2Proof.Machine.execTake c o s
  | .give c o => Sys2Proof.Machine.execGive c o s
  | .qack c o => Sys2Proof.Machine.execQack c o s
  | .vdadd c o => Sys2Proof.Machine.execVdadd c o s
  | .vdsub c o => Sys2Proof.Machine.execVdsub c o s
  | .vcmp c view o => Sys2Proof.Machine.execVcmp c view o s
  | .vmrg c o => Sys2Proof.Machine.execVmrg c o s
  | .vclr c o => Sys2Proof.Machine.execVclr c o s
  | .vmov c o => Sys2Proof.Machine.execVmov c o s
  | .vadd c w o => Sys2Proof.Machine.execVadd c w o s
  | .vsub c w o => Sys2Proof.Machine.execVsub c w o s
  | .vand c o => Sys2Proof.Machine.execVand c o s
  | .vor c o => Sys2Proof.Machine.execVor c o s
  | .vxor c o => Sys2Proof.Machine.execVxor c o s
  | .vnot c o => Sys2Proof.Machine.execVnot c o s
  | .vld c o => Sys2Proof.Machine.execVld c o s
  | .vst c o => Sys2Proof.Machine.execVst c o s
  | .vgc c o stop => Sys2Proof.Machine.execVgc c o stop s
  | .vgcf c o stop => Sys2Proof.Machine.execVgcf c o stop s
  | .vgw c o stop => Sys2Proof.Machine.execVgw c o stop s
  | .vgwf c o stop => Sys2Proof.Machine.execVgwf c o stop s
  | .vsc c o stop => Sys2Proof.Machine.execVsc c o stop s
  | .vcls c o => Sys2Proof.Machine.execVcls c o s
  | .vtr c o => Sys2Proof.Machine.execVtr c o s
  | .vectorUnitGate c => Sys2Proof.Machine.execVectorUnitGate c s
  | .vectorUnitWake c => Sys2Proof.Machine.execVectorUnitWake c s
  | .vgate w n v => Sys2Proof.Machine.execVgate w n v s
  | .aese c o => Sys2Proof.Machine.execAese c o s
  | .aesd c o => Sys2Proof.Machine.execAesd c o s
  | .gcms c o => Sys2Proof.Machine.execGcms c o s
  | .gcmo c o => Sys2Proof.Machine.execGcmo c o s
  | .sign c o => Sys2Proof.Machine.execSign c o s
  | .verp256 c o => Sys2Proof.Machine.execVerp256 c o s
  | .verp384 c o => Sys2Proof.Machine.execVerp384 c o s
  | .vered c o => Sys2Proof.Machine.execVered c o s
  | .kload c o => Sys2Proof.Machine.execKload c o s
  | .kgen c o => Sys2Proof.Machine.execKgen c o s
  | .kclr c o => Sys2Proof.Machine.execKclr c o s
  | .kpub c o => Sys2Proof.Machine.execKpub c o s
  | .sha256 c o => Sys2Proof.Machine.execSha256 c o s
  | .sha384 c o => Sys2Proof.Machine.execSha384 c o s
  | .sha512 c o => Sys2Proof.Machine.execSha512 c o s
  | .sha3x256 c o => Sys2Proof.Machine.execSha3x256 c o s
  | .sha3x384 c o => Sys2Proof.Machine.execSha3x384 c o s
  | .sha3x512 c o => Sys2Proof.Machine.execSha3x512 c o s
  | .hmacSha256 c o => Sys2Proof.Machine.execHmacSha256 c o s
  | .hmacSha384 c o => Sys2Proof.Machine.execHmacSha384 c o s
  | .hmacSha512 c o => Sys2Proof.Machine.execHmacSha512 c o s
  | .crc32 c o => Sys2Proof.Machine.execCrc32 c o s
  | .crc32c c o => Sys2Proof.Machine.execCrc32c c o s
  | .rand c o => Sys2Proof.Machine.execRand c o s
  | .reseed c o => Sys2Proof.Machine.execReseed c o s
  | .kilnRequestCompletion c => Sys2Proof.Machine.execKilnRequestCompletion c s
  | .ax c slot opc o => Sys2Proof.Machine.execAx c slot opc o s
  | .arsp f => Sys2Proof.Machine.execArsp f s
  | .aint f => Sys2Proof.Machine.execAint f s
  | .adjunctTimeout c => Sys2Proof.Machine.execAdjunctTimeout c s
  | .fullEntry c => Sys2Proof.Machine.execFullEntry c s
  | .holdEnd c => Sys2Proof.Machine.execHoldEnd c s
  | .machineCheck c cls detail => Sys2Proof.Machine.execMachineCheck c cls detail s
  | .breakpoint c => Sys2Proof.Machine.execBreakpoint c s
  | .doorbell fn q w3 => Sys2Proof.Machine.execDoorbell fn q w3 s
  | .retireWord fn q v => Sys2Proof.Machine.execRetireWord fn q v s
  | .intakeRouting q => Sys2Proof.Machine.execIntakeRouting q s
  | .shippedTicket m => Sys2Proof.Machine.execShippedTicket m s
  | .ticketRackTimeout q => Sys2Proof.Machine.execTicketRackTimeout q s
  | .qCtl w v => Sys2Proof.Machine.execQCtl w v s
  | .qrel w v => Sys2Proof.Machine.execQrel w v s
  | .ring w => Sys2Proof.Machine.execRing w s
  | .dirEnt w v => Sys2Proof.Machine.execDirEnt w v s
  | .directoryUpdate m => Sys2Proof.Machine.execDirectoryUpdate m s
  | .wholeDirectory m => Sys2Proof.Machine.execWholeDirectory m s
  | .epochEnd => Sys2Proof.Machine.execEpochEnd s
  | .frameMove => Sys2Proof.Machine.execFrameMove s
  | .homeChange frame good => Sys2Proof.Machine.execHomeChange frame good s
  | .place w => Sys2Proof.Machine.execPlace w s
  | .evict w => Sys2Proof.Machine.execEvict w s
  | .bmove w => Sys2Proof.Machine.execBmove w s
  | .fence m => Sys2Proof.Machine.execFence m s
  | .drain => Sys2Proof.Machine.execDrain s
  | .copy good => Sys2Proof.Machine.execCopy good s
  | .ship room => Sys2Proof.Machine.execShip room s
  | .flipOut => Sys2Proof.Machine.execFlipOut s
  | .babort w => Sys2Proof.Machine.execBabort w s
  | .bforce w => Sys2Proof.Machine.execBforce w s
  | .thr w => Sys2Proof.Machine.execThr w s
  | .evq w => Sys2Proof.Machine.execEvq w s
  | .commitApply page group => Sys2Proof.Machine.execCommitApply page group s
  | .window w => Sys2Proof.Machine.execWindow w s
  | .format w => Sys2Proof.Machine.execFormat w s
  | .init w => Sys2Proof.Machine.execInit w s
  | .reseal w => Sys2Proof.Machine.execReseal w s
  | .release w => Sys2Proof.Machine.execRelease w s
  | .kekload w => Sys2Proof.Machine.execKekload w s
  | .kilnCommandCompletion => Sys2Proof.Machine.execKilnCommandCompletion s
  | .groupRefresh group => Sys2Proof.Machine.execGroupRefresh group s
  | .healthTestFailure => Sys2Proof.Machine.execHealthTestFailure s
  | .tamperMesh pair => Sys2Proof.Machine.execTamperMesh pair s
  | .meshPatternChange => Sys2Proof.Machine.execMeshPatternChange s
  | .voltageDetector vbat => Sys2Proof.Machine.execVoltageDetector vbat s
  | .clockDetector refclk => Sys2Proof.Machine.execClockDetector refclk s
  | .temperatureDetector => Sys2Proof.Machine.execTemperatureDetector s
  | .zeroizeN => Sys2Proof.Machine.execZeroizeN s
  | .tampCtl w v => Sys2Proof.Machine.execTampCtl w v s
  | .portCtl w p v => Sys2Proof.Machine.execPortCtl w p v s
  | .farEndDetection p => Sys2Proof.Machine.execFarEndDetection p s
  | .clockRecovery p lanes => Sys2Proof.Machine.execClockRecovery p lanes s
  | .blockSync p => Sys2Proof.Machine.execBlockSync p s
  | .blockSyncLoss p => Sys2Proof.Machine.execBlockSyncLoss p s
  | .idle p f => Sys2Proof.Machine.execIdle p f s
  | .ack p f => Sys2Proof.Machine.execAck p f s
  | .nak p f => Sys2Proof.Machine.execNak p f s
  | .param p f peer => Sys2Proof.Machine.execParam p f peer s
  | .hbeat f => Sys2Proof.Machine.execHbeat f s
  | .heartbeatSend => Sys2Proof.Machine.execHeartbeatSend s
  | .heartbeatMiss => Sys2Proof.Machine.execHeartbeatMiss s
  | .rackedRecord h d => Sys2Proof.Machine.execRackedRecord h d s
  | .racka f => Sys2Proof.Machine.execRacka f s
  | .arch f => Sys2Proof.Machine.execArch f s
  | .ticketEntry f g => Sys2Proof.Machine.execTicketEntry f g s
  | .newRet f => Sys2Proof.Machine.execNewRet f s
  | .qrackAcknowledgement f => Sys2Proof.Machine.execQrackAcknowledgement f s
  | .streamStart f => Sys2Proof.Machine.execStreamStart f s
  | .preparedLeg f => Sys2Proof.Machine.execPreparedLeg f s
  | .durableQueueContext f => Sys2Proof.Machine.execDurableQueueContext f s
  | .streamEnd f => Sys2Proof.Machine.execStreamEnd f s
  | .resynchronise f => Sys2Proof.Machine.execResynchronise f s
  | .endToEndAcknowledgement m => Sys2Proof.Machine.execEndToEndAcknowledgement m s
  | .messageResend dst => Sys2Proof.Machine.execMessageResend dst s
  | .unreachable dst => Sys2Proof.Machine.execUnreachable dst s
  | .settleTime => Sys2Proof.Machine.execSettleTime s
  | .handoverNotice => Sys2Proof.Machine.execHandoverNotice s
  | .detachNotice => Sys2Proof.Machine.execDetachNotice s
  | .twWaitExpiry => Sys2Proof.Machine.execTwWaitExpiry s
  | .attach w => Sys2Proof.Machine.execAttach w s
  | .detach w => Sys2Proof.Machine.execDetach w s
  | .handover w => Sys2Proof.Machine.execHandover w s
  | .twTake w => Sys2Proof.Machine.execTwTake w s
  | .accept w => Sys2Proof.Machine.execAccept w s
  | .resync w => Sys2Proof.Machine.execResync w s
  | .twinCommandCompletion code => Sys2Proof.Machine.execTwinCommandCompletion code s
  | .mbSubmit v => Sys2Proof.Machine.execMbSubmit v s
  | .relayedPiece m => Sys2Proof.Machine.execRelayedPiece m s
  | .build => Sys2Proof.Machine.execBuild s
  | .activate w => Sys2Proof.Machine.execActivate w s
  | .engineTableSwitch => Sys2Proof.Machine.execEngineTableSwitch s
  | .confirm w => Sys2Proof.Machine.execConfirm w s
  | .abort w => Sys2Proof.Machine.execAbort w s
  | .revert w => Sys2Proof.Machine.execRevert w s
  | .relay w => Sys2Proof.Machine.execRelay w s
  | .lapse => Sys2Proof.Machine.execLapse s
  | .powerOnReset straps selfTest copyA copyB => Sys2Proof.Machine.execPowerOnReset straps selfTest copyA copyB s
  | .dramTraining pop => Sys2Proof.Machine.execDramTraining pop s
  | .pcieLinkTraining gen width => Sys2Proof.Machine.execPcieLinkTraining gen width s
  | .ready => Sys2Proof.Machine.execReady s
  | .svStart v => Sys2Proof.Machine.execSvStart v s
  | .warmrstN => Sys2Proof.Machine.execWarmrstN s
  | .rstCmd w v => Sys2Proof.Machine.execRstCmd w v s
  | .warmReset selfTest copyA copyB => Sys2Proof.Machine.execWarmReset selfTest copyA copyB s
  | .reset w n v => Sys2Proof.Machine.execReset w n v s
  | .coreRelease n => Sys2Proof.Machine.execCoreRelease n s
  | .pitch w n => Sys2Proof.Machine.execPitch w n s
  | .pitchCompletion n => Sys2Proof.Machine.execPitchCompletion n s
  | .ici w n => Sys2Proof.Machine.execIci w n s
  | .taskArea w c v => Sys2Proof.Machine.execTaskArea w c v s
  | .tgroup w c v => Sys2Proof.Machine.execTgroup w c v s
  | .perstN low => Sys2Proof.Machine.execPerstN low s
  | .pwrGood => Sys2Proof.Machine.execPwrGood s
  | .pwrFailN => Sys2Proof.Machine.execPwrFailN s
  | .pwrFailNRelease => Sys2Proof.Machine.execPwrFailNRelease s
  | .srLgasp w v => Sys2Proof.Machine.execSrLgasp w v s
  | .clPwr w n v => Sys2Proof.Machine.execClPwr w n v s
  | .ioPwr w v => Sys2Proof.Machine.execIoPwr w v s
  | .domainWake d => Sys2Proof.Machine.execDomainWake d s
  | .clFreq w n => Sys2Proof.Machine.execClFreq w n s
  | .frequencySwitch n => Sys2Proof.Machine.execFrequencySwitch n s
  | .dramClk w => Sys2Proof.Machine.execDramClk w s
  | .adjClk w => Sys2Proof.Machine.execAdjClk w s
  | .coreTiming w n => Sys2Proof.Machine.execCoreTiming w n s
  | .turnTiming w n => Sys2Proof.Machine.execTurnTiming w n s
  | .refTiming w n => Sys2Proof.Machine.execRefTiming w n s
  | .scrubTiming w n => Sys2Proof.Machine.execScrubTiming w n s
  | .patrolScrub line check => Sys2Proof.Machine.execPatrolScrub line check s
  | .voltageSample mv => Sys2Proof.Machine.execVoltageSample mv s
  | .cluUnfence w n v => Sys2Proof.Machine.execCluUnfence w n v s
  | .gradientStep degc => Sys2Proof.Machine.execGradientStep degc s
  | .throttleStep degc => Sys2Proof.Machine.execThrottleStep degc s
  | .prochotN low => Sys2Proof.Machine.execProchotN low s
  | .thermtrip => Sys2Proof.Machine.execThermtrip s
  | .lockstepMismatch => Sys2Proof.Machine.execLockstepMismatch s
  | .timerExpiry n => Sys2Proof.Machine.execTimerExpiry n s
  | .watchdog => Sys2Proof.Machine.execWatchdog s
  | .wdogKick w v => Sys2Proof.Machine.execWdogKick w v s
  | .wdogCtl w v => Sys2Proof.Machine.execWdogCtl w v s
  | .dmaPtr w n v => Sys2Proof.Machine.execDmaPtr w n v s
  | .dmaDescriptor n host answered => Sys2Proof.Machine.execDmaDescriptor n host answered s
  | .aperture how index v => Sys2Proof.Machine.execAperture how index v s
  | .hostDb c v => Sys2Proof.Machine.execHostDb c v s
  | .setWindowPointer page off pecGood => Sys2Proof.Machine.execSetWindowPointer page off pecGood s
  | .windowRead => Sys2Proof.Machine.execWindowRead s
  | .windowWrite bytes pecGood => Sys2Proof.Machine.execWindowWrite bytes pecGood s
  | .readResult => Sys2Proof.Machine.execReadResult s
  | .pieceBufferWrite off bytes pecGood => Sys2Proof.Machine.execPieceBufferWrite off bytes pecGood s
  | .smbusSubmit number pecGood => Sys2Proof.Machine.execSmbusSubmit number pecGood s
  | .alertResponse => Sys2Proof.Machine.execAlertResponse s
  | .bypass => Sys2Proof.Machine.execBypass s
  | .idcode => Sys2Proof.Machine.execIdcode s
  | .samplePreload => Sys2Proof.Machine.execSamplePreload s
  | .extest => Sys2Proof.Machine.execExtest s
  | .extestPulse => Sys2Proof.Machine.execExtestPulse s
  | .extestTrain => Sys2Proof.Machine.execExtestTrain s
  | .clamp => Sys2Proof.Machine.execClamp s
  | .highz => Sys2Proof.Machine.execHighz s
  | .dbgSel core => Sys2Proof.Machine.execDbgSel core s
  | .halt => Sys2Proof.Machine.execHalt s
  | .step => Sys2Proof.Machine.execStep s
  | .resume => Sys2Proof.Machine.execResume s
  | .readRegister r => Sys2Proof.Machine.execReadRegister r s
  | .writeRegister r v => Sys2Proof.Machine.execWriteRegister r v s
  | .readMemory ptr => Sys2Proof.Machine.execReadMemory ptr s
  | .writeMemory ptr v => Sys2Proof.Machine.execWriteMemory ptr v s
  | .readTrace => Sys2Proof.Machine.execReadTrace s
  | .dbgCtl w high v => Sys2Proof.Machine.execDbgCtl w high v s
  | .brk w n v => Sys2Proof.Machine.execBrk w n v s
  | .lock w page v => Sys2Proof.Machine.execLock w page v s
  | .mode w page v => Sys2Proof.Machine.execMode w page v s
  | .pageWrite w page off v => Sys2Proof.Machine.execPageWrite w page off v s
  | .undefinedInstruction c p0 p1 => Sys2Proof.Machine.execUndefinedInstruction c p0 p1 s
  | .flitCrcFailure p => Sys2Proof.Machine.execFlitCrcFailure p s
  | .protocolError p f => Sys2Proof.Machine.execProtocolError p f s
  | .messageRouting m => Sys2Proof.Machine.execMessageRouting m s
  | .zeroizeNRelease => Sys2Proof.Machine.execZeroizeNRelease s
  | .steepCommandCompletion code => Sys2Proof.Machine.execSteepCommandCompletion code s
  | .porstN => Sys2Proof.Machine.execPorstN s
  | .hostWrite fn off v size => Sys2Proof.Machine.execHostWrite fn off v size s

end Sys2Proof.Machine
end

