-- ==== Sys2Proof/Machine/Tick.lean ====
section
/-! DEFINITION. What passes with one cycle of the fabric clock when no command waits: the time base, the timers, the
watchdog, and the hours of an idle session (16 Table 16-8; 18 R451, Table 18-9; log entries 7, 21). -/

namespace Sys2Proof.Machine

/-- One cycle of timer n. -/
def State.tickTimer (s : State) (n : Nat) : State :=
  if s.timerRuns n = false then s
  else if s.preg pgTimer (tmrCnt n) = 1 then s.timerExpires n
  else s.setPreg pgTimer (tmrCnt n) (s.preg pgTimer (tmrCnt n) - 1)

/-- One microsecond: SR_CLK, an open session's idle time, and the watchdog, which fires at the end of its period. -/
def State.tickUs (s : State) : State :=
  let idle := if s.steep.st = .idle then s.steep.idleUs else s.steep.idleUs + 1
  let s := { s with pwr := { s.pwr with us := s.pwr.us + 1 }, steep := { s.steep with idleUs := idle } }
  if bit (s.preg pgTimer 0o052) 35 = false then s
  else if s.pwr.wdogLeft ≤ 1 then s.wdogFires
  else { s with pwr := { s.pwr with wdogLeft := s.pwr.wdogLeft - 1 } }

/-- One fabric cycle at 1.2 GHz; the clock stands while main power is off or PORST_N is low. -/
def tick (s : State) : State :=
  if s.pins.pwrGood = false ∨ s.pins.porstLow = true then s
  else
    let s := { s with pwr := { s.pwr with tb := s.pwr.tb + 1 } }
    let s := (List.range 8).foldl State.tickTimer s
    if s.pwr.tb % 1200 = 0 then s.tickUs else s

end Sys2Proof.Machine
end

