-- ==== Sys2Proof/WellFormed.lean ====
section
/-! DEFINITION. Which commands stand for an event of the manual: operand lists of the lengths it gives, messages of
the kind their row names, and forms whose bits agree with their mnemonic. -/

namespace Sys2Proof

/-- A short memory form's last bit is S, which the mnemonic fixes (03 Table 03-1). -/
def memWf (s : BitVec 1) : MemForm → Bool
  | .sm o => o.h == s
  | .lm _ => true

/-- A racked record has the data flits its header calls for, whose LEN and XW are the record's (15 R378). -/
def recordWf (h : Flit) (d : List Flit) : Bool :=
  decide (d.length = (Machine.bits h.w1 26 35 + Machine.bits h.w1 20 25 + 3) / 4)

/-- Kinds of message content (15 R371). -/
def MsgBody.isTicket : MsgBody → Bool
  | .ticket _ _ _ => true
  | _ => false
def MsgBody.isDirUpdate : MsgBody → Bool
  | .dirUpdate _ _ => true
  | _ => false
def MsgBody.isDirectory : MsgBody → Bool
  | .directory _ _ _ _ => true
  | _ => false
def MsgBody.isFence : MsgBody → Bool
  | .fence _ _ => true
  | _ => false
def MsgBody.isAck : MsgBody → Bool
  | .ack _ => true
  | _ => false
def MsgBody.isPiece : MsgBody → Bool
  | .piece _ _ _ => true
  | _ => false

/-- What a message carries fits its kind (13 R337; 15 R371, R387; 16 R400). -/
def bodyWf : MsgBody → Bool
  | .ticket _ _ att => decide (att.length ≤ 250)
  | .directory _ _ _ es => decide (es.length ≤ 126) && es.all fun e => decide (e.1 < 2 ^ 16)
  | .frameLine _ line ws => decide (line < 128) && decide (ws.length = 16)
  | .stage n _ _ devs => decide (n ≤ 7) && devs.all fun d => decide (d < 32)
  | .stageEnd n code => decide (n ≤ 7) && decide (code < 512)
  | .piece number off bs => decide (number < 2 ^ 16) && decide (off < 4096) && decide (off % 1024 = 0) && decide (bs.length = 1024)
  | .pieceEnd number code => decide (number < 2 ^ 16) && decide (code < 512)
  | .cluster _ vs => decide (vs.length ≤ 32) && vs.all fun e => decide (e.1 < 32)
  | .moveNote n _ _ _ ds => decide (n ≤ 5) && ds.all fun d => decide (d < 32)
  | .journal p => decide (p.records.length ≤ 80)
  | .ack _ | .dirUpdate _ _ | .fence _ _ | .notice _ | .joined _ _ => true

/-- A message takes at most 5 hops, this one the last (15 R371, R372). -/
def msgWf (m : Msg) : Bool := decide (m.hops ≤ 4) && bodyWf m.body

/-- A message arrives with the link's fields for each of its flits (15 R367, R371). -/
def arrivalWf (a : Arrival) : Bool := msgWf a.msg && decide (a.links.length = (Machine.msgFlits a.msg).length)

/-- A flit of a type (15 Table 15-3), and one whose QE or CK is k (15 Tables 15-5a, 15-5b). -/
def isFlit (ft : Nat) (f : Flit) : Bool := decide (f.ftype.toNat = ft)
def isEvent (ft k : Nat) (f : Flit) : Bool := isFlit ft f && decide (Machine.bits f.w0 0 3 = k)

/-- A command that stands for an event of the manual. -/
def wellFormed : Instr → Bool
  | .ld _ o => memWf 0 o
  | .st _ o => memWf 1 o
  | .ldc _ o => memWf 0 o
  | .stc _ o => memWf 1 o
  | .machineCheck c cls _ => decide (cls.val < 4) || decide (c.val = 64)
  | .undefinedInstruction _ p0 p1 => Machine.undefinedParcels p0.toNat p1.toNat
  | .voltageSample mv => decide (mv.length = 8)
  | .gradientStep degc => decide (degc.length = 8)
  | .throttleStep degc => decide (degc.length = 8)
  | .rackedRecord h d => recordWf h d && isFlit 0o020 h && d.all (isFlit 0o021)
  | .idle _ f => isFlit 0 f
  | .ack _ f => isFlit 1 f
  | .nak _ f => isFlit 2 f
  | .param _ f _ => isFlit 3 f
  | .hbeat f => isFlit 4 f
  | .racka f => isFlit 0o022 f
  | .arch f => isFlit 0o024 f
  | .ticketEntry f g => isEvent 0o023 1 f && isEvent 0o023 2 g
  | .newRet f => isEvent 0o023 3 f
  | .qrackAcknowledgement f => isEvent 0o023 4 f
  | .streamStart f => isEvent 0o025 1 f
  | .preparedLeg f => isEvent 0o025 2 f
  | .durableQueueContext f => isEvent 0o025 3 f
  | .streamEnd f => isEvent 0o025 4 f
  | .resynchronise f => isEvent 0o025 5 f
  | .arsp f => isFlit 0o031 f
  | .aint f => isFlit 0o032 f
  | .protocolError p f => Machine.badFlit p.val f
  | .windowWrite bs _ => decide (bs.length = 5)
  | .pieceBufferWrite off bs _ => decide (bs ≠ []) && decide (bs.length ≤ 128) && decide (off < 2 ^ 16)
  | .smbusSubmit number _ => decide (number < 2 ^ 16)
  | .shippedTicket m => arrivalWf m && m.msg.body.isTicket
  | .directoryUpdate m => arrivalWf m && m.msg.body.isDirUpdate
  | .wholeDirectory m => arrivalWf m && m.msg.body.isDirectory
  | .fence m => arrivalWf m && m.msg.body.isFence
  | .endToEndAcknowledgement m => arrivalWf m && m.msg.body.isAck
  | .relayedPiece m => arrivalWf m && m.msg.body.isPiece
  | .messageRouting m => arrivalWf m
  | .hostWrite fn _ _ size => decide (fn.toNat ≤ 64) && decide (1 ≤ size) && decide (size ≤ 8)
  | .doorbell fn _ _ => decide (fn.toNat ≤ 64)
  | .retireWord fn _ _ => decide (fn.toNat ≤ 64)
  | .wait _ _ | .sync _ _ | .iflush _ _ | .fbar _ _ | .reti _ _ | .enter _ _ | .leave _ _ | .trap _ _
  | .tlbw _ _ | .tlbi _ _ | .kinv _ _ | .jr _ _ | .bc _ _ | .bal _ _ | .loop _ _ | .add _ _ | .addc _ _
  | .sub _ _ | .subc _ _ | .addv _ _ | .subv _ _ | .and _ _ | .or _ _ | .xor _ _ | .not _ _ | .neg _ _
  | .cmp _ _ | .tst _ _ | .mov _ _ | .sprMove _ _ | .mul _ _ | .mulw _ _ | .mulwu _ _ | .div _ _ | .divu _ _
  | .shl _ _ | .shr _ _ | .sha _ _ | .rot _ _ | .li _ _ | .liH _ _ | .ld2 _ _ | .ld4 _ _ | .ldh _ _ | .ldp _ _
  | .xld _ _ | .cld _ _ | .st2 _ _ | .st4 _ _ | .sth _ _ | .cst _ _ | .xst _ _ | .stk _ _ | .storeDrain _ _
  | .lineFill _ _ _ _ | .keyRecordRead _ _ | .fadd _ _ _ | .fsub _ _ _ | .fmul _ _ _ | .fdiv _ _ _
  | .fsqrt _ _ _ | .fcmp _ _ _ | .fcvt _ _ _ | .fma _ _ _ | .floatingCompletion _ _ | .dadd _ _ | .dsub _ _
  | .dmul _ _ _ | .ddiv _ _ _ | .dcmp _ _ | .dshf _ _ | .drnd _ _ | .dcvb _ _ _ | .dcvd _ _ _ | .dld _ _ _
  | .dst _ _ _ | .daddm _ _ _ | .dsubm _ _ _ | .dmulm _ _ _ | .dcmpm _ _ _ | .zpk _ _ _ | .pkz _ _ _
  | .ckd _ _ _ | .mvs _ _ _ | .mvsr _ _ _ | .cms _ _ _ | .scs _ _ _ | .trs _ _ _ | .fill _ _ _ | .edit _ _ _
  | .edmk _ _ _ | .post _ _ _ | .prep _ _ _ | .conf _ _ | .abrt _ _ | .jrd _ _ _ | .lockWaitEnd _ | .admission _
  | .recordDurable | .lone _ | .tailScan | .mramFailure | .archivePos _ _ | .cmov _ _ | .cnarrow _ _
  | .cseal _ _ | .cunseal _ _ | .ctest _ _ | .take _ _ | .give _ _ | .qack _ _ | .vdadd _ _ | .vdsub _ _
  | .vcmp _ _ _ | .vmrg _ _ | .vclr _ _ | .vmov _ _ | .vadd _ _ _ | .vsub _ _ _ | .vand _ _ | .vor _ _
  | .vxor _ _ | .vnot _ _ | .vld _ _ | .vst _ _ | .vgc _ _ _ | .vgcf _ _ _ | .vgw _ _ _ | .vgwf _ _ _
  | .vsc _ _ _ | .vcls _ _ | .vtr _ _ | .vectorUnitGate _ | .vectorUnitWake _ | .vgate _ _ _ | .aese _ _
  | .aesd _ _ | .gcms _ _ | .gcmo _ _ | .sign _ _ | .verp256 _ _ | .verp384 _ _ | .vered _ _ | .kload _ _
  | .kgen _ _ | .kclr _ _ | .kpub _ _ | .sha256 _ _ | .sha384 _ _ | .sha512 _ _ | .sha3x256 _ _ | .sha3x384 _ _
  | .sha3x512 _ _ | .hmacSha256 _ _ | .hmacSha384 _ _ | .hmacSha512 _ _ | .crc32 _ _ | .crc32c _ _ | .rand _ _
  | .reseed _ _ | .kilnRequestCompletion _ | .ax _ _ _ _ | .adjunctTimeout _ | .fullEntry _
  | .holdEnd _ | .breakpoint _ | .intakeRouting _ | .ticketRackTimeout _ | .qCtl _ _ | .qrel _ _ | .ring _
  | .dirEnt _ _ | .epochEnd | .frameMove | .homeChange _ _ | .place _ | .evict _ | .bmove _ | .drain | .copy _
  | .ship _ | .flipOut | .babort _ | .bforce _ | .thr _ | .evq _ | .commitApply _ _ | .window _ | .format _
  | .init _ | .reseal _ | .release _ | .kekload _ | .kilnCommandCompletion | .groupRefresh _
  | .healthTestFailure | .tamperMesh _ | .meshPatternChange | .voltageDetector _ | .clockDetector _
  | .temperatureDetector | .zeroizeN | .tampCtl _ _ | .portCtl _ _ _ | .farEndDetection _ | .clockRecovery _ _
  | .blockSync _ | .blockSyncLoss _ | .heartbeatSend | .heartbeatMiss
  | .messageResend _ | .unreachable _ | .settleTime | .handoverNotice | .detachNotice | .twWaitExpiry
  | .attach _ | .detach _ | .handover _ | .twTake _ | .accept _ | .resync _ | .twinCommandCompletion _
  | .mbSubmit _ | .build | .activate _ | .engineTableSwitch | .confirm _ | .abort _ | .revert _ | .relay _
  | .lapse | .powerOnReset _ _ _ _ | .dramTraining _ | .pcieLinkTraining _ _ | .ready | .svStart _ | .warmrstN
  | .rstCmd _ _ | .warmReset _ _ _ | .reset _ _ _ | .coreRelease _ | .pitch _ _ | .pitchCompletion _ | .ici _ _
  | .taskArea _ _ _ | .tgroup _ _ _ | .perstN _ | .pwrGood | .pwrFailN | .pwrFailNRelease | .srLgasp _ _
  | .clPwr _ _ _ | .ioPwr _ _ | .domainWake _ | .clFreq _ _ | .frequencySwitch _ | .dramClk _ | .adjClk _
  | .coreTiming _ _ | .turnTiming _ _ | .refTiming _ _ | .scrubTiming _ _ | .patrolScrub _ _ | .cluUnfence _ _ _
  | .prochotN _ | .thermtrip | .lockstepMismatch | .timerExpiry _ | .watchdog | .wdogKick _ _ | .wdogCtl _ _
  | .dmaPtr _ _ _ | .dmaDescriptor _ _ _ | .aperture _ _ _ | .hostDb _ _ | .setWindowPointer _ _ _ | .windowRead
  | .readResult | .alertResponse | .bypass | .idcode | .samplePreload | .extest | .extestPulse | .extestTrain
  | .clamp | .highz | .dbgSel _ | .halt | .step | .resume | .readRegister _ | .writeRegister _ _ | .readMemory _
  | .writeMemory _ _ | .readTrace | .dbgCtl _ _ _ | .brk _ _ _ | .lock _ _ _ | .mode _ _ _ | .pageWrite _ _ _ _
  | .flitCrcFailure _ | .zeroizeNRelease | .steepCommandCompletion _ | .porstN => true

end Sys2Proof
end

