-- ==== Sys2Proof/Safety.lean ====
section
/-! DEFINITION. What counts as a safe run, in the terms the statements use: steps that answer a next state, when an
instruction passes all the checks before its own work, and how one ends. -/

namespace Sys2Proof.Machine

/-- A command completes: it answers a next state. -/
def Completes (c : Instr) (s : State) : Prop := ∃ t, exec c s = .next t

/-- Every waiting command stands for an event of the manual. -/
def State.queueWf (s : State) : Bool := s.pending.all wellFormed

/-- One step is safe: it answers a next state. -/
def SafeStep (s : State) : Prop := ∃ t, step s = .next t

/-- No lazy save is due to instruction i of core n (09 R226). -/
def State.saved (s : State) (n : Nat) (i : Ins) : Bool := i.late || decide ((s.core n).unsaved i.grp = 0)

/-- Core n comes to the checks of instruction i: the state then, or none. The core runs and may issue, nothing is taken at
the boundary before it (10 R233), no breakpoint stands there (18 R453) and no floating trap is due at a delivery point
(04 R97). -/
def State.reached (s : State) (n : Nat) (i : Ins) : Option State :=
  let u := s.noteLen n i.len
  let v := u.abandonPosting n
  if (s.core n).run = .running ∧ s.canIssue n = true ∧ (u.boundary n).isNone = true ∧ v.brkHit n = false ∧
      (i.flt && bit (v.core n).fsr 19) = false then some v
  else none

/-- Instruction i of core n comes to its own work at s: the state then, or none. The core comes to its checks, every check
of Table 03-8, steps 1 to 5, passes (03 R74-R76, 09 R228), and no lazy save is due (09 R226; the first use of a group in a
frame is a statement of its own). -/
def State.issued (s : State) (n : Nat) (i : Ins) : Option State :=
  match s.reached n i with
  | none => none
  | some v =>
    if v.saved n i = false then none else
    match (prologue n i).run v with
    | .ok _ s1 => some s1
    | .error _ _ => none

/-- Instruction i of core n comes to its own work at s, in state s1. -/
def Issues (s : State) (n : Nat) (i : Ins) (s1 : State) : Prop := s.issued n i = some s1

/-- The state after an instruction of `len` parcels whose work left state s: it completes, and a debug step ends (03
R62, R65, R70; 18 R453). -/
def finish (s : State) (n len : Nat) (flow : Flow) : State := (s.retire n len flow).endStep n

/-- The state after an instruction whose work ended in exception x. -/
def trapped (s : State) (n : Nat) (x : Exc) : State := (s.takeTrap n x).endStep n

/-- Exception vec with SUB and DETAIL, and nothing beside. -/
def plainExc (vec sub detail : Nat) : Exc := { vec, sub, detail, badins := none, tlb := none }

/-- The state after an instruction that has to wait for w; its command is given again (log entry 12). -/
def waitsFor (s : State) (n : Nat) (w : Why) : State := s.modCore n fun k => { k with wait := some w }

/-- The access key that PSW.KEY mirrors where PSW names bank b (09 R201). -/
def Core.bankKey (k : Core) (b : Nat) : Nat :=
  match b with
  | 0 => k.c0T.key
  | 1 => k.c0H.key
  | 2 => k.c0F.key
  | _ => k.c0E.key

/-- Core n of t stands where a saved PC, NPC and PSW lead back to: DLY goes to the slot mark and KEY follows C0 (09 R201,
R208; 10 R240). -/
def Returned (k : Core) (t : State) (n : Nat) (pc npc psw : Word) : Prop :=
  (t.core n).pc = pc ∧ (t.core n).npc = some npc ∧ (t.core n).slot = bit psw 25 ∧
    (t.core n).psw = setBits (setBit psw 25 false) 4 7 (k.bankKey (bits psw 18 19)) ∧ (t.core n).shadow = []

/-- A return may put PSW's system fields back: they do not change, or C0 has SYSTEM (09 R217; 10 R249). -/
def MayChange (k : Core) (psw : Word) : Prop :=
  (bits psw 8 14 = bits k.psw 8 14 ∧ bits psw 17 17 = bits k.psw 17 17) ∨ k.domTok.system = true

/-- The state after an instruction that only changes its own core by f and goes on in sequence. -/
def coreDone (s : State) (n len : Nat) (f : Core → Core) : State := finish (s.modCore n f) n len .seq

/-- RD receives r, and N, Z, V and C follow r, v and cy (04 R78). -/
def putArith (rd : Nat) (r : Word) (v cy : Bool) (k : Core) : Core :=
  (k.setG rd r).setFlags (some r.msb) (some (decide (r = 0))) (some v) (some cy)

/-- RD receives r, N and Z follow it, V clears and C stays (04 Table 04-1). -/
def putLogic (rd : Nat) (r : Word) (k : Core) : Core :=
  (k.setG rd r).setFlags (some r.msb) (some (decide (r = 0))) (some false) none

/-- An operation on the state answers a and leaves s': what it needs is there, and nothing is raised. -/
def Yields {α : Type} (m : M α) (s : State) (a : α) (s' : State) : Prop := m.run s = .ok a s'

/-- A relation between states holds n times in a row. -/
def Repeats (r : State → State → Prop) : Nat → State → State → Prop
  | 0, s, t => s = t
  | n + 1, s, t => ∃ u, r s u ∧ Repeats r n u t

/-- States in a row, the i-th change of them being one that r allows for i. -/
def Chain (r : Nat → State → State → Prop) (n : Nat) (s t : State) : Prop :=
  ∃ st : Nat → State, st 0 = s ∧ st n = t ∧ ∀ i, i < n → r i (st i) (st (i + 1))

/-- A page takes the write of v to one of its registers from w, up to the register's own rules: the writer may write, the
page is not locked against it, its block is on, the register is there, writable, and v has its reserved bits zero (17
R416, R418, R419, R423, R474). -/
def State.admits (s : State) (w : Writer) (p off : Nat) (v : Word) : Bool :=
  s.mayWrite w p off && !s.lockedOut w p off v && (!s.pageDark p off || decide (off = 3)) && !s.halfAbsent p off &&
    (match regAt p off with
      | some r => r.writable && decide (v &&& r.reserved = 0)
      | none => false)

/-- The state a page's answer leaves: the effect where the code is 0, else the record of the rejection (17 R424). -/
def State.answered (s : State) (w : Writer) (p off code : Nat) (t : State) : State :=
  if code = 0 then t else s.reject w p off code

/-- A numbered message for this device that comes next from its source: the state in which its content is acted on (15
R373). -/
def State.nextOf (s : State) (m : Msg) : State :=
  { s with tr := { s.tr with
    recvSeq := tset 0 s.tr.recvSeq m.src.toNat ((tget 0 s.tr.recvSeq m.src.toNat + 1) % 2 ^ 14)
    unreach := s.tr.unreach.filter (· != m.src.toNat) } }

/-- A message is for this device, and the next of its source (15 R373). -/
def State.expects (s : State) (m : Msg) : Prop :=
  m.dst.toNat = s.own ∧ m.seq.toNat = tget 0 s.tr.recvSeq m.src.toNat

/-- A message arrives on a port that accepts each of its flits; u is the state then (15 R369, R371). -/
def State.hears (s : State) (a : Arrival) (u : State) : Prop :=
  badPiece a.msg = false ∧ a.links.length = (msgFlits a.msg).length ∧
    s.recvAllIn (hopClass a.msg) a.port.val (arrivalFlits a) = (true, u)

/-- The parcels of a memory form with a short and a long spelling. -/
def memLen : MemForm → Nat
  | .sm _ => 1
  | .lm _ => 2
def halfLen : HalfForm → Nat
  | .sm _ => 1
  | .lh _ => 2

/-- The end of a decimal instruction of `len` parcels: its flags, its sticky bits in DSR, and Decimal overflow due after
it where DSR asks for the trap (05 R104, R106, R107; 10 R231). -/
def decEnd (s : State) (n len : Nat) (neg zero ovf dx : Bool) : State :=
  let t := s.modCore n fun k =>
    (k.orDsr (fld 3 3 ovf.toNat ||| fld 4 4 dx.toNat)).setFlags (some neg) (some zero) (some ovf) none
  if ovf && bit (s.core n).dsrSeen 2 then
    if 2 ≤ (t.core n).bank ∨ (t.core n).inTrap = true then trapped (t.retire n len .seq) n (plainExc 13 0 0)
    else coreDone t n len fun k => { k with after := some (13, 0) }
  else finish t n len .seq

/-- A decimal result of L digits: the end of an instruction that has stored the low L digits of v (05 R105, R107). -/
def decResult (s : State) (n len l : Nat) (v : Int) (dx : Bool) : State :=
  decEnd s n len (decide (storedInt l v < 0)) (decide (storedInt l v = 0)) (decide (10 ^ l ≤ v.natAbs)) dx

/-- An accumulator receives v (05 R105). -/
def accResult (s : State) (n len dd : Nat) (v : Int) (dx : Bool) : State :=
  decResult (s.modCore n fun k => k.setAcc dd (accOf (nibsOf 71 v).1)) n len 71 v dx

/-- Accumulator d holds the number v, all its nibbles valid (02 R24, R25). -/
def Core.accHolds (k : Core) (d : Nat) (v : Int) : Prop :=
  badNib (accNibs (k.acc d)) 71 = none ∧ v = nibsInt (accNibs (k.acc d)) 71

/-- The nibbles of a packed field of L digits hold the number v (02 R24). -/
def packedHolds (nibs : List Nat) (l : Nat) (v : Int) : Prop := badNib nibs l = none ∧ v = nibsInt nibs l

/-- The parcels of the forms of ADD and CMP, and of AND, OR, XOR and TST (03 Tables 03-1, 03-2). -/
def alu3Len : Alu3 → Nat
  | .sr _ => 1
  | .si _ => 1
  | .li _ => 2
def alu2Len : Alu2 → Nat
  | .sr _ => 1
  | .li _ => 2

/-- A sum or a difference that the signed range of a word does not hold (04 R78). -/
def sumOverflows (a b : Word) : Bool := decide ((a + b).toInt ≠ a.toInt + b.toInt)
def diffOverflows (a b : Word) : Bool := decide ((a - b).toInt ≠ a.toInt - b.toInt)

/-- A sum that carries out of bit 0, and a difference that does not borrow (04 R78, R79). -/
def sumCarries (a b : Word) : Bool := decide (2 ^ 36 ≤ a.toNat + b.toNat)
def noBorrow (a b : Word) : Bool := decide (b.toNat ≤ a.toNat)

end Sys2Proof.Machine
end

