-- ==== Sys2Proof/Certificates/Slice0/Obligations.lean ====
section
/-! DEFINITION. The statements for the provers. In them s is the state a command meets, s1 the state after an
instruction's checks (Issues), and finish, coreDone and trapped what ends it. -/

open Sys2Proof Sys2Proof.Machine

/-- 04 R78, R80, Table 04-1: sums and differences, their flags, where no overflow trap is due. -/
def Obligations.AddAndSubtractResults : Prop :=
  ∀ (c : CoreId) (s s1 : State),
    let n := c.val
    let g (r : BitVec 5) : Word := (s1.core n).g r.toNat
    let trapOn : Bool := bit (s1.core n).seenPsw 16
    (∀ o : Alu3, Issues s n (alu3Ins 0o01 0 0o04 2 o) s1 →
      let a := (s1.core n).g (alu3Rd o)
      let b := alu3Src (s1.core n) o
      (trapOn && sumOverflows a b) = false →
      exec (.add c o) s = .next (coreDone s1 n (alu3Len o) (putArith (alu3Rd o) (a + b) (sumOverflows a b) (sumCarries a b)))) ∧
    (∀ o : SR, Issues s n (insSR 0o01 2 o) s1 → (trapOn && diffOverflows (g o.rd) (g o.rs)) = false →
      exec (.sub c o) s = .next (coreDone s1 n 1
        (putArith o.rd.toNat (g o.rd - g o.rs) (diffOverflows (g o.rd) (g o.rs)) (noBorrow (g o.rd) (g o.rs))))) ∧
    (∀ o : SR, Issues s n (insSR 0o01 4 o) s1 → sumOverflows (g o.rd) (g o.rs) = false →
      exec (.addv c o) s = .next (coreDone s1 n 1
        (putArith o.rd.toNat (g o.rd + g o.rs) false (sumCarries (g o.rd) (g o.rs))))) ∧
    (∀ o : SR, Issues s n (insSR 0o01 5 o) s1 → diffOverflows (g o.rd) (g o.rs) = false →
      exec (.subv c o) s = .next (coreDone s1 n 1
        (putArith o.rd.toNat (g o.rd - g o.rs) false (noBorrow (g o.rd) (g o.rs))))) ∧
    (∀ o : SR, Issues s n (insSR 0o02 2 o) s1 → (trapOn && diffOverflows 0 (g o.rs)) = false →
      exec (.neg c o) s = .next (coreDone s1 n 1
        (putArith o.rd.toNat (0 - g o.rs) (diffOverflows 0 (g o.rs)) (noBorrow 0 (g o.rs))))) ∧
    (∀ o : Alu3, Issues s n (alu3Ins 0o02 3 0o05 3 o) s1 →
      let a := (s1.core n).g (alu3Rd o)
      let b := alu3Src (s1.core n) o
      exec (.cmp c o) s = .next (coreDone s1 n (alu3Len o) fun k =>
        k.setFlags (some (a - b).msb) (some (decide (a = b))) (some (diffOverflows a b)) (some (noBorrow a b))))

/-- 04 R78, R79, Table 04-1; 03 R54: chained sums and differences, logical results, moves and constants. -/
def Obligations.ChainLogicAndMoveResults : Prop :=
  ∀ (c : CoreId) (s s1 : State),
    let n := c.val
    let g (r : BitVec 5) : Word := (s1.core n).g r.toNat
    let cf : Bool := (s1.core n).flagC
    let zf : Bool := (s1.core n).flagZ
    (∀ o : SR, Issues s n (insSR 0o01 1 o) s1 →
      let r := g o.rd + g o.rs + (if cf then 1 else 0)
      exec (.addc c o) s = .next (coreDone s1 n 1 fun k => (k.setG o.rd.toNat r).setFlags (some r.msb)
        (some (zf && decide (r = 0)))
        (some (decide (r.toInt ≠ (g o.rd).toInt + (g o.rs).toInt + cf.toNat)))
        (some (decide (2 ^ 36 ≤ (g o.rd).toNat + (g o.rs).toNat + cf.toNat))))) ∧
    (∀ o : SR, Issues s n (insSR 0o01 3 o) s1 →
      let r := g o.rd - g o.rs - (if cf then 0 else 1)
      exec (.subc c o) s = .next (coreDone s1 n 1 fun k => (k.setG o.rd.toNat r).setFlags (some r.msb)
        (some (zf && decide (r = 0)))
        (some (decide (r.toInt ≠ (g o.rd).toInt - (g o.rs).toInt - (!cf).toNat)))
        (some (decide ((g o.rs).toNat + (!cf).toNat ≤ (g o.rd).toNat))))) ∧
    (∀ o : Alu2, Issues s n (alu2Ins 0o01 6 4 o) s1 →
      exec (.and c o) s = .next (coreDone s1 n (alu2Len o)
        (putLogic (alu2Rd o) ((s1.core n).g (alu2Rd o) &&& alu2Src (s1.core n) o)))) ∧
    (∀ o : Alu2, Issues s n (alu2Ins 0o01 7 5 o) s1 →
      exec (.or c o) s = .next (coreDone s1 n (alu2Len o)
        (putLogic (alu2Rd o) ((s1.core n).g (alu2Rd o) ||| alu2Src (s1.core n) o)))) ∧
    (∀ o : Alu2, Issues s n (alu2Ins 0o02 0 6 o) s1 →
      exec (.xor c o) s = .next (coreDone s1 n (alu2Len o)
        (putLogic (alu2Rd o) ((s1.core n).g (alu2Rd o) ^^^ alu2Src (s1.core n) o)))) ∧
    (∀ o : SR, Issues s n (insSR 0o02 1 o) s1 →
      exec (.not c o) s = .next (coreDone s1 n 1 (putLogic o.rd.toNat (~~~(g o.rs))))) ∧
    (∀ o : Alu2, Issues s n (alu2Ins 0o02 4 7 o) s1 →
      let r := (s1.core n).g (alu2Rd o) &&& alu2Src (s1.core n) o
      exec (.tst c o) s = .next (coreDone s1 n (alu2Len o) fun k =>
        k.setFlags (some r.msb) (some (decide (r = 0))) (some false) none)) ∧
    (∀ o : SR, Issues s n (insSR 0o02 5 o) s1 →
      exec (.mov c o) s = .next (coreDone s1 n 1 fun k => k.setG o.rd.toNat (g o.rs))) ∧
    (∀ o : SI, Issues s n (insSI 0o07 o) s1 →
      exec (.li c (.si o)) s = .next (coreDone s1 n 1 fun k => k.setG o.rd.toNat (o.imm.signExtend 36))) ∧
    (∀ o : LI, Issues s n (insLI 0 o) s1 →
      exec (.li c (.li o)) s = .next (coreDone s1 n 2 fun k => k.setG o.rd.toNat (o.imm.signExtend 36))) ∧
    (∀ o : LI, Issues s n { insLI 1 o with fields := [(14, decide (2 ^ 18 ≤ o.imm.toNat))] } s1 →
      exec (.liH c o) s = .next (coreDone s1 n 2 fun k =>
        k.setG o.rd.toNat (wd (o.imm.toNat % 2 ^ 18 * 2 ^ 18 + (g o.rd).toNat % 2 ^ 18))))

/-- 04 R81, R82: products and quotients. -/
def Obligations.MultiplyAndDivideResults : Prop :=
  ∀ (c : CoreId) (s s1 : State) (o : SR),
    let n := c.val
    let a : Word := (s1.core n).g o.rd.toNat
    let b : Word := (s1.core n).g o.rs.toNat
    let pair (q r : Word) (nf zf vf : Bool) (k : Core) : Core :=
      ((k.setG o.rd.toNat q).setG (o.rd.toNat + 1) r).setFlags (some nf) (some zf) (some vf) (some false)
    (Issues s n (insSR 0o02 6 o) s1 →
      let wide : Bool := decide ((a * b).toInt ≠ a.toInt * b.toInt)
      (bit (s1.core n).seenPsw 16 && wide) = false →
      exec (.mul c o) s = .next (coreDone s1 n 1 (putArith o.rd.toNat (a * b) wide false))) ∧
    (Issues s n (pairIns 0o02 7 o) s1 →
      let p : Int := a.toInt * b.toInt
      exec (.mulw c o) s = .next (coreDone s1 n 1
        (pair (wdInt (p / 2 ^ 36)) (wdInt p) (decide (p < 0)) (decide (p = 0)) false))) ∧
    (Issues s n (pairIns 0o03 0 o) s1 →
      let p : Nat := a.toNat * b.toNat
      exec (.mulwu c o) s = .next (coreDone s1 n 1
        (pair (wd (p / 2 ^ 36)) (wd p) (decide (2 ^ 71 ≤ p)) (decide (p = 0)) false))) ∧
    (Issues s n (pairIns 0o03 1 o) s1 → b ≠ 0 →
      let q : Word := wdInt (a.toInt.tdiv b.toInt)
      let big : Bool := decide (a.toInt = -(2 ^ 35) ∧ b.toInt = -1)
      exec (.div c o) s = .next (coreDone s1 n 1
        (pair q (wdInt (a.toInt.tmod b.toInt)) q.msb (decide (q = 0)) big))) ∧
    (Issues s n (pairIns 0o03 2 o) s1 → b ≠ 0 →
      let q : Word := wd (a.toNat / b.toNat)
      exec (.divu c o) s = .next (coreDone s1 n 1
        (pair q (wd (a.toNat % b.toNat)) q.msb (decide (q = 0)) false))) ∧
    (b = 0 → bit (s1.core n).seenPsw 15 = false →
      let done := finish ((s1.modCore n fun k => { k with fsr := setBit k.fsr 21 true }).modCore n
        (pair a 0 a.msb (decide (a = 0)) true)) n 1 .seq
      (Issues s n (pairIns 0o03 1 o) s1 → exec (.div c o) s = .next done) ∧
      (Issues s n (pairIns 0o03 2 o) s1 → exec (.divu c o) s = .next done)) ∧
    (b = 0 → bit (s1.core n).seenPsw 15 = true →
      let idz : State := s1.modCore n fun k => { k with fsr := setBit k.fsr 21 true }
      (Issues s n (pairIns 0o03 1 o) s1 → exec (.div c o) s = .next (trapped idz n (plainExc 16 0 0))) ∧
      (Issues s n (pairIns 0o03 2 o) s1 → exec (.divu c o) s = .next (trapped idz n (plainExc 16 0 0))))

/-- 04 R85, Table 04-3: shifts and rotates by the low byte of a register or by a constant. -/
def Obligations.ShiftAndRotateResults : Prop :=
  ∀ (c : CoreId) (s s1 : State) (o : ShiftForm),
    let n := c.val
    let rd := match o with
      | .sr o => o.rd.toNat
      | .sh o => o.rd.toNat
    let cnt := match o with
      | .sr o => ((s1.core n).g o.rs.toNat).toNat % 256
      | .sh o => o.cnt.toNat
    let x : Word := (s1.core n).g rd
    let put (r : Word) (cy : Option Bool) : State := coreDone s1 n 1 fun k =>
      (k.setG rd r).setFlags (some r.msb) (some (decide (r = 0))) (some false) cy
    (Issues s n (shiftIns 0 o) s1 → exec (.shl c o) s = .next (put (x <<< cnt)
      (if cnt = 0 then none else some (decide (cnt ≤ 35) && x.getLsbD (36 - cnt))))) ∧
    (Issues s n (shiftIns 1 o) s1 → exec (.shr c o) s = .next (put (x >>> cnt)
      (if cnt = 0 then none else some (x.getLsbD (cnt - 1) && decide (cnt ≤ 35))))) ∧
    (Issues s n (shiftIns 2 o) s1 → exec (.sha c o) s = .next (put (x.sshiftRight cnt)
      (if cnt = 0 then none else some (if cnt ≤ 35 then x.getLsbD (cnt - 1) else x.msb)))) ∧
    (Issues s n (shiftIns 3 o) s1 → exec (.rot c o) s = .next (put (x.rotateLeft (cnt % 36))
      (if cnt % 36 = 0 then none else some ((x.rotateLeft (cnt % 36)).getLsbD 0))))

/-- 04 R80, R82: Binary overflow and Divide check, taken with RD and the flags as they were; Divide check sets FSR.IDZ. -/
def Obligations.ArithmeticTraps : Prop :=
  ∀ (c : CoreId) (s s1 : State),
    let n := c.val
    let g (r : BitVec 5) : Word := (s1.core n).g r.toNat
    let trapOn : Bool := bit (s1.core n).seenPsw 16
    let overflow : State := trapped s1 n (plainExc 15 0 0)
    let idz : State := s1.modCore n fun k => { k with fsr := setBit k.fsr 21 true }
    (∀ o : Alu3, Issues s n (alu3Ins 0o01 0 0o04 2 o) s1 → trapOn = true →
      sumOverflows ((s1.core n).g (alu3Rd o)) (alu3Src (s1.core n) o) = true → exec (.add c o) s = .next overflow) ∧
    (∀ o : SR, Issues s n (insSR 0o01 2 o) s1 → trapOn = true → diffOverflows (g o.rd) (g o.rs) = true →
      exec (.sub c o) s = .next overflow) ∧
    (∀ o : SR, Issues s n (insSR 0o02 2 o) s1 → trapOn = true → diffOverflows 0 (g o.rs) = true →
      exec (.neg c o) s = .next overflow) ∧
    (∀ o : SR, Issues s n (insSR 0o02 6 o) s1 → trapOn = true →
      (g o.rd * g o.rs).toInt ≠ (g o.rd).toInt * (g o.rs).toInt → exec (.mul c o) s = .next overflow) ∧
    (∀ o : SR, Issues s n (insSR 0o01 4 o) s1 → sumOverflows (g o.rd) (g o.rs) = true →
      exec (.addv c o) s = .next overflow) ∧
    (∀ o : SR, Issues s n (insSR 0o01 5 o) s1 → diffOverflows (g o.rd) (g o.rs) = true →
      exec (.subv c o) s = .next overflow) ∧
    (∀ o : SR, g o.rs = 0 → bit (s1.core n).seenPsw 15 = true →
      (Issues s n (pairIns 0o03 1 o) s1 → exec (.div c o) s = .next (trapped idz n (plainExc 16 0 0))) ∧
      (Issues s n (pairIns 0o03 2 o) s1 → exec (.divu c o) s = .next (trapped idz n (plainExc 16 0 0))))

/-- 03 R56, R59, R60, R62, R63, R70, R71; 12 R303: branches, their delay slot, links, and the start of a hardware loop. The
command says how long the instruction is that a link or an empty loop leads past (log entry 10). Where control goes as an
instruction completes: past it in sequence, to the loop's start while its count lasts, or after one delay slot to a branch's
target; a slot's successor is the target its branch chose. -/
def Obligations.BranchAndLoopResults : Prop :=
  (∀ (c : CoreId) (s s1 : State),
     let n := c.val
     let k := s1.core n
     let branch (s2 : State) (cnd : Nat) (target : Core → Word) (len : Nat) : State :=
       let seen := if (decide (1 ≤ cnd) && !(s2.core n).resting) = true then
         s2.modCore n fun k => k.predict ((s2.core n).cond cnd) else s2
       if (s2.core n).cond cnd then
         finish (seen.modCore n Core.releaseIb) n len (.delayed (some (target ((seen.modCore n Core.releaseIb).core n))))
       else finish seen n len (.delayed none);
     (∀ o : SB, Issues s n (insSB 0o13 o) s1 → exec (.bc c (.sb o)) s =
       .next (branch s1 o.cond.toNat (fun k => advanceI k.pc o.disp.toInt 2) 1)) ∧
     (∀ o : LB, Issues s n (insLB 0 o false) s1 → exec (.bc c (.lb o)) s =
       .next (branch s1 o.cond.toNat (fun k => mkPtr (bits k.ib 20 35 * 2 ^ 16 + o.off.toNat) o.par.toNat) 2)) ∧
     (∀ x : LBSlot, Issues s n (insLB 1 x.b true) s1 →
       let linked := s1.modCore n fun k => k.setG x.b.rl.toNat (parcelAfter (s1.core n).pc (if x.long then 4 else 3))
       exec (.bal c x) s =
         .next (branch linked x.b.cond.toNat
           (fun k => mkPtr (bits k.ib 20 35 * 2 ^ 16 + x.b.off.toNat) x.b.par.toNat) 2)) ∧
     (∀ o : SX, Issues s n { insSX 0 0o014 o with barred := true } s1 →
       let t := k.g o.ra.toNat;
       (ptrNib t ≤ 1 → exec (.jr c o) s = .next (finish
         (s1.modCore n fun k => { k with ib := wd (bits t 0 15), ibHeld := none }) n 1 (.delayed (some t)))) ∧
       (1 < ptrNib t → exec (.jr c o) s = .next (trapped s1 n (plainExc 11 0 o.ra.toNat)))) ∧
     (∀ x : SLEnd,
       let o := x.l
       let first := parcelAfter (s.core n).pc 1
       let last := parcelAfter first o.endp.toNat
       Issues s n { insSL 0o16 o with place :=
         [(1, (s.core n).loopAct), (3, decide (bits last 0 15 ≠ bits first 0 15))] } s1 →
       (k.g o.rc.toNat = 0 → exec (.loop c x) s =
         .next (finish s1 n 1 (.jump (parcelAfter last (if x.long then 2 else 1))))) ∧
       (k.g o.rc.toNat ≠ 0 → exec (.loop c x) s = .next (coreDone s1 n 1 fun j =>
         ({ j with
           lc := k.g o.rc.toNat, ls := wd (bankOff first), le := wd (bankOff last)
           shadow := j.shadow.filter fun (x : Shadow) =>
             decide (x.what ≠ Exposed.spr 3 ∧ x.what ≠ Exposed.spr 4 ∧ x.what ≠ Exposed.spr 5) }).setPsw 24 24 1)))) ∧
  ∀ (k : Core) (len : Nat),
    let here := k.npc.getD (parcelAfter k.pc len)
    (∀ t, (k.advancePc len (.delayed (some t))).pc = here ∧ (k.advancePc len (.delayed (some t))).npc = some t ∧
      (k.advancePc len (.delayed (some t))).slot = true) ∧
    ((k.advancePc len (.delayed none)).pc = here ∧ (k.advancePc len (.delayed none)).npc = none ∧
      (k.advancePc len (.delayed none)).slot = true) ∧
    (∀ t, (k.advancePc len (.jump t)).pc = t ∧ (k.advancePc len (.jump t)).npc = none ∧
      (k.advancePc len (.jump t)).slot = false) ∧
    (k.atLoopEnd = false → (k.advancePc len .seq).pc = here ∧ (k.advancePc len .seq).psw = k.psw) ∧
    (k.atLoopEnd = true →
      let left := k.loopSeen 3 k.lc - 1
      let start := loopOff (k.loopSeen 4 k.ls)
      (left ≠ 0 → (k.advancePc len .seq).pc = mkPtr (bits k.pc 0 15 * 2 ^ 16 + start / 2) (start % 2)) ∧
      (left = 0 → (k.advancePc len .seq).pc = here ∧ bit (k.advancePc len .seq).psw 24 = false) ∧
      (k.shadowOf (.spr 3) = none → (k.advancePc len .seq).lc = left))

/-- 09 R205, R208-R210, R212, R217; 10 R249: ENTER keeps the return in C15, sealed, and moves to the next window under the
gate's domain; LEAVE goes back by it; a gate not valid and a C15 in use, or not a return, are refused by name. RETI takes back
what the entry saved: in a trap window and in bank F the hidden registers, in bank E the frame at ESP, in bank H the frame at
H.G7 with the groups saved in it. -/
def Obligations.GateAndReturnResults : Prop :=
  (∀ (c : CoreId) (s s1 : State) (o : SX),
     let n := c.val
     let k := s1.core n
     let ret := parcelAfter k.pc 1
     let gate := tget 0 k.en o.ra.toNat
     let t := k.tok 15
     let place : List (Nat × Bool) := [(4, decide ((s.core n).bank ≠ 0) || (s.core n).inTrap)];
     (Issues s n { insSX0 0 7 16 o with barred := true, grp := 9, place } s1 →
       (((t.tag = true ∧ t.type = 2) ∨ bit gate 0 = false) →
         exec (.enter c o) s = .next (trapped s1 n (plainExc 5 2 o.ra.toNat))) ∧
       (¬(t.tag = true ∧ t.type = 2) → bit gate 0 = true → k.tRing.res = 10 →
         exec (.enter c o) s = .next (trapped s1 n (plainExc 18 0 k.tRing.old))) ∧
       (¬(t.tag = true ∧ t.type = 2) → bit gate 0 = true → k.tRing.res ≠ 10 →
         let target := mkPtr (bits (s1.creg n 0o024) 0 14 * 2 ^ 17 + bits gate 18 34) (bits gate 35 35)
         let kept : Tok :=
           { a := fld 0 3 2 ||| fld 4 4 1 ||| fld 11 11 k.domTok.system.toNat ||| fld 13 16 k.domTok.key |||
               fld 17 17 (ptrNib ret) ||| fld 24 35 k.domTok.dom
             b := mkPtr (ptrWord ret) 15
             tag := true }
         let ring : Ring := { k.tRing with cwp := (k.tRing.cwp + 1) % 11, res := k.tRing.res + 1 }
         exec (.enter c o) s = .next (finish (s1.modCore n fun k =>
           (k.setTok 15 kept).gateTo (domainToken (bits gate 1 12) (bits gate 13 16) (bit gate 17)) ring target) n 1
           (.jump target)))) ∧
     (Issues s n { insSX0 0 6 1 o with barred := true, grp := 9, place } s1 →
       ((t.tag = false ∨ t.type ≠ 2 ∨ t.stype ≠ 15) → exec (.leave c o) s = .next (trapped s1 n (plainExc 5 2 16))) ∧
       (t.tag = true → t.type = 2 → t.stype = 15 → k.tRing.res = 1 →
         exec (.leave c o) s = .next (trapped s1 n (plainExc 19 0 ((k.tRing.cwp + 10) % 11)))) ∧
       (t.tag = true → t.type = 2 → t.stype = 15 → k.tRing.res ≠ 1 →
         let target := mkPtr (ptrWord t.b) (bits t.a 17 17)
         let ring : Ring := { k.tRing with cwp := (k.tRing.cwp + 10) % 11, res := k.tRing.res - 1 }
         exec (.leave c o) s = .next (finish (s1.modCore n fun k =>
           (k.setTok 15 { t with tag := false }).gateTo (domainToken t.dom t.key t.system) ring target) n 1
           (.jump target))))) ∧
  ∀ (c : CoreId) (s s1 : State) (o : SX),
    let n := c.val
    let k := s1.core n
    let k0 := s.core n
    Issues s n
      { insSX0 0 5 1 o with
        barred := true
        more := if k0.bank = 1 ∧ k0.inTrap = false then [1, 2, 3, 7] else []
        place := [(4, decide (k0.bank = 0) && !k0.inTrap), (5, decide (k0.bank = 1) && !k0.inTrap && decide (k0.depth = 0))] }
      s1 →
    (k.inTrap = true →
      let h := if k.bank = 0 then k.hidT else k.hidH
      ∃ t, exec (.reti c o) s = .next t ∧ Returned k t n h.pc h.npc h.psw ∧ (t.core n).cause = h.cause ∧
        (let r := k.ring
         let back := if k.bank = 0 then (t.core n).tRing else (t.core n).hRing
         back = if h.under then { r with old := (r.old + k.ringSize - 1) % k.ringSize, res := r.res + 1 }
           else { r with old := (r.old + 1) % k.ringSize, res := r.res - 1 })) ∧
    (k.bank = 2 →
      ∃ t, exec (.reti c o) s = .next t ∧ Returned k t n k.hidF.pc k.hidF.npc k.hidF.psw ∧
        (t.core n).cause = k.hidF.cause ∧ (t.core n).hidF.live = false) ∧
    (k.bank = 3 →
      let base := bits k.esp 0 31 * 256
      let w (i : Nat) : Word := (s1.rd (base + i)).w
      let bank := bits (w 2) 18 19
      let window := if bank = 0 then (if k.hidT.live then 11 else k.tRing.cwp)
        else if bank = 1 then (if k.hidH.live then 3 else k.hRing.cwp) else 0
      (∀ e ∈ k.sb, e.addr < base ∨ base + 9 ≤ e.addr) →
      bits (w 2) 26 35 = 0 → bank ≤ 2 → bits (w 2) 20 23 = window → MayChange k (w 2) →
      ptrNib (w 0) ≤ 1 → ptrNib (w 1) ≤ 1 →
      ∃ t, exec (.reti c o) s = .next t ∧ Returned k t n (w 0) (w 1) (w 2) ∧ (t.core n).prog = w 3 ∧
        (t.core n).lc = w 4 ∧ (t.core n).cause = wd (bits (w 8) 16 35)) ∧
    (∀ (w : List Word) (s2 : State), k.bank = 1 → k.inTrap = false → ptrNib k.hg7 = 0 →
      (readFrame n 0 12).run s1 = .ok w s2 →
      let psw := w.getD 2 0
      let bank := bits psw 18 19
      bits psw 26 35 = 0 → bank ≤ 1 → MayChange (s2.core n) psw →
      bits psw 20 23 = (if bank = 0 then k.tRing.cwp else (k.hRing.cwp + 2) % 3) →
      ptrNib (w.getD 0 0) ≤ 1 → ptrNib (w.getD 1 0) ≤ 1 →
      let chained := if bit k.seenPsw 14 && !(k.mark.after || (k.mark.trace && bit psw 17)) && !s2.deferred n then
        s2.eligibleInt n psw else none
      (∀ v e, chained = some v → s2.vecEntry n v = some e →
        ∃ t, exec (.reti c o) s = .next t ∧ (t.core n).pc = e.pc ∧ (t.core n).cause = mkCause v 0 0 ∧
          bits (t.core n).psw 9 12 = e.level % 16 ∧ (t.core n).depth = (s2.core n).depth ∧
          (t.core n).regs = (s2.core n).regs) ∧
      (∀ (d v : List Word) (s3 s4 : State), (∀ x, chained = some x → s2.vecEntry n x = none) → ¬(bank = 1 ∧ k.hRing.res = 1) →
        (if bit (w.getD 5 0) 34 then readFrame n 12 32 else pure []).run s2 = .ok d s3 →
        (if bit (w.getD 5 0) 35 then readFrame n 44 64 else pure []).run s3 = .ok v s4 →
        let k4 := s4.core n
        ∃ t, exec (.reti c o) s = .next t ∧ Returned k4 t n (w.getD 0 0) (w.getD 1 0) psw ∧
          (t.core n).prog = w.getD 3 0 ∧ (t.core n).lc = w.getD 4 0 ∧ (t.core n).depth = k4.depth - 1 ∧
          (t.core n).hRing = (if bank = 1 then { k4.hRing with cwp := (k4.hRing.cwp + 2) % 3, res := k4.hRing.res - 1 }
            else { k4.hRing with res := 0 }) ∧
          (t.core n).cause = wd (bits (w.getD 8 0) 16 35) ∧ (t.core n).hg7 = k4.hg7 + 0o3300 ∧
          (∀ i, i < 3 → tget 0 (t.core n).regs (9 + i) = w.getD (9 + i) 0) ∧
          (∀ i, i < 4 → (t.core n).acc i = if bit (w.getD 5 0) 34 then accOfWords ((d.drop (8 * i)).take 8) else k4.acc i) ∧
          (∀ i, i < 16 → (t.core n).vreg i = if bit (w.getD 5 0) 35 then vOfWords ((v.drop (4 * i)).take 4) else k4.vreg i)))

/-- 10 R231, R236; 09 R221; 12 R294, R299; 04 R99: TRAP is due after itself; SYNC, IFLUSH, FBAR and WAIT complete once the
store buffer, or the floating unit, is empty; IFLUSH empties the instruction cache and lets instruction-side changes take
effect. -/
def Obligations.TrapWaitAndBarrierResults : Prop :=
  ∀ (c : CoreId) (s s1 : State) (o : SX),
    let n := c.val
    let k := s1.core n
    (Issues s n { insSX0 0 0o010 32 o with barred := true } s1 →
      (k.bank < 2 → k.inTrap = false → exec (.trap c o) s = .next (coreDone s1 n 1 fun k =>
        { k with after := some (24, o.ra.toNat) })) ∧
      (2 ≤ k.bank ∨ k.inTrap = true →
        exec (.trap c o) s = .next (trapped (s1.retire n 1 .seq) n (plainExc 24 0 o.ra.toNat)))) ∧
    (Issues s n (insSX0 0 2 1 o) s1 →
      exec (.sync c o) s = .next (if k.sb = [] then finish s1 n 1 .seq else waitsFor s1 n .storeBuffer)) ∧
    (Issues s n (insSX0 0 3 1 o) s1 →
      exec (.iflush c o) s = .next (if k.sb = [] then coreDone s1 n 1 fun k => { k.settleInstr with icache := [] }
        else waitsFor s1 n .storeBuffer)) ∧
    (Issues s n (insSX0 0 4 1 o) s1 →
      exec (.fbar c o) s = .next (if k.fpu ≠ [] then waitsFor s1 n .floating
        else if bit k.fsr 19 then trapped s1 n (plainExc 17 0 0) else finish s1 n 1 .seq)) ∧
    (Issues s n { insSX0 0 1 1 o with place := [(4, decide ((s.core n).bank = 2) || (s.core n).inTrap)] } s1 →
      exec (.wait c o) s = .next (if k.sb ≠ [] then waitsFor s1 n .storeBuffer
        else if k.bank = 3 ∧ k.pend ≠ 0 then finish s1 n 1 .seq
        else waitsFor (s1.modCore n fun k => { k with run := .waiting }) n .interrupt))


/-- 03 R55, R60, R61, R65, Table 03-7; 11 R270, R276-R278: a special register is read into a general register and written with
its distance: instructions inside it still see the old value. TLBW and TLBI put their change among those not yet seen; KINV
drops a frame's key record from every cluster; each needs SYSTEM in C0. -/
def Obligations.SpecialRegisterResults : Prop :=
  (∀ (c : CoreId) (s s1 : State) (o : SC),
     let n := c.val
     let k := s1.core n
     let r := o.spr.toNat
     let v := k.g o.ra.toNat
     let ready : Prop := r = 1 → k.fpu = [] ∧ bit k.fsr 19 = false
     let sys : Bool := k.domTok.system;
     (Issues s n (sprIns 0o14 o) s1 → sprListed r = true → ready → (sprReadSystem r = true → sys = true) →
       ∀ s2, (do groupCheck n [o.ra.toNat] (sprGroup r); lazySave n (sprGroup r) : M Unit).run s1 = .ok () s2 →
       exec (.sprMove c (.toG o)) s = .next (coreDone s2 n 1 fun k => k.setG o.ra.toNat (k.sprRead r))) ∧
     (Issues s n (sprIns 0o15 o) s1 → sprListed r = true → sprReadOnly r = false → ready → k.sprBad r v = false →
       (k.sprWriteSystem r v = true → sys = true) →
       ∀ s2, (do groupCheck n [o.ra.toNat] (sprGroup r); lazySave n (sprGroup r) : M Unit).run s1 = .ok () s2 →
       (r ≠ 51 → exec (.sprMove c (.toS o)) s = .next (coreDone s2 n 1 fun k => k.sprWrite r v)) ∧
       (r = 51 →
         let found := s2.kcFind (s2.kcCluster n (bits v 7 35)) (bits v 7 35)
         exec (.sprMove c (.toS o)) s = .next (coreDone s2 n 1 fun k =>
           { ((k.expose (.spr 51) k.kcIndex Tok.clear 3).expose (.spr 52) k.kcData Tok.clear 3) with
             kcIndex := setBit v 0 found.isSome, kcData := found.getD 0 }))) ∧
     (Issues s n (sprIns 0o15 o) s1 → sprListed r = true → sprReadOnly r = false → ready → k.sprBad r v = true →
       exec (.sprMove c (.toS o)) s = .next (trapped s1 n (plainExc 4 1 r))) ∧
     (∀ e w, r ≤ 52 → (r ≠ 0 ∧ ¬(3 ≤ r ∧ r ≤ 5) ∧ r ≠ 12) → k.shadow = [] → e = k.sprWrite r w →
       e.loopSeen r (e.sprLive r) = k.sprLive r)) ∧
  ∀ (c : CoreId) (s s1 : State) (o : SX),
    let n := c.val
    let k := s1.core n
    let ix := k.sprSeen 48 k.tlbIndex
    let tag := k.sprSeen 49 k.tlbTag
    let dat := k.sprSeen 50 k.tlbData
    (Issues s n (insSX0 0 0o011 1 o) s1 →
      (k.domTok.system = false → exec (.tlbw c o) s = .next (trapped s1 n (plainExc 5 0 0))) ∧
      (∀ r, k.domTok.system = true → tlbwFault ix tag dat = some r →
        exec (.tlbw c o) s = .next (trapped s1 n (plainExc 4 1 r))) ∧
      (k.domTok.system = true → tlbwFault ix tag dat = none → exec (.tlbw c o) s = .next (coreDone s1 n 1 fun k =>
        (k.tlbChange (!bit ix 0) (bit ix 0) (.write (bits ix 13 19) (tlbEntryOf ix tag dat))).endIdentity))) ∧
    (Issues s n (insSX 0 0o012 o) s1 →
      let v := k.g o.ra.toNat
      let asid := BitVec.ofNat 12 (bits ix 1 12)
      (k.domTok.system = false → exec (.tlbi c o) s = .next (trapped s1 n (plainExc 5 0 0))) ∧
      (k.domTok.system = true → bits v 2 35 ≠ 0 → exec (.tlbi c o) s = .next (trapped s1 n (plainExc 4 2 o.ra.toNat))) ∧
      (k.domTok.system = true → bits v 2 35 = 0 → exec (.tlbi c o) s = .next (coreDone s1 n 1 fun k =>
        match bits v 0 1 with
        | 0 => k.tlbChange (!bit ix 0) (bit ix 0) (.invIndex (bits ix 13 19))
        | 1 => k.tlbChange true true (.invAsid asid)
        | 2 => k.tlbChange true true .invAll
        | _ => k.tlbChange true true (.invAddr asid (BitVec.ofNat 32 (bits tag 0 31)))))) ∧
    (Issues s n (insSX 0 0o013 o) s1 → ∀ e,
      let p := k.g o.ra.toNat
      k.sb = [] → k.domTok.system = true → ptrNib p = 0 → k.lookup .read (ptrWord p) k.domTok.dom = some e →
      e.dev = false → exec (.kinv c o) s = .next (finish (s1.kcDrop (e.phys (ptrWord p) / 2048)) n 1 .seq))

/-- 04 R87, R89, R90: a floating instruction gives the unit its sources and the modes and enables it sees; the divide and root unit
holds one operation at a time. -/
def Obligations.FloatingIssueResults : Prop :=
  ∀ (c : CoreId) (s s1 : State) (d : Bool),
    let n := c.val
    let k := s1.core n
    let modes := k.loopSeen 1 k.fsr
    let maj := if d then 0o20 else 0o17
    let free := k.fpu.any (fun o => decide (o.op = .div) || decide (o.op = .sqrt)) = false
    let start (op : FOp) (dbl : Bool) (rd : Nat) (pair : Bool) (x y z : Nat) : State := coreDone s1 n 1 fun k =>
      { k with fpu := k.fpu ++ [{ op, dbl, dst := (k.loc rd).getD 0, pair, x, y, z, rm := bits modes 0 2,
                                  ftz := bit modes 3, en := modes, pc := k.pc }] }
    (∀ o : SR,
      let x := k.fsrc d o.rd.toNat
      let y := k.fsrc d o.rs.toNat
      (Issues s n (fltIns maj 0 d d o) s1 → exec (.fadd c d o) s = .next (start .add d o.rd.toNat d x y 0)) ∧
      (Issues s n (fltIns maj 1 d d o) s1 → exec (.fsub c d o) s = .next (start .sub d o.rd.toNat d x y 0)) ∧
      (Issues s n (fltIns maj 2 d d o) s1 → exec (.fmul c d o) s = .next (start .mul d o.rd.toNat d x y 0)) ∧
      (Issues s n (fltIns maj 3 d d o) s1 →
        (free → exec (.fdiv c d o) s = .next (start .div d o.rd.toNat d x y 0)) ∧
        (¬free → exec (.fdiv c d o) s = .next (waitsFor s1 n .floating))) ∧
      (Issues s n (fltIns maj 4 d d o) s1 →
        (free → exec (.fsqrt c d o) s = .next (start .sqrt d o.rd.toNat d 0 y 0)) ∧
        (¬free → exec (.fsqrt c d o) s = .next (waitsFor s1 n .floating)))) ∧
    (∀ (q : Cvt) (o : SR),
      let form : Nat × Bool × Bool := match q with
        | .sw => (0, false, false)
        | .ws => (1, false, false)
        | .dw => (2, true, false)
        | .wd => (3, false, true)
        | .sd => (4, false, true)
        | .ds => (5, true, false)
      Issues s n (fltIns 0o21 form.1 form.2.1 form.2.2 o) s1 →
      exec (.fcvt c q o) s = .next (start (.cvt q) false o.rd.toNat form.2.1 0 (k.fsrc form.2.2 o.rs.toNat) 0)) ∧
    (∀ o : LR,
      let odd (r : BitVec 5) : Bool := d && decide (r.toNat % 2 ≠ 0)
      Issues s n
        { insLR 0o35 (if d then 0o041 else 0o040) o with
          fields := [(5, odd o.ra), (10, odd o.rb), (15, decide (o.z ≠ 0)), (26, odd o.rc),
            (33, decide (o.mod.toNat % 8 ≠ 0))]
          regs := [(5, o.ra.toNat), (10, o.rb.toNat), (26, o.rc.toNat)]
          more := if d then [o.ra.toNat + 1, o.rb.toNat + 1, o.rc.toNat + 1] else []
          flt := true } s1 →
      exec (.fma c d o) s = .next (coreDone s1 n 2 fun k =>
        { k with fpu := k.fpu ++ [{ op := .fma (o.mod.getMsbD 0) (o.mod.getMsbD 1), dbl := d
                                    dst := (k.loc o.ra.toNat).getD 0, pair := d, x := k.fsrc d o.rb.toNat
                                    y := k.fsrc d o.rc.toNat, z := k.fsrc d o.ra.toNat, rm := bits modes 0 2
                                    ftz := bit modes 3, en := modes, pc := k.pc }] }))

/-- 04 R87, R91, R92, R95, R96, Table 04-6: a floating operation that completes sets its sticky flags, and writes its
destination, unless a flag it raises was enabled at its issue: then the trap is recorded, with the oldest operation's flags and place. FCMP
does so at its issue. What the special operands of the operations and of FCMP give. -/
def Obligations.FloatingResults : Prop :=
  (∀ (c : CoreId) (s : State) (idx : Nat),
     let n := c.val
     let k := s.core n;
     (k.fpu[idx]? = none → exec (.floatingCompletion c idx) s = .next s) ∧
     (∀ o, k.fpu[idx]? = some o →
       let r := o.result
       let sticky := setBits k.fsr 9 13 (bits k.fsr 9 13 ||| r.2)
       let rest := k.fpu.eraseIdx idx;
       (r.2 &&& bits o.en 4 8 = 0 →
         let done : Core := { k with fpu := rest, fsr := sticky }
         exec (.floatingCompletion c idx) s = .next (s.setCore n (if o.pair then
           (done.setLoc o.dst (wd (r.1 / 2 ^ 36))).setLoc (o.dst + 1) (wd r.1) else done.setLoc o.dst (wd r.1)))) ∧
       (r.2 &&& bits o.en 4 8 ≠ 0 → bit sticky 19 = false →
         exec (.floatingCompletion c idx) s = .next (s.setCore n
           { k with fpu := rest, fsr := setBits (setBit sticky 19 true) 14 18 r.2, fq := o.pc })) ∧
       (r.2 &&& bits o.en 4 8 ≠ 0 → bit sticky 19 = true →
         exec (.floatingCompletion c idx) s = .next (s.setCore n
           { k with fpu := rest, fsr := setBit sticky 20 true }))) ∧
     (∀ (d : Bool) (o : SR) (s1 : State), Issues s n (fltIns (if d then 0o20 else 0o17) 5 d d o) s1 →
       let r := (fmtOf d).compare ((s1.core n).fsrc d o.rd.toNat) ((s1.core n).fsrc d o.rs.toNat);
       (r.2 &&& bits ((s1.core n).loopSeen 1 (s1.core n).fsr) 4 8 = 0 →
         exec (.fcmp c d o) s = .next (coreDone s1 n 1 fun k =>
           { k with fsr := setBits k.fsr 9 13 (bits k.fsr 9 13 ||| r.2) }.setPsw 0 3 r.1)))) ∧
  ∀ (d ufe ftz : Bool) (rm : Nat) (s t : Bool),
    let f := fmtOf d
    let invalid := (f.defaultNan, fNV)
    let run (op : FOp) (x y : Nat) := f.compute op rm ufe ftz x y 0
    run .add (f.infEnc s) (f.infEnc s) = (f.infEnc s, 0) ∧ run .add (f.infEnc s) (f.infEnc !s) = invalid ∧
    run .sub (f.infEnc s) (f.infEnc s) = invalid ∧ run .mul (f.infEnc s) (f.zeroEnc t) = invalid ∧
    run .mul (f.infEnc s) (f.infEnc t) = (f.infEnc (s != t), 0) ∧ run .div (f.zeroEnc s) (f.zeroEnc t) = invalid ∧
    run .div (f.infEnc s) (f.infEnc t) = invalid ∧ run .div (f.infEnc s) (f.zeroEnc t) = (f.infEnc (s != t), 0) ∧
    run .div (f.maxEnc s) (f.zeroEnc t) = (f.infEnc (s != t), fDZ) ∧
    run .div (f.maxEnc s) (f.infEnc t) = (f.zeroEnc (s != t), 0) ∧
    run .sqrt 0 (f.infEnc true) = invalid ∧ run .sqrt 0 (f.zeroEnc s) = (f.zeroEnc s, 0) ∧
    run .add (f.zeroEnc s) (f.zeroEnc !s) = (f.zeroEnc (decide (rm = 3)), 0) ∧
    (∀ frac, 0 < frac → frac < 2 ^ (f.fbits - 1) → ∀ y,
      let signalling := f.pack s (2 ^ f.ebits - 1) frac
      run .add signalling y = (f.pack s (2 ^ f.ebits - 1) (frac + 2 ^ (f.fbits - 1)), fNV) ∧
      f.compare signalling y = (2, fNV)) ∧
    f.compare (f.zeroEnc s) (f.zeroEnc t) = (5, 0) ∧ f.compare (f.infEnc true) (f.maxEnc s) = (8, 0) ∧
    f.compare (f.infEnc false) (f.maxEnc s) = (1, 0) ∧
    (∀ y, f.compare f.defaultNan y = (2, 0) ∨ f.compare f.defaultNan y = (2, fNV))

/-- 05 R105-R112, Table 05-2: sums, products, quotients, comparisons, shifts, roundings and conversions on accumulators. -/
def Obligations.DecimalAccumulatorResults : Prop :=
  ∀ (c : CoreId) (s s1 : State) (o : SD) (a b : Int),
    let n := c.val
    let k := s1.core n
    let dd := o.dd.toNat
    let rg := k.g o.rg.toNat
    let rm := bits k.dsrSeen 0 1
    k.accHolds dd a →
    (k.accHolds o.ds.toNat b →
      (Issues s n (insSD 0 o true false) s1 → exec (.dadd c o) s = .next (accResult s1 n 1 dd (a + b) false)) ∧
      (Issues s n (insSD 1 o true false) s1 → exec (.dsub c o) s = .next (accResult s1 n 1 dd (a - b) false)) ∧
      (Issues s n { insSD 2 o true false with ctl := true } s1 →
        exec (.dmul c o false) s = .next (accResult s1 n 1 dd (a * b) false)) ∧
      (Issues s n { insSD 3 o true true with ctl := true, fields :=
            (5, decide (dd % 2 ≠ 0)) :: (insSD 3 o true true).fields } s1 → rg.toNat ≤ 71 →
        let m := a.natAbs * 10 ^ rg.toNat
        (b ≠ 0 → exec (.ddiv c o false) s = .next (accResult
          (s1.modCore n fun k => k.setAcc (dd + 1) (accOf (nibsOf 71 (withSign a (m % b.natAbs))).1)) n 1 dd
          (withSign (a * b) (m / b.natAbs)) false)) ∧
        (b = 0 → ∀ stop, exec (.ddiv c o stop) s = .next (trapped s1 n (plainExc 14 0 0)))) ∧
      (Issues s n (insSD 4 o true false) s1 → exec (.dcmp c o) s = .next (coreDone s1 n 1 fun k =>
        k.setFlags (some (decide (a < b))) (some (decide (a = b))) (some false) (some (decide (b ≤ a)))))) ∧
    (Issues s n (insSD 5 o false true) s1 →
      (0 ≤ rg.toInt → exec (.dshf c o) s = .next (accResult s1 n 1 dd (a * 10 ^ rg.toInt.toNat) false)) ∧
      (rg.toInt < 0 →
        let r := roundDrop a.natAbs (min rg.toInt.natAbs 72) rm
        exec (.dshf c o) s = .next (accResult s1 n 1 dd (withSign a r.1) r.2))) ∧
    (Issues s n (insSD 6 o false true) s1 →
      (rg = 0 → exec (.drnd c o) s = .next (coreDone s1 n 1 fun k =>
        k.setFlags (some (decide (a < 0))) (some (decide (a = 0))) none none)) ∧
      (0 < rg.toNat → rg.toNat ≤ 71 →
        let r := roundDrop a.natAbs rg.toNat rm
        exec (.drnd c o) s = .next (accResult s1 n 1 dd (withSign a (r.1 * 10 ^ rg.toNat)) r.2))) ∧
    (Issues s n (cvIns 7 o) s1 →
      let v : BitVec 72 := BitVec.ofInt 72 a
      exec (.dcvb c o false) s = .next (decEnd
        (s1.modCore n fun k => (k.setG o.rg.toNat (wd (v.toNat / 2 ^ 36))).setG (o.rg.toNat + 1) (wd v.toNat)) n 1
        v.msb (decide (v = 0)) (decide (v.toInt ≠ a)) false))

/-- 05 R112, R113, R119, R120: DCVD; an accumulator with an invalid nibble is refused with the nibble's place; an
interrupted control-store instruction has done nothing. -/
def Obligations.DecimalConversionAndRefusal : Prop :=
  ∀ (c : CoreId) (s s1 : State) (o : SD),
    let n := c.val
    let k := s1.core n
    (Issues s n (cvIns 8 o) s1 →
      let v : BitVec 72 := k.g o.rg.toNat ++ k.g (o.rg.toNat + 1)
      exec (.dcvd c o false) s = .next (accResult s1 n 1 o.dd.toNat v.toInt false) ∧
      exec (.dcvd c o true) s = .next ((waitsFor s1 n .microTrap).endStep n)) ∧
    (∀ i, badNib (accNibs (k.acc o.dd.toNat)) 71 = some i →
      (Issues s n (insSD 0 o true false) s1 → exec (.dadd c o) s = .next (trapped s1 n (plainExc 12 2 i))) ∧
      (Issues s n (insSD 1 o true false) s1 → exec (.dsub c o) s = .next (trapped s1 n (plainExc 12 2 i))) ∧
      (Issues s n (insSD 4 o true false) s1 → exec (.dcmp c o) s = .next (trapped s1 n (plainExc 12 2 i)))) ∧
    (∀ i a, k.accHolds o.dd.toNat a → badNib (accNibs (k.acc o.ds.toNat)) 71 = some i →
      (Issues s n (insSD 0 o true false) s1 → exec (.dadd c o) s = .next (trapped s1 n (plainExc 12 3 i))) ∧
      (Issues s n (insSD 4 o true false) s1 → exec (.dcmp c o) s = .next (trapped s1 n (plainExc 12 3 i))))

/-- 02 R24, R25; 05 R105, R107; 07 R159: what a decimal result leaves reads back as the low L digits of the value with its sign,
zero with plus, and is a valid field; the balance of 26 digits that a posting stores reads back as its value. -/
def Obligations.DecimalFieldsReadBack : Prop :=
  (∀ (l : Nat) (v : Int), l ≤ 255 →
     let nibs := (nibsOf l v).1
     badNib nibs l = none ∧ nibs.length = l + 1 ∧
       nibsInt nibs l = (if v < 0 then -((v.natAbs % 10 ^ l : Nat) : Int) else ((v.natAbs % 10 ^ l : Nat) : Int)) ∧
       ((nibsOf l v).2 = true ↔ 10 ^ l ≤ v.natAbs) ∧
       (l = 71 → accNibs (accOf nibs) = nibs)) ∧
  ∀ v : Int, v.natAbs < 10 ^ 26 → (toPacked26 v).length = 3 ∧ packed26 (toPacked26 v) = some v

/-- 05 R114-R117, R121: loads, stores, sums, products and comparisons of packed fields in memory, conversions to and from
zoned fields, and check digits. -/
def Obligations.DecimalMemoryResults : Prop :=
  ∀ (c : CoreId) (s s1 s2 s3 s4 s5 : State) (o : LR) (x y : List Nat) (ps : List Phys) (a b : Int),
    let n := c.val
    let k := s1.core n
    let ga := k.g o.ra.toNat
    let gb := k.g o.rb.toNat
    let gc := k.g o.rc.toNat
    let lens := k.g o.mod.toNat
    let lr := bits lens 12 19
    let l1 := bits lens 20 27
    let l2 := bits lens 28 35
    let oneLen : Prop := 1 ≤ gc.toNat ∧ gc.toNat ≤ 255 ∧ ga.toNat ≤ 71 ∧ ptrNib gb ≤ 8
    let operands : Prop := ptrNib gb ≤ 8 ∧ ptrNib gc ≤ 8 ∧ Yields (readPacked n gb l1 1) s1 x s2 ∧
      Yields (readPacked n gc l2 2) s2 y s3 ∧ packedHolds x l1 a ∧ packedHolds y l2 b
    let arith (v : Int) (max2 : Nat) (t : State) : Prop :=
      bits lens 0 11 = 0 ∧ lr ≠ 0 ∧ l1 ≠ 0 ∧ l2 ≠ 0 ∧ l2 ≤ max2 ∧ operands ∧ ptrNib ga ≤ 8 ∧
        Yields (probeField n ga (lr + 1) 9 0) s3 ps s4 ∧
        Yields (writePieces n ga 9 ps setDigit (nibsOf lr v).1) s4 () s5 ∧ t = decResult s5 n 2 lr v false
    (Issues s n (dldIns 0 o) s1 → oneLen → Yields (readPacked n gb gc.toNat 1) s1 x s2 → packedHolds x gc.toNat a →
      exec (.dld c o false) s = .next (accResult s2 n 2 (o.mod.toNat / 8) (a * 10 ^ ga.toNat) false)) ∧
    (Issues s n (dldIns 1 o) s1 → oneLen → Yields (probeField n gb (gc.toNat + 1) 9 1) s1 ps s2 →
      (s2.core n).accHolds (o.mod.toNat / 8) a →
      let r := roundDrop a.natAbs ga.toNat (bits (s2.core n).dsrSeen 0 1)
      Yields (writePieces n gb 9 ps setDigit (nibsOf gc.toNat (withSign a r.1)).1) s2 () s3 →
      exec (.dst c o false) s = .next (decResult s3 n 2 gc.toNat (withSign a r.1) r.2)) ∧
    (∀ t, Issues s n (arithIns 2 true o) s1 → arith (a + b) 255 t → exec (.daddm c o false) s = .next t) ∧
    (∀ t, Issues s n (arithIns 3 true o) s1 → arith (a - b) 255 t → exec (.dsubm c o false) s = .next t) ∧
    (∀ t, Issues s n (arithIns 4 true o) s1 → arith (a * b) 16 t → exec (.dmulm c o false) s = .next t) ∧
    (Issues s n (arithIns 5 false o) s1 → bits lens 0 11 = 0 → lr = 0 → l1 ≠ 0 → l2 ≠ 0 → operands →
      exec (.dcmpm c o false) s = .next (coreDone s3 n 2 fun k =>
        k.setFlags (some (decide (a < b))) (some (decide (a = b))) (some false) (some (decide (b ≤ a))))) ∧
    (let r1 := bits gc 20 27
     let r2 := bits gc 28 35
     let lead := o.mod.getMsbD 0
     bits gc 0 19 = 0 → r1 ≠ 0 → r2 ≠ 0 →
      (Issues s n (zonedIns 6 o) s1 → ptrNib gb ≤ 3 → ptrNib ga ≤ 8 → Yields (readZoned n gb r2 1) s1 x s2 →
        Yields (probeField n ga (r1 + 1) 9 0) s2 ps s3 → zonedValue x lead = .ok a →
        Yields (writePieces n ga 9 ps setDigit (nibsOf r1 a).1) s3 () s4 →
        exec (.zpk c o false) s = .next (decResult s4 n 2 r1 a false)) ∧
      (Issues s n (zonedIns 7 o) s1 → ptrNib gb ≤ 8 → ptrNib ga ≤ 3 → Yields (readPacked n gb r2 1) s1 x s2 →
        Yields (probeField n ga (r1 + 1) 4 0) s2 ps s3 → packedHolds x r2 a →
        Yields (writePieces n ga 4 ps setChar (zonedOf r1 a lead)) s3 () s4 →
        exec (.pkz c o false) s = .next (decResult s4 n 2 r1 a false))) ∧
    (let alg := o.mod.toNat / 8
     let verify := o.mod.getMsbD 2
     let digits := if alg = 2 then 2 else 1
     Issues s n
       { insLR 0o34 0o010 o with
         fields := (insLR 0o34 0o010 o).fields ++ [(31, decide (alg = 3)), (34, decide (o.mod.toNat % 4 ≠ 0))]
         regs := [(5, o.ra.toNat), (10, o.rb.toNat), (26, o.rc.toNat)], ctl := true } s1 →
     1 ≤ gc.toNat → gc.toNat ≤ 255 → (verify = true → digits < gc.toNat) → ptrNib gb ≤ 8 →
     Yields (readPieces n gb gc.toNat 9 1 digitOf) s1 x s2 → (∀ d ∈ x, d ≤ 9) →
     let v := checkValue alg (if verify then x.take (gc.toNat - digits) else x)
     let z := if verify then decide (digitsNat (x.drop (gc.toNat - digits)) = v) else decide (v = 0)
     exec (.ckd c o false) s = .next (coreDone s2 n 2 fun k =>
       (k.setG o.ra.toNat (wd v)).setFlags (some false) (some z) (some false) none))

/-- 12 R287; 11 R266, R280, R282; 10 R238: loads of words, halves, characters, pairs, quadruples and tokens; a pointer that
does not name such a piece raises Alignment. What a load reads is the subject of MemoryOrderResults. -/
def Obligations.LoadResults : Prop :=
  ∀ (c : CoreId) (s s1 s2 : State),
    let n := c.val
    let k := s1.core n
    let dom := k.domTok
    (∀ (o : MemForm) (w : Cell), Issues s n (memIns 0o10 0 0o30 0 o) s1 →
      let p := memPtr k o
      (ptrNib p = 0 → Yields (loadAt n dom plainOpt true (ptrWord p) 1) s1 [w] s2 →
        exec (.ld c o) s = .next (coreDone s2 n (memLen o) fun k => k.setG (memRd o) w.w)) ∧
      (ptrNib p ≠ 0 → exec (.ld c o) s = .next (trapped s1 n (plainExc 11 0 (128 + memRb o))))) ∧
    (∀ (o : LM) (x y : Cell), Issues s n ((insLM 0o30 1 o).group o.rd.toNat 2) s1 →
      let p := k.g o.rb.toNat + o.disp.signExtend 36
      ptrNib p = 0 → Yields (loadAt n dom plainOpt false (ptrWord p) 2) s1 [x, y] s2 →
      exec (.ld2 c o) s = .next (coreDone s2 n 2 fun k => (k.setG o.rd.toNat x.w).setG (o.rd.toNat + 1) y.w)) ∧
    (∀ (o : LM) (x y z w : Cell), Issues s n ((insLM 0o30 2 o).group o.rd.toNat 4) s1 →
      let p := k.g o.rb.toNat + o.disp.signExtend 36
      ptrNib p = 0 → Yields (loadAt n dom plainOpt false (ptrWord p) 4) s1 [x, y, z, w] s2 →
      exec (.ld4 c o) s = .next (coreDone s2 n 2 fun k =>
        (((k.setG o.rd.toNat x.w).setG (o.rd.toNat + 1) y.w).setG (o.rd.toNat + 2) z.w).setG (o.rd.toNat + 3) w.w)) ∧
    (∀ (o : HalfForm) (w : Cell), Issues s n (halfIns 0o12 0o30 o) s1 →
      let p := halfPtr k o
      ptrNib p = 0 → Yields (loadAt n dom plainOpt true (ptrWord p) 1) s1 [w] s2 →
      exec (.ldh c o) s = .next (coreDone s2 n (halfLen o) fun k =>
        k.setG (halfRd o) (wd (bits w.w (18 * halfH o) (18 * halfH o + 17))))) ∧
    (∀ (o : MemForm) (w : Cell), Issues s n (memIns 0o11 0 0o30 4 o) s1 →
      let p := memPtr k o
      (ptrNib p ≤ 3 → Yields (loadAt n dom plainOpt true (ptrWord p) 1) s1 [w] s2 →
        exec (.ldc c o) s = .next (coreDone s2 n (memLen o) fun k =>
          k.setG (memRd o) (wd (bits w.w (9 * ptrNib p) (9 * ptrNib p + 8))))) ∧
      (3 < ptrNib p → exec (.ldc c o) s = .next (trapped s1 n (plainExc 11 0 (128 + memRb o))))) ∧
    (∀ o : LP, Issues s n (insLP 0o30 7 o) s1 →
      let even := k.g o.rb.toNat
      let odd := k.g (o.rb.toNat + 1)
      let pa := bits even 28 35 * 2 ^ 32 + bits odd 0 31
      bits even 0 27 = 0 → bits odd 32 35 = 0 →
      (dom.system = false → exec (.ldp c o) s = .next (trapped s1 n (plainExc 5 0 0))) ∧
      (dom.system = true → (2 ^ 39 ≤ pa ∨ s1.populated n pa = false) → exec (.ldp c o) s = .next (coreDone s1 n 2 fun k =>
        { k.setG o.rd.toNat 0 with tlbIndex := setBit k.tlbIndex 20 true })) ∧
      (dom.system = true → pa < 2 ^ 39 → s1.populated n pa = true → k.sbNaming pa = [] → ∀ w : Cell,
        let sl := s1.sealSeen n (pa / 2048)
        Yields (fetchWord n { pa, c := false, wt := false, dev := false, sl, bad := false } 0 0 1 0) s1 w s2 →
        exec (.ldp c o) s = .next (coreDone s2 n 2 fun k => k.setG o.rd.toNat w.w))) ∧
    (∀ (o : LX) (t : Tok) (w : Cell), Issues s n (insLX 0o30 6 o) s1 → Yields (crossToken n o.cx.toNat) s1 t s1 →
      let p := k.g o.rb.toNat + o.disp.signExtend 36
      ptrNib p = 0 → Yields (loadAt n t crossOpt false (ptrWord p) 1) s1 [w] s2 →
      exec (.xld c o) s = .next (coreDone s2 n 2 fun k => k.setG o.rd.toNat w.w)) ∧
    (∀ (o : LM) (x y : Cell) (s3 : State), Issues s n (insLMC 0o30 5 o) s1 →
      let p := k.g o.rb.toNat + o.disp.signExtend 36
      ptrNib p = 0 → ptrWord p % 2 = 0 → Yields (loadAt n dom tokenOpt false (ptrWord p) 2) s1 [x, y] s2 →
      Yields (putTok n o.rd.toNat { a := x.w, b := y.w, tag := x.tag && y.tag } 0 0 2) s2 () s3 →
      exec (.cld c o) s = .next (finish s3 n 2 .seq))

/-- 12 R287, R288; 11 R266, R280; 17 R425: stores enter the store buffer with the characters they write; STK waits for the
buffer, and its answer, the code of the page write, goes to RD, with Z set where it was accepted. -/
def Obligations.StoreResults : Prop :=
  ∀ (c : CoreId) (s s1 s2 : State),
    let n := c.val
    let k := s1.core n
    let g (r : Nat) : Word := k.g r
    let stores (dom : Tok) (opt : AOpt) (p : Word) (mask : BitVec 4) (ws : List Word) (tag : Bool) : Prop :=
      Yields (storeAt n dom opt (ptrWord p) mask ws tag) s1 () s2
    (∀ o : MemForm, Issues s n (memIns 0o10 1 0o31 0 o) s1 → ptrNib (memPtr k o) = 0 →
      stores k.domTok plainOpt (memPtr k o) 0b1111 [g (memRd o)] false →
      exec (.st c o) s = .next (finish s2 n (memLen o) .seq)) ∧
    (∀ o : LM,
      let p := g o.rb.toNat + o.disp.signExtend 36
      let r := o.rd.toNat
      (Issues s n ((insLM 0o31 1 o).group r 2) s1 → ptrNib p = 0 →
        stores k.domTok plainOpt p 0b1111 [g r, g (r + 1)] false → exec (.st2 c o) s = .next (finish s2 n 2 .seq)) ∧
      (Issues s n ((insLM 0o31 2 o).group r 4) s1 → ptrNib p = 0 →
        stores k.domTok plainOpt p 0b1111 [g r, g (r + 1), g (r + 2), g (r + 3)] false →
        exec (.st4 c o) s = .next (finish s2 n 2 .seq)) ∧
      (Issues s n (insLMC 0o31 5 o) s1 → ptrNib p = 0 → ptrWord p % 2 = 0 →
        stores k.domTok tokenOpt p 0b1111 [(k.tokSeen r).a, (k.tokSeen r).b] (k.tokSeen r).tag →
        exec (.cst c o) s = .next (finish s2 n 2 .seq)) ∧
      (∀ ph : Phys, Issues s n (insLM 0o31 7 o) s1 → k.sb = [] → ptrNib p = 0 →
        (∀ e, k.lookup .write (ptrWord p) k.domTok.dom = some e → e.dev = true) →
        Yields (access n k.domTok .write 3 plainOpt (ptrWord p) 1 0) s1 ph s2 →
        let ans := s2.stkAnswer c ph.pa (g r)
        exec (.stk c o) s = .next (coreDone ans.2 n 2 fun k =>
          (k.setG r (wd ans.1)).setFlags (some false) (some (decide (ans.1 = 0))) (some false) none))) ∧
    (∀ o : HalfForm, Issues s n (halfIns 0o25 0o31 o) s1 → ptrNib (halfPtr k o) = 0 →
      stores k.domTok plainOpt (halfPtr k o) (if halfH o = 0 then 0b1100 else 0b0011)
        [setHalf 0 (halfH o) (bits (g (halfRd o)) 18 35)] false →
      exec (.sth c o) s = .next (finish s2 n (halfLen o) .seq)) ∧
    (∀ o : MemForm, Issues s n (memIns 0o11 1 0o31 4 o) s1 →
      let p := memPtr k o
      ptrNib p ≤ 3 → stores k.domTok plainOpt p (charMask (ptrNib p)) [setChar 0 (ptrNib p) (bits (g (memRd o)) 27 35)]
        false → exec (.stc c o) s = .next (finish s2 n (memLen o) .seq)) ∧
    (∀ (o : LX) (t : Tok), Issues s n (insLX 0o31 6 o) s1 → Yields (crossToken n o.cx.toNat) s1 t s1 →
      let p := g o.rb.toNat + o.disp.signExtend 36
      ptrNib p = 0 → stores t crossOpt p 0b1111 [g o.rd.toNat] false →
      exec (.xst c o) s = .next (finish s2 n 2 .seq))

/-- 12 R284, R288-R291, R297; 02 R33, R40; 11 R268: one word of an ordinary load or store, on a page that is not a device's,
past its checks: a store waits for room among eight entries; a device's page waits for an empty buffer and for the floating
operations in flight; a load takes the youngest entry that names its word where that
is whole, and waits where it is a part; with no such entry it reads memory where its line is at hand. The oldest entry of a
store buffer becomes visible, its characters and its tag and no other word; a line that a load waits for arrives; a key
record is read, and enters the key cache unless it is one that R42 refuses. -/
def Obligations.MemoryOrderResults : Prop :=
  (∀ (n : Nat) (dom : Tok) (o : AOpt) (va : Nat) (s t : State) (p : Phys), va < 2 ^ 32 → p.dev = false →
     let k := t.core n
     let roomIn (u : State) (line : Nat) : Prop := u.swFrames = 0 ∨
       ((u.core n).dcache.filter fun l => decide (l.1 % 256 = line % 256 ∧ l.1 ≠ line)).length < 4;
     (Yields (access n dom .read 2 o va 1 0) s p t →
       (∀ e, (k.sbNaming p.pa).getLast? = some e → e.dev = false →
         (e.mask = 0b1111 → Yields (loadAt n dom o true va 1) s [{ w := e.data, tag := e.tag }] t) ∧
         (e.mask ≠ 0b1111 → (loadAt n dom o true va 1).run s = .error (.wait .storeBuffer) t)) ∧
       (k.sbNaming p.pa = [] → p.bad = false → ∀ fwd,
         (p.c = true → k.resting = false → (∀ l ∈ k.dcache, l.1 ≠ p.pa / 16) →
           (loadAt n dom o fwd va 1).run s = .error (.wait (.lineFill (p.pa / 16) 0)) t) ∧
         (p.c = false ∨ k.resting = true ∨ ((∃ l ∈ k.dcache, l.1 = p.pa / 16) ∧ roomIn t (p.pa / 16)) → p.sl = 0 → t.opened = [] →
           ∃ u, Yields (loadAt n dom o fwd va 1) s [t.rd p.pa] u ∧ u.dram = t.dram ∧ u.opened = []))) ∧
     (Yields (access n dom .write 3 o va 1 0) s p t → p.bad = false → ∀ (mask : BitVec 4) (w : Word) (tag : Bool),
       (k.sb.length < 8 → Yields (storeAt n dom o va mask [w] tag) s () (t.modCore n fun k =>
         { k with sb := k.sb ++ [{ addr := p.pa, mask, data := w, tag, dev := false, cached := p.c, wt := p.wt }] })) ∧
       (8 ≤ k.sb.length → (storeAt n dom o va mask [w] tag).run s = .error (.wait .storeBuffer) t))) ∧
  ∀ (c : CoreId) (s : State),
    let n := c.val
    let k := s.core n
    (∀ ue, k.sb = [] → exec (.storeDrain c ue) s = .next s) ∧
    (∀ (e : SbEntry) (rest : List SbEntry), k.sb = e :: rest → e.dev = false → s.opened = [] →
      (s.swFrames = 0 ∨ (s.sealSeen n (e.addr / 2048) = 0 ∧
        (k.dcache.filter fun l => decide (l.1 % 256 = e.addr / 16 % 256 ∧ l.1 ≠ e.addr / 16)).length < 4)) →
      ∃ t, exec (.storeDrain c false) s = .next t ∧ (t.core n).sb = rest ∧
        t.rd e.addr = { w := mergeChars e.mask e.data (s.rd e.addr).w, tag := e.tag } ∧
        (∀ a, a ≠ e.addr → t.rd a = s.rd a)) ∧
    (∀ (e : SbEntry) (rest : List SbEntry) (page off : Nat), k.sb = e :: rest → e.dev = true →
      devPage e.addr = some (page, off) → k.wait ≠ some .storeBuffer → ∀ ue,
      let s' := s.modCore n fun k => { k with sb := rest }
      exec (.storeDrain c ue) s = .next (if k.fpu ≠ [] then s else if e.mask = 0b1111 then
        s'.wrPage (.core c) page off e.data else s'.reject (.core c) page off 4)) ∧
    (∀ (line : BitVec 36) (off : Nat), k.wait = some (.lineFill line.toNat off) → k.resting = false →
      let s' := s.modCore n fun k => { k with wait := none }
      exec (.lineFill c false line .good) s = .next (s'.dcPut n line.toNat false) ∧
      exec (.lineFill c false line .uncorrectable) s = .next (s'.lineBad n line.toNat off)) ∧
    (∀ (cl : Fin 8) (f : BitVec 29), s.ktWritten = true → s.populated 64 (s.ktAddr f.toNat) = true →
      s.kcFind cl.val f.toNat = none →
      let kr := (s.rd (s.ktAddr f.toNat)).w
      exec (.keyRecordRead cl f) s = .next ((List.range 65).foldl (fun t m => t.endWait m (.keyRecord cl.val f.toNat))
        (if s.badRecord f.toNat kr then s else s.kcPut cl.val f.toNat kr)))

/-- 06 R131-R137, R139: moves, fills, translations, comparisons and scans of characters, one at a time: each leaves its
registers and memory at the character it has come to, and an interrupted one stands there. -/
def Obligations.StringResults : Prop :=
  ∀ (c : CoreId) (s s1 : State) (o : LR),
    let n := c.val
    let k := s1.core n
    let ra := o.ra.toNat
    let rb := o.rb.toNat
    let rc := o.rc.toNat
    let rm := o.mod.toNat
    let a0 := k.g ra
    let b0 := k.g rb
    let l := (k.g rc).toNat
    let at_ (u : State) (r : Nat) : Word := (u.core n).g r
    let three : List (Nat × List Nat × Bool) := [(5, [ra], false), (10, [rb], false), (26, [rc], false)]
    let ends (start : State) (one : State → State → Prop) (run : Option Nat → Host.Outcome State Fault Refusal) : Prop :=
      (∀ t, Repeats one l start t → run none = .next (finish t n 2 .seq)) ∧
      (∀ j t, j < l → Repeats one j start t → run (some j) = .next ((waitsFor t n .microTrap).endStep n))
    (Issues s n (stringIns 0o020 o three [(31, decide (o.mod ≠ 0))]) s1 → l ≤ 2 ^ 24 → ptrNib a0 ≤ 3 → ptrNib b0 ≤ 3 →
      ends s1 (fun u v => ∃ ch x y, Yields (readChar n b0 (at_ u rb) 1) u ch x ∧
        Yields (writeChar n a0 (at_ u ra) 0 ch) x () y ∧ v = y.modCore n fun k =>
          ((k.setG ra (nextChar (at_ u ra))).setG rb (nextChar (at_ u rb))).setG rc (k.g rc - 1))
        fun stop => exec (.mvs c o stop) s) ∧
    (Issues s n (stringIns 0o021 o three [(31, decide (o.mod ≠ 0))]) s1 → l ≤ 2 ^ 24 → ptrNib a0 ≤ 3 → ptrNib b0 ≤ 3 →
      ends s1 (fun u v => ∃ ch x y, let i := (at_ u rc).toNat - 1
        Yields (readChar n b0 (advance b0 i 4) 1) u ch x ∧ Yields (writeChar n a0 (advance a0 i 4) 0 ch) x () y ∧
        v = y.modCore n fun k => k.setG rc (wd i)) fun stop => exec (.mvsr c o stop) s) ∧
    (Issues s n (stringIns 0o025 o [(5, [ra], false), (10, [rb], true), (26, [rc], false)] [(31, decide (o.mod ≠ 0))]) s1 →
      b0.toNat < 2 ^ 9 → l ≤ 2 ^ 24 → ptrNib a0 ≤ 3 →
      ends s1 (fun u v => ∃ y, Yields (writeChar n a0 (at_ u ra) 0 b0.toNat) u () y ∧
        v = y.modCore n fun k => (k.setG ra (nextChar (at_ u ra))).setG rc (k.g rc - 1))
        fun stop => exec (.fill c o stop) s) ∧
    (Issues s n (stringIns 0o024 o (if rm = ra then three else three ++ [(31, [rm], false)]) []) s1 → l ≤ 2 ^ 24 →
      ptrNib a0 ≤ 3 → ptrNib b0 = 0 → ptrNib (k.g rm) ≤ 3 →
      ends s1 (fun u v => ∃ ch x w y z, Yields (readChar n (k.g rm) (at_ u rm) 3) u ch x ∧
        Yields (readWord n ((ptrWord b0 + ch / 4) % 2 ^ 32) 4 (ch / 4)) x w y ∧
        Yields (writeChar n a0 (at_ u ra) 0 (charOf w.w (ch % 4))) y () z ∧ v = z.modCore n fun k =>
          let k := k.setG ra (nextChar (at_ u ra))
          let k := if rm = ra then k else k.setG rm (nextChar (at_ u rm))
          k.setG rc (k.g rc - 1)) fun stop => exec (.trs c o stop) s)

/-- 06 R135, R136, Table 05-2, Table 06-2: CMS stops at the first position where the strings, the shorter one padded, differ;
SCS at the first character that the map marks, or does not; their flags say what was found. -/
def Obligations.StringSearchResults : Prop :=
  ∀ (c : CoreId) (s s1 : State) (o : LR) (j : Nat),
    let n := c.val
    let k := s1.core n
    let ra := o.ra.toNat
    let rb := o.rb.toNat
    let rc := o.rc.toNat
    let a0 := k.g ra
    let b0 := k.g rb
    let left (u : State) (r : Nat) : Word := (u.core n).g r
    let char (r cnt pad role : Nat) (start : Word) (u : State) (ch : Nat) (v : State) : Prop :=
      if left u cnt = 0 then ch = pad ∧ v = u else Yields (readChar n start (left u r) role) u ch v
    (Issues s n (stringIns 0o022 o
        [(5, [ra], false), (10, [rb], false), (26, [rc, rc + 1], false), (31, [o.mod.toNat], true)]
        [(26, decide (rc % 2 ≠ 0))]) s1 →
      let pad := (k.g o.mod.toNat).toNat
      let la := (k.g rc).toNat
      let lb := (k.g (rc + 1)).toNat
      la ≤ 2 ^ 24 → lb ≤ 2 ^ 24 → pad < 2 ^ 9 → ptrNib a0 ≤ 3 → ptrNib b0 ≤ 3 →
      let same (u v : State) : Prop := ∃ ch x y, char ra rc pad 0 a0 u ch x ∧ char rb (rc + 1) pad 1 b0 x ch y ∧
        v = y.modCore n fun k =>
          let k := if k.g rc = 0 then k else (k.setG ra (nextChar (k.g ra))).setG rc (k.g rc - 1)
          if k.g (rc + 1) = 0 then k else (k.setG rb (nextChar (k.g rb))).setG (rc + 1) (k.g (rc + 1) - 1)
      (∀ t, Repeats same (max la lb) s1 t → exec (.cms c o none) s = .next (coreDone t n 2 fun k =>
        k.setFlags (some false) (some true) (some false) (some true))) ∧
      (∀ t x y ch ch', j < max la lb → Repeats same j s1 t → char ra rc pad 0 a0 t ch x →
        char rb (rc + 1) pad 1 b0 x ch' y → ch ≠ ch' → exec (.cms c o none) s = .next (coreDone y n 2 fun k =>
          k.setFlags (some (decide (ch < ch'))) (some false) (some false) (some (decide (ch' ≤ ch)))))) ∧
    (Issues s n (stringIns 0o023 o [(5, [ra], false), (10, [rb], false), (26, [rc], false)]
        [(32, decide (o.mod.toNat % 16 ≠ 0))]) s1 →
      let l := (k.g rc).toNat
      let sense := o.mod.getMsbD 0
      l ≤ 2 ^ 24 → ptrNib a0 ≤ 3 → ptrNib b0 = 0 → ∀ (map : List Cell) (s2 : State),
      Yields ((List.range 15).mapM fun i => readWord n ((ptrWord b0 + i) % 2 ^ 32) 4 i) s1 map s2 →
      let marked (ch : Nat) : Bool := bit (map.getD (ch / 36) Cell.zero).w (ch % 36)
      let pass (u v : State) : Prop := ∃ ch x, Yields (readChar n a0 (left u ra) 0) u ch x ∧ marked ch = sense ∧
        v = x.modCore n fun k => (k.setG ra (nextChar (left u ra))).setG rc (k.g rc - 1)
      (∀ t, Repeats pass l s2 t → exec (.scs c o none) s = .next (coreDone t n 2 fun k =>
        k.setFlags (some false) (some false) (some false) none)) ∧
      (∀ t x ch, j < l → Repeats pass j s2 t → Yields (readChar n a0 (left t ra) 0) t ch x → marked ch ≠ sense →
        exec (.scs c o none) s = .next (coreDone x n 2 fun k =>
          k.setFlags (some false) (some true) (some false) none)))

/-- 06 R140-R146: EDIT and EDMK take cell groups until the count word's P is 0, then the flags describe the last field and
PROG is 0; over a pattern of literal cells they move to the end of it, cell by cell, and an interrupted one stands at the cell it
has come to; what literal, separator, sign-text and fill cells emit. That SE clears TXS
too is the model's choice (log entry 65). -/
def Obligations.EditResults : Prop :=
  (∀ (c : CoreId) (s s1 s2 s3 : State) (o : LR) (e e2 e3 : EditSt),
    let n := c.val
    let k := s1.core n
    let prog := k.sprSeen 6 k.prog
    let cw := k.g o.mod.toNat
    let a0 := k.g o.ra.toNat
    let b0 := k.g o.rb.toNat
    let src := k.g o.rc.toNat
    let regs (mark : Bool) : EditRegs :=
      { ra := o.ra.toNat, rb := o.rb.toNat, rc := o.rc.toNat, rm := o.mod.toNat, mark, a0, b0 }
    let done := coreDone s3 n 2 fun k =>
      ({ k with prog := 0 }).setFlags (some e3.negative) (some e3.zero) (some false) none
    editState prog = some e → bits cw 0 2 = 0 → bits cw 11 35 ≤ 2 ^ 24 → (bits prog 0 3 = 0 → bits cw 3 10 ≠ 0) →
    ptrNib a0 ≤ 3 → ptrNib b0 ≤ 3 → ptrNib src ≤ 8 → Yields (readField n e src (bits cw 3 10)) s1 e2 s2 →
    (Issues s n (editIns 0o026 false o) s1 → Yields (editLoop n (regs false) (bits cw 11 35) e2 none) s2 e3 s3 →
      exec (.edit c o none) s = .next done) ∧
    (Issues s n (editIns 0o027 true o) s1 → Yields (editLoop n (regs true) (bits cw 11 35) e2 none) s2 e3 s3 →
      exec (.edmk c o none) s = .next done) ∧
    (let shown (ch : Nat) : Nat := if e2.blank || (e2.txt && e2.txs == e2.negative) then e2.fill else ch
     let at_ (u : State) (r : BitVec 5) : Word := (u.core n).g r.toNat
     let literal (u v : State) : Prop := ∃ ch x y, ch < 0o400 ∧ Yields (readChar n b0 (at_ u o.rb) 1) u ch x ∧
       Yields (writeChar n a0 (at_ u o.ra) 0 (shown ch)) x () y ∧ v = y.modCore n fun k =>
         { (((k.setG o.ra.toNat (nextChar (at_ u o.ra))).setG o.rb.toNat (nextChar (at_ u o.rb))).setG o.rc.toNat
             (at_ u o.rc)).setG o.mod.toNat
             (setBits (setBits (at_ u o.mod) 3 10 (bits (at_ u o.mod) 3 10)) 11 35 (bits (at_ u o.mod) 11 35 - 1)) with
           prog := editProg e2 }
     let ends (run : Option Nat → Host.Outcome State Fault Refusal) : Prop :=
       (∀ t, Repeats literal (bits cw 11 35) s2 t → run none = .next (coreDone t n 2 fun k =>
         ({ k with prog := 0 }).setFlags (some e2.negative) (some e2.zero) (some false) none)) ∧
       (∀ j t, j < bits cw 11 35 → Repeats literal j s2 t → run (some j) = .next ((waitsFor t n .microTrap).endStep n))
     e2.pend = false →
     (Issues s n (editIns 0o026 false o) s1 → ends fun stop => exec (.edit c o stop) s) ∧
     (Issues s n (editIns 0o027 true o) s1 → ends fun stop => exec (.edmk c o stop) s))) ∧
  (∀ (n : Nat) (r : EditRegs) (e : EditSt) (d p cell arg : Nat) (s s2 : State), 1 ≤ p →
    let k := s.core n
    let group (code : Nat) (st : EditSt) (ch : Option Nat) : Prop :=
      Yields (cellGroup n r e d p) s { code, cells := 1, st
                                       out := match ch with
                                         | some ch => [if e.blank then e.fill else ch]
                                         | none => []
                                       src := k.g r.rc, d } s2
    Yields (readChar n r.b0 (k.g r.rb) 1) s cell s2 →
    (cell < 0o400 → e.txt = false → group 16 e (some cell)) ∧
    (cell < 0o400 → e.txt = true → group 16 e (some (if e.txs != e.negative then cell else e.fill))) ∧
    (cell = 0o520 + arg → arg ≤ 3 → e.txt = false → group 5 e (some (if e.sig then sepChar arg else e.fill))) ∧
    (cell = 0o560 + arg → arg ≤ 1 → e.txt = false →
      group 7 { e with txt := true, txs := decide (arg = 1) } none) ∧
    (cell = 0o600 → e.txt = true → group 8 { e with txt := false, txs := false } none) ∧
    (cell = 0o620 → e.txt = false → group 9 { e with blank := e.blank || e.zero } none) ∧
    (cell = 0o640 → e.txt = false → r.mark = true → group 10 e none) ∧
    (cell = 0o640 → e.txt = false → r.mark = false →
      (cellGroup n r e d p).run s = .error (.trap (plainExc 4 5 0)) s2))

/-- 07 R151-R157, R164, R165: POST and PREP refuse by status, or take their locks and wait for admission; CONF and ABRT settle
a prepared posting; the first refusals are STATE, HOLD and TWIN, in that order. -/
def Obligations.PostingIssueResults : Prop :=
  ∀ (c : CoreId) (s s1 : State) (o : LR),
    let n := c.val
    let k0 := s.core n
    let ins (min : Nat) : Ins :=
      { postIns k0 min o with fields := (postIns k0 min o).fields ++ [(31, decide (o.mod.toNat ≠ 0))] }
    let pair (min : Nat) : Ins :=
      { postIns k0 min o with
        fields := (postIns k0 min o).fields ++
          [(10, decide (o.rb.toNat % 2 ≠ 0)), (32, !o.mod.getMsbD 0 && decide (o.mod.toNat ≠ 0))]
        more := (o.rb.toNat + 1) :: (postIns k0 min o).more }
    let p := (s1.core n).g o.rb.toNat
    let gate : Option Nat :=
      if s1.cel.st ≠ .service then some 0o010
      else if s1.straps.twin = true ∧ (s1.twin.hold = false ∨ s1.twin.cmd = some 3) then some 0o007
      else if s1.rackMode = 2 ∧ (s1.paired = false ∨ s1.twin.cmd = some 2) then some 0o017
      else none
    let refused (t : State) (st : Word) : State := finish (t.refusePosting n st) n 2 .seq
    let posts (kind : PKind) (min : Nat) (run : Option Nat → Host.Outcome State Fault Refusal) : Prop :=
      Issues s n (ins min) s1 → ptrNib p = 0 → ∀ stop,
      (∀ code, gate = some code → run stop = .next (refused s1 (postStatus code none 0 false))) ∧
      (∀ st s2, Yields (postChecks n kind p stop).run s1 (.error st) s2 → run stop = .next (refused s2 st)) ∧
      (∀ q s2 s3 legs, Yields (postChecks n kind p stop).run s1 (.ok q) s2 → q.core = n →
        takeLocks n q.frames s2 = .all s3 → newBalances s3 0 q.legs [] [] = .ok legs →
        run stop = .next ((waitsFor (waitsFor (s3.setPosting { q with stage := .admission, legs }) n .admission) n
          .admission).endStep n))
    let settles (kind : PKind) (min : Nat) (out : Host.Outcome State Fault Refusal) : Prop :=
      Issues s n (pair min) s1 →
      (∀ code, gate = some code → out = .next (refused s1 (postStatus code none 0 false))) ∧
      (∀ st s2, Yields (prepChecks n o).run s1 (.error st) s2 → out = .next (refused s2 st)) ∧
      (∀ q s2, Yields (prepChecks n o).run s1 (.ok q) s2 → out = .next ((waitsFor (s2.setPosting
        { newPosting n kind (s2.core n).domTok.dom with prep0 := q.seq0, prep1 := q.seq1 }) n .admission).endStep n))
    posts .post 0 (fun stop => exec (.post c o stop) s) ∧ posts .prep 1 (fun stop => exec (.prep c o stop) s) ∧
      settles .conf 2 (exec (.conf c o) s) ∧ settles .abrt 3 (exec (.abrt c o) s)

/-- 07 R171-R173, R178-R180: JRD copies the record its cursor leads to and moves the cursor past it, or says in G1 why not;
ARCHIVE_POS takes a position between itself and the append position, and refuses another. -/
def Obligations.JournalReadResults : Prop :=
  (∀ (c : CoreId) (s s1 : State) (o : LR),
     let n := c.val
     let k := s1.core n
     let ra := o.ra.toNat
     let rb := o.rb.toNat
     let rc := o.rc.toNat
     let cur := k.g ra
     let t := k.tok o.mod.toNat
     let may : Bool := t.tag && !t.illFormed && !t.sealed && decide (t.type = 7) && t.read
     let ended (u : State) (code : Nat) : State := coreDone u n 2 fun k =>
       (k.setG 1 (postStatus code none 0 false)).setFlags (some false) (some (decide (code = 0))) (some false) none
     Issues s n
       { insLR 0o35 4 o with
         fields := (insLR 0o35 4 o).fields ++ [(5, decide (ra < 2)), (10, decide (rb < 2) || decide (ra = rb)),
           (26, decide (rc < 2) || (decide (ra = rc) || decide (rb = rc))), (31, o.mod.getMsbD 0)]
         regs := [(5, ra), (10, rb), (26, rc)], more := [1], grp := 1, ctl := true
         place := [(4, decide (2 ≤ (s.core n).bank))] } s1 →
     ptrNib (k.g rb) = 0 →
     ((s1.cel.st = .off ∨ s1.cel.st = .scan) → ∀ stop, exec (.jrd c o stop) s = .next (ended s1 0o010)) ∧
     (s1.cel.st ≠ .off → s1.cel.st ≠ .scan →
       (may = false → ∀ stop, exec (.jrd c o stop) s = .next (ended s1 0o001)) ∧
       (may = true → (ringPairs ≤ posPair cur ∨ posBefore s1.cel.append cur = true) → ∀ stop,
         exec (.jrd c o stop) s = .next (ended s1 0o002)) ∧
       (may = true → posPair cur < ringPairs → posBefore s1.cel.append cur = false →
         (∀ code, findRecord s1.cel 4 cur = .error code → ∀ stop, exec (.jrd c o stop) s = .next (ended s1 code)) ∧
         (∀ q, findRecord s1.cel 4 cur = .ok q →
           let w := recLen (s1.cel.word q 0);
           ((k.g rc).toNat < w → ∀ stop,
             exec (.jrd c o stop) s = .next (ended (s1.modCore n fun k => k.setG rc (wd w)) 0o053)) ∧
           (w ≤ (k.g rc).toNat → ∀ s2, Chain (fun i u v => Yields
               (writeWord n ((ptrWord (k.g rb) + i) % 2 ^ 32) 1 i 0b1111 (s1.cel.word q i)) u () v) w s1 s2 →
             exec (.jrd c o none) s = .next (ended
               (s2.modCore n fun k => (k.setG rc (wd w)).setG ra (posAdv q (w / 2))) 0)))))) ∧
  ∀ (w : Writer) (v : Word) (s : State), s.admits w 92 0o023 v = true →
    let bad : Nat :=
      if s.cel.st = .scan then 5
      else if s.standby = true then 0o010
      else if ringPairs ≤ posPair v ∨ posDist s.cel.archive s.cel.append < posDist s.cel.archive v then 2
      else 0
    (bad ≠ 0 → exec (.archivePos w v) s = .next (s.reject w 92 0o023 bad)) ∧
    (bad = 0 → s.paired = false → s.catching = false →
      exec (.archivePos w v) s = .next { s with cel := { s.cel with archive := v } }) ∧
    (bad = 0 → ∃ t, exec (.archivePos w v) s = .next t ∧ t.cel = { s.cel with archive := v })

/-- 07 R157, R160-R162, R171, R173, R175, R181: a posting's way to its end: it goes on when its lock is free, it is admitted, or
turned away where postings are kept out or its prepared posting is gone, its record is appended with the next sequence number and becomes durable, its balances change; the tail scan and the failure
of MRAM. -/
def Obligations.PostingEventResults : Prop :=
  ∀ (c : CoreId) (s : State),
    let n := c.val
    (s.postingOf n = none → exec (.lockWaitEnd c) s = .next s ∧ exec (.admission c) s = .next s ∧
      exec (.lone c) s = .next s) ∧
    (∀ p, s.postingOf n = some p → p.core = n →
      let len := 4 + p.body.length
      let room : Prop := (p.kind = .post ∨ p.kind = .prep) →
        s.cel.need len + (if p.kind = .prep then 3 else 0) ≤ s.cel.freePairs
      (∀ s2 legs, p.stage = .lockWait → takeLocks n p.frames s = .all s2 → newBalances s2 0 p.legs [] [] = .ok legs →
        exec (.lockWaitEnd c) s = .next (waitsFor (s2.setPosting { p with stage := .admission, legs }) n .admission)) ∧
      (p.stage = .admission →
        let settles : Prop := p.kind = .conf ∨ p.kind = .abrt
        let away (code : Nat) : State := ((s.modCel fun c => { c with lowMark := (s.preg 92 0o025).toNat }).refusePosting n
          (postStatus code none 0 false)).retire n 2 .seq
        (s.steep.pausing = true → exec (.admission c) s = .next s) ∧
        (s.steep.pausing = false → s.postCode ≠ 0 → exec (.admission c) s = .next (away s.postCode)) ∧
        (s.steep.pausing = false → s.postCode = 0 → settles → s.openPrepared p.prep0 p.prep1 = none →
          exec (.admission c) s = .next (away 0o050)) ∧
        (s.steep.pausing = false → s.postCode = 0 → ¬room → exec (.admission c) s = .next (away 0o016)) ∧
        (s.steep.pausing = false → s.postCode = 0 → (settles → s.openPrepared p.prep0 p.prep1 ≠ none) → room →
          s.cel.inFlight + len ≤ 320 → (s.rackMode = 1 → s.paired = true → s.cel.unacked.length < 64) →
          posPair s.cel.append + len / 2 ≤ ringPairs →
          ∃ t, exec (.admission c) s = .next t ∧ t.cel.append = posAdv s.cel.append (len / 2) ∧
            t.cel.count = (s.cel.count + 1) % 2 ^ 56 ∧ t.cel.posted = s.cel.posted + 1 ∧ t.dram = s.dram ∧
            (t.core n).wait = some .commitPhase ∧
            (let sq := seqWords s.cel.term s.cel.count
             let head := fld 0 3 p.kind.recKind ||| fld 4 8 p.legs.length ||| fld 9 20 p.dom |||
               fld 21 32 (posLap s.cel.append)
             t.cel.flying = s.cel.flying ++ [{ pos := s.cel.append, first0 := head, first1 := sq.1, len, core := n,
                                                  mode := s.rackMode }]))) ∧
      (p.stage = .racking → exec (.lone c) s = .next (s.finishPosting p true)) ∧
      (∀ f rest, s.cel.flying = f :: rest → f.core = n → p.stage = .durable → p.pos = f.pos → f.mode = 0 →
        let cel := s.cel.write f.pos 0 [f.first0, f.first1]
        let settled (q : Prepared) : Bool := q.settled ||
          ((bits f.first0 0 3 == 3 || bits f.first0 0 3 == 4) && q.seq0 == cel.word f.pos 4 && q.seq1 == cel.word f.pos 5)
        let durable : State :=
          { s with cel := ({ cel with
              flying := rest, last0 := f.first1, last1 := cel.word f.pos 2
              prepared := cel.prepared.map fun q => { q with settled := settled q } } : Cellar).checkpoint f }
        exec .recordDurable s = .next (durable.finishPosting p p.sync))) ∧
    (s.cel.flying = [] → exec .recordDurable s = .next s) ∧
    (s.cel.st ≠ .scan → exec .tailScan s = .next s) ∧
    (s.cel.st = .scan → ∃ t, exec .tailScan s = .next t ∧
      t.cel.st = (if s.pins.pwrFailLow then .drain else .service) ∧
      (let x := scanWalk s.cel (ringPairs + 1)
         { pos := s.cel.ckpt, count := s.cel.ckptCount, term := s.cel.ckptTerm, preps := [], settled := [] }
       t.cel.append = x.pos ∧ t.cel.count = x.count ∧
         (∀ q ∈ t.cel.prepared, q ∈ s.cel.prepared ∧ q.settled = false ∧ (q.seq0, q.seq1) ∉ x.settled)) ∧
      t.cel.ring = s.cel.ring) ∧
    ((s.cel.st = .scan ∨ s.cel.st = .service) →
      exec .mramFailure s = .next (({ s with cel := { s.cel with st := .fault } } : State).mcheck 64 6 0)) ∧
    (s.cel.st ≠ .scan → s.cel.st ≠ .service → exec .mramFailure s = .next s)

/-- 11 R256, R260-R265: tokens are copied, narrowed within what their source reaches and allows, sealed and unsealed under a
seal type's authority, and tested; C0 takes only a token usable as a domain; and no token that CNARROW makes of a plain
source reaches a word, or holds a right, that its source does not. -/
def Obligations.TokenResults : Prop :=
  (∀ (c : CoreId) (s s1 : State) (o : LR),
     let n := c.val
     let k := s1.core n
     let t := k.tokSeen o.rb.toNat
     let into (r : BitVec 5) (u : Tok) : State := finish (s1.modCore n fun k =>
       if r = 0 then (k.expose .c0 0 k.c0 4).setC0 u else k.setTok r.toNat u) n 2 .seq
     let fits (r : BitVec 5) (u : Tok) : Prop := r = 0 → u.tag = true ∧ u.illFormed = false ∧ u.sealed = false ∧ u.type = 6
     let own := bits (s1.preg 95 (0o020 + (k.g o.rc.toNat).toNat)) 24 35
     let sealer : Prop := 1 ≤ (k.g o.rc.toNat).toNat ∧ (k.g o.rc.toNat).toNat ≤ 14 ∧
       (k.domTok.system = true ∨ k.domTok.dom = own);
     (Issues s n (tokIns 0o020 o false false) s1 → fits o.ra t → exec (.cmov c o) s = .next (into o.ra t)) ∧
     (Issues s n (tokIns 0o021 o true true) s1 → t.tag = true →
       (t.illFormed = true → exec (.cnarrow c o) s = .next (trapped s1 n (plainExc 4 8 (128 + o.rb.toNat)))) ∧
       (t.illFormed = false → (t.sealed = true ∨ t.derive = false) →
         exec (.cnarrow c o) s = .next (trapped s1 n (plainExc 5 0 o.rb.toNat))) ∧
       (let u : Tok := { a := k.g o.rc.toNat, b := k.g o.mod.toNat, tag := true }
        t.illFormed = false → t.sealed = false → t.derive = true → u.illFormed = false → u.sealed = false → u.stype = 0 →
         u.type ≠ 2 → ((t.type = 6 ∧ t.system = true) ∨ narrowWithin t u = true) →
         u.rights &&& t.rights = u.rights → (u.type = 0 → u.hi ≤ 2 ^ 32) → fits o.ra u →
         exec (.cnarrow c o) s = .next (into o.ra u))) ∧
     (Issues s n (tokIns 0o022 o true false) s1 → sealer → t.tag = true → t.illFormed = false → t.sealed = false →
       t.type ≠ 2 → o.ra ≠ 0 → exec (.cseal c o) s = .next
         (into o.ra { t with a := setBit t.a 4 true, b := setBits t.b 32 35 (k.g o.rc.toNat).toNat })) ∧
     (Issues s n (tokIns 0o023 o true false) s1 → sealer → t.tag = true → t.illFormed = false → t.sealed = true →
       t.stype = (k.g o.rc.toNat).toNat →
       let u : Tok := { t with a := setBit t.a 4 false, b := setBits t.b 32 35 0 }
       fits o.ra u → exec (.cunseal c o) s = .next (into o.ra u)) ∧
     (let mem := o.mod.getMsbD 0
      let flags (k : Core) (w : Word) : Core :=
        (k.setG o.ra.toNat w).setFlags (some false) (some (!bit w 2)) (some false) none
      Issues s n
        { insLR 0o35 0o024 o with
          fields := (insLR 0o35 0o024 o).fields ++ [(26, decide (o.rc ≠ 0)), (32, decide (o.mod.toNat % 16 ≠ 0))]
          regs := (5, o.ra.toNat) :: (if mem then [(10, o.rb.toNat)] else [])
          toks := if mem then [] else [(10, o.rb.toNat)], grp := 1, ctl := true } s1 →
      (mem = false → exec (.ctest c o) s = .next (coreDone s1 n 2 fun k =>
        flags k (ctestWord { w := t.a, tag := t.tag } { w := t.b, tag := t.tag }))) ∧
      (∀ x y s2 s3, mem = true → ptrNib (k.g o.rb.toNat) = 0 → ptrWord (k.g o.rb.toNat) % 2 = 0 →
        Yields (readWord n (ptrWord (k.g o.rb.toNat)) 1 0) s1 x s2 →
        Yields (readWord n (ptrWord (k.g o.rb.toNat) + 1) 1 1) s2 y s3 →
        exec (.ctest c o) s = .next (coreDone s3 n 2 fun k => flags k (ctestWord x y))))) ∧
  ∀ s t : Tok, narrowWithin s t = true →
    t.type = s.type ∧ (s.key = 0 ∨ t.key = s.key) ∧
    (s.type = 0 → ∀ a, t.lo ≤ a → a < t.hi → s.lo ≤ a ∧ a < s.hi) ∧
    (s.type ≠ 0 → bits t.a 17 35 = bits s.a 17 35 ∧ bits t.b 0 31 = bits s.b 0 31)

/-- 13 R320-R324; 11 R260; 12 R295: TAKE takes the next ticket that the core may take, GIVE enters one where a token leads,
QACK ends a ticket's service; a second TAKE and a QACK without a ticket raise Queue. -/
def Obligations.QueueInstructionResults : Prop :=
  ∀ (c : CoreId) (s s1 : State) (o : SX),
    let n := c.val
    let k := s1.core n
    let place : List (Nat × Bool) := [(4, decide (2 ≤ (s.core n).bank))]
    let ra := o.ra.toNat
    (Issues s n { insSX 0o23 1 o with fields := [(5, decide (1 ≤ ra ∧ ra ≤ 4))], more := [1, 2, 3, 4], place } s1 →
      (k.serv ≠ none → exec (.take c o) s = .next (trapped s1 n (plainExc 22 1 0))) ∧
      (k.serv = none → s1.takeFrom n = none →
        exec (.take c o) s = .next (coreDone s1 n 1 fun k => (k.setG ra 0).setPsw 1 1 0)) ∧
      (∀ q w0 w1 w2 w3 s2, k.serv = none → s1.takeFrom n = some q → s1.deliver q n = ([w0, w1, w2, w3], s2) →
        exec (.take c o) s = .next (coreDone s2 n 1 fun k =>
          (((((k.setG 1 w0).setG 2 w1).setG 3 w2).setG 4 w3).setG ra (s2.servWord n)).setPsw 1 1 1) ∧
        s1.eligible q n = true ∧ (∀ x, s1.eligible x n = true → (s1.queue x).prio ≤ (s1.queue q).prio) ∧
        ((s1.queue q).released = [] → (s2.core n).serv = some (q, (s1.queue q).head)))) ∧
    (Issues s n { insSX0 0o23 2 32 o with toks := [(5, ra)], more := [1, 2, 3, 4], grp := 1, place } s1 →
      let t := k.tok ra
      let q := bits t.a 22 35
      let dev := bits t.b 27 31
      let ticket := [k.g 1, setBits (k.g 2) 28 32 s1.own, k.g 3, k.g 4]
      let z (u : State) (v : Nat) : State := coreDone u n 1 fun k => k.setPsw 1 1 v
      k.sb = [] → t.tag = true → t.illFormed = false → t.sealed = false → t.type = 3 → t.write = true →
      badFlags (k.g 2) = false → bits (k.g 2) 22 26 = 0 →
      (dev = s1.own → s1.accepts q = false → exec (.give c o) s = .next (trapped s1 n (plainExc 22 3 0))) ∧
      (dev = s1.own → s1.accepts q = true → (s1.queue q).full = true → exec (.give c o) s = .next (z s1 0)) ∧
      (dev = s1.own → s1.accepts q = true → (s1.queue q).full = false →
        exec (.give c o) s = .next (z (s1.enterQueue q ticket none) 1)) ∧
      (dev ≠ s1.own → s1.linkFull dev = true → exec (.give c o) s = .next (z s1 0)) ∧
      (∀ s2, dev ≠ s1.own → s1.linkFull dev = false →
        s1.sendMsg dev (.ticket (BitVec.ofNat 14 q) (ticketOf ticket) []) = some s2 →
        exec (.give c o) s = .next (z s2 1)) ∧
      (dev ≠ s1.own → s1.linkFull dev = false →
        s1.sendMsg dev (.ticket (BitVec.ofNat 14 q) (ticketOf ticket) []) = none →
        exec (.give c o) s = .next (z ((s1.pendInt 64 33).discardTicket q) 1))) ∧
    (Issues s n { insSX0 0o23 3 1 o with place } s1 →
      (k.serv = none → exec (.qack c o) s = .next (trapped s1 n (plainExc 22 2 0))) ∧
      (∀ q p, k.serv = some (q, p) →
        let ctx := s1.queue q
        exec (.qack c o) s = .next (coreDone
          (s1.settleRet q { ctx with inServ := ctx.inServ.filter fun e => e.1 != n }) n 1 fun k =>
          { k with serv := none })))

/-- 08 R184-R186, R197-R199, Tables 08-1, 08-2: decimal sums and differences of 36 digits, comparisons into masks, merges, moves
and element arithmetic without carries between elements. A vector instruction starts the wake of a gated unit and waits; the
unit gates when idle but under HOLD or in Rest mode; VGATE's HOLD wakes it. -/
def Obligations.VectorRegisterResults : Prop :=
  (∀ (c : CoreId) (s s1 : State) (o : SV),
     let n := c.val
     let k := s1.core n
     let a := k.vreg o.vd.toNat
     let b := k.vreg o.vs.toNat
     let put (r : VReg) : State := coreDone s1 n 1 fun k => k.setV o.vd.toNat r
     let lanes (w : Nat) (f : Nat → Nat → Nat) (r : VReg) : Prop :=
       ∀ i, i < 144 / w → vElem r w i = f (vElem a w i) (vElem b w i) % 2 ^ w
     let decimal (v : VReg) : Prop := ∀ i, i < 36 → vElem v 4 i ≤ 9
     let number (v : VReg) : Nat := digitsNat (vElems v 4)
     let flags (z cy : Bool) (k : Core) : Core := k.setFlags (some false) (some z) (some false) (some cy)
     k.vAwake = true →
     (∀ r, decimal a → decimal b → decimal r →
       (number r = (number a + number b) % 10 ^ 36 → Issues s n (insSV 0 o true) s1 → exec (.vdadd c o) s = .next
         (coreDone s1 n 1 fun k => flags (decide (number r = 0)) (decide (10 ^ 36 ≤ number a + number b)) (k.setV o.vd.toNat r))) ∧
       (number r = (10 ^ 36 + number a - number b) % 10 ^ 36 → Issues s n (insSV 1 o true) s1 → exec (.vdsub c o) s = .next
         (coreDone s1 n 1 fun k => flags (decide (number r = 0)) (decide (number b ≤ number a)) (k.setV o.vd.toNat r)))) ∧
     (∀ view, ∀ r : VReg,
       let w := match view with
         | .c => 9
         | .h => 18
         | .w => 36
       let min := match view with
         | .c => 2
         | .h => 3
         | .w => 4
       let same (i : Nat) : Bool := decide (vElem a w i = vElem b w i);
       (∀ i, i < 144 / w → vElem r w i = if same i then 2 ^ w - 1 else 0) → Issues s n (insSV min o true) s1 →
       exec (.vcmp c view o) s = .next (coreDone s1 n 1 fun k => (k.setV o.vd.toNat r).setFlags none
         (some ((List.range (144 / w)).all same)) (some false) (some ((List.range (144 / w)).any same)))) ∧
     (Issues s n (insSV 5 o true) s1 →
       exec (.vmrg c o) s = .next (put ((a &&& ~~~(k.vreg 0)) ||| (b &&& k.vreg 0)))) ∧
     (Issues s n (insSV 6 o false) s1 → exec (.vclr c o) s = .next (put 0)) ∧
     (Issues s n (insSV 7 o true) s1 → exec (.vmov c o) s = .next (put b)) ∧
     (∀ r, lanes 18 (· + ·) r → Issues s n (insSV 8 o true) s1 → exec (.vadd c false o) s = .next (put r)) ∧
     (∀ r, lanes 36 (· + ·) r → Issues s n (insSV 9 o true) s1 → exec (.vadd c true o) s = .next (put r)) ∧
     (∀ r, lanes 18 (fun x y => x + 2 ^ 18 - y) r → Issues s n (insSV 10 o true) s1 →
       exec (.vsub c false o) s = .next (put r)) ∧
     (∀ r, lanes 36 (fun x y => x + 2 ^ 36 - y) r → Issues s n (insSV 11 o true) s1 →
       exec (.vsub c true o) s = .next (put r)) ∧
     (Issues s n (insSV 12 o true) s1 → exec (.vand c o) s = .next (put (a &&& b))) ∧
     (Issues s n (insSV 13 o true) s1 → exec (.vor c o) s = .next (put (a ||| b))) ∧
     (Issues s n (insSV 14 o true) s1 → exec (.vxor c o) s = .next (put (a ^^^ b))) ∧
     (Issues s n (insSV 15 o true) s1 → exec (.vnot c o) s = .next (put (~~~b)))) ∧
  ∀ (c : CoreId) (s : State),
    let n := c.val
    let k := s.core n
    (∀ s1 (o : SV), Issues s n (insSV 7 o true) s1 → (s1.core n).vAwake = false →
      exec (.vmov c o) s = .next (waitsFor (s1.modCore n fun k => { k with vWaking := true }) n .vectorWake)) ∧
    (bit (s.creg n 0o031) 17 = false → bit k.psw 13 = false →
      exec (.vectorUnitGate c) s = .next (s.modCore n fun k => { k with vAwake := false })) ∧
    ((bit (s.creg n 0o031) 17 = true ∨ bit k.psw 13 = true) → exec (.vectorUnitGate c) s = .next s) ∧
    (k.vWaking = true →
      exec (.vectorUnitWake c) s = .next (s.modCore n fun k => { k with vAwake := true, vWaking := false })) ∧
    (k.vWaking = false → exec (.vectorUnitWake c) s = .next s) ∧
    (∀ (w : Writer) (m : Fin 64) (v : Word), s.admits w m.val 0o031 v = true →
      (bits v 18 35 < 256 → exec (.vgate w m v) s = .next (s.reject w m.val 0o031 2)) ∧
      (256 ≤ bits v 18 35 → exec (.vgate w m v) s = .next ((s.setPreg m.val 0o031 (setBits v 16 16 0)).modCore m.val
        fun k => if bit v 17 && !k.vAwake then { k with vWaking := true } else k)))

/-- 08 R187-R195: vector loads and stores of four words, gathers and scatters element by element, which PROG lets go on after an
interruption, and the two table instructions. -/
def Obligations.VectorMemoryResults : Prop :=
  ∀ (c : CoreId) (s s1 : State) (o : LV),
    let n := c.val
    let k := s1.core n
    let p := k.g o.rb.toNat + o.disp.signExtend 36
    let vd := o.vd.toNat
    let opt : AOpt := { devOk := false, cross := false, inline := false }
    let run (min m : Nat) : Ins := insLVRun (s.core n) min m o
    let start (m i : Nat) : Prop := vectorNext (k.sprSeen 6 k.prog) m = some i
    let index (u : State) (i : Nat) : Int := ((u.core n).g (o.ri.toNat + i)).toInt
    let char (i : Nat) (u v : State) : Prop := ∃ w x,
      let q := gatherChar p (index u i)
      let u' := u.modCore n fun k => { k with prog := vectorProg i }
      Yields (readWord n (ptrWord q) 5 i) u' w x ∧ v = x.modCore n fun k =>
        k.setV vd (vOfElems 9 ((vElems (k.vreg vd) 9).set i (bits w.w (9 * ptrNib q) (9 * ptrNib q + 8))))
    let half (i : Nat) (u v : State) : Prop := ∃ w x,
      let q := gatherHalf p (index u i)
      let u' := u.modCore n fun k => { k with prog := vectorProg i }
      Yields (readWord n q.1 5 i) u' w x ∧ v = x.modCore n fun k =>
        k.setV vd (vOfElems 18 ((vElems (k.vreg vd) 18).set i (halfOf w.w q.2)))
    let scatter (i : Nat) (u v : State) : Prop :=
      let q := gatherChar p (index u i)
      let u' := u.modCore n fun k => { k with prog := vectorProg i }
      Yields (writeWord n (ptrWord q) 5 i (charMask (ptrNib q)) (setChar 0 (ptrNib q) (vElem ((u.core n).vreg vd) 9 i))) u' () v
    let plain (t : State) : State := coreDone t n 2 fun k => { k with prog := 0 }
    let first (m : Nat) (t : State) : State := coreDone t n 2 fun k =>
      ({ ({ k with prog := 0 }.expose (.spr 7) k.vfl Tok.clear 4) with vfl := wd m }).setFlags none (some true) none none
    let chain (r : Nat → State → State → Prop) (m i : Nat) (t : State) : Prop :=
      start m i ∧ Chain (fun j => r (i + j)) (m - i) s1 t
    k.vAwake = true →
    (∀ ps cs s2 s3, ptrNib p = 0 → Issues s n (insLV0 0 o) s1 →
      Yields ((List.range 4).mapM fun i => do
        let va := (ptrWord p + i) % 2 ^ 32
        return (← access n k.domTok .read 2 opt va 1 i, va)) s1 ps s2 →
      Yields (loadWords n ps k.domTok.dom 1 false) s2 cs s3 →
      exec (.vld c o) s = .next (coreDone s3 n 2 fun k => k.setV vd (vOfWords (cs.map Cell.w)))) ∧
    (∀ w x y z s2, ptrNib p = 0 → Issues s n (insLV0 1 o) s1 →
      Yields ((List.range 4).mapM fun i => access n k.domTok .write 3 opt ((ptrWord p + i) % 2 ^ 32) 1 i) s1 [w, x, y, z]
        s2 → (s2.core n).sb.length ≤ 4 → ∀ s3 s4 s5 s6,
      let word (i : Nat) : Word := wd ((k.vreg vd).toNat / 2 ^ (36 * (3 - i)))
      Yields (pushStore n w 0b1111 (word 0) false) s2 () s3 → Yields (pushStore n x 0b1111 (word 1) false) s3 () s4 →
      Yields (pushStore n y 0b1111 (word 2) false) s4 () s5 → Yields (pushStore n z 0b1111 (word 3) false) s5 () s6 →
      exec (.vst c o) s = .next (finish s6 n 2 .seq)) ∧
    (∀ i t, ptrNib p ≤ 3 → chain char 16 i t →
      (Issues s n (run 2 16) s1 → exec (.vgc c o none) s = .next (plain t)) ∧
      (Issues s n (run 3 16) s1 → exec (.vgcf c o none) s = .next (first 16 t))) ∧
    (∀ i t, ptrNib p = 0 → chain half 8 i t →
      (Issues s n (run 4 8) s1 → exec (.vgw c o none) s = .next (plain t)) ∧
      (Issues s n (run 5 8) s1 → exec (.vgwf c o none) s = .next (first 8 t))) ∧
    (∀ i t, ptrNib p ≤ 3 → chain scatter 16 i t → Issues s n (run 6 16) s1 →
      exec (.vsc c o none) s = .next (plain t)) ∧
    (∀ t s2, ptrNib p = 0 → Yields (readTable n p) s1 t s2 →
      (Issues s n { insLV 7 o with
          zero := [(18, decide (o.ri = 0))], regs := [(9, o.rb.toNat), (18, o.ri.toNat)], ctl := true } s1 →
        let sel := (k.g o.ri.toNat).toNat
        sel < 2 ^ 9 → exec (.vcls c o) s = .next (coreDone s2 n 2 fun k =>
          let hit (i : Nat) : Bool := decide (tableEntry t (vElem (k.vreg vd) 9 i) &&& sel ≠ 0)
          let mask := (List.range 16).foldl (fun r i => r * 2 + (hit i).toNat) 0
          (k.setG o.ri.toNat (wd mask)).setFlags none (some (decide (mask = 0))) none none)) ∧
      (Issues s n { insLV0 8 o with ctl := true } s1 → exec (.vtr c o) s = .next (coreDone s2 n 2 fun k =>
        k.setV vd (vOfElems 9 ((vElems (k.vreg vd) 9).map (tableEntry t))))))

/-- 14 R353-R356: an AX to slots 0 to 3 gives its request to the Kiln and waits; given again, it collects the status into G[RC]
and Z. It holds for each of the operations of Table 14-5. -/
def Obligations.KilnInstructionResults : Prop :=
  ∀ (c : CoreId) (s s1 : State) (o : LA),
    let n := c.val
    let k := s1.core n
    let row (slot opc : Nat) (ins : Instr) : Prop := ∀ op, kopOf slot opc = some op →
      Issues s n (kilnIns slot opc op.keyed o) s1 →
      (∀ r code, k.kreq = some r → r.pc = k.pc → r.bank = k.bank → r.slot = slot → r.opc = opc → r.status = some code →
        exec ins s = .next (coreDone s1 n 2 fun k => (({ k with kreq := none }).setG o.rc.toNat (fld 27 35 code)).setFlags
          (some false) (some (decide (code = 0))) (some false) none)) ∧
      (∀ r, k.kreq = some r → r.status = none → exec ins s = .next (waitsFor s1 n .kiln)) ∧
      (k.kreq = none →
        let t := k.tok o.ra.toNat
        let p := k.g o.rb.toNat
        (op.keyed = true → t.tag = true ∧ t.illFormed = false ∧ t.sealed = false ∧ t.type = 5 ∧
          (if op.configures then t.configure else t.use) = true) → ptrNib p = 0 →
        ∀ (din len dout daux : Word) (s2 s3 s4 s5 s6 : State) (i a x u : Nat) (x1 x2 x3 x4 : Bool),
        Yields ((List.range 4).mapM fun i => do return (← readWord n ((ptrWord p + i) % 2 ^ 32) 1 i).w) s1
          [din, len, dout, daux] s2 →
        let ks := if op.keyed then bits t.a 24 35 else 0
        let slotNow := s2.slotOf ks
        let ls := op.spans (bits len 0 10) (bits len 11 35) slotNow.ktype
        (ls.1 ≠ 0 → ptrNib din ≤ 3) → (ls.2.2.1 ≠ 0 → ptrNib dout ≤ 3) → (ls.2.1 + ls.2.2.2 ≠ 0 → ptrNib daux ≤ 3) →
        Yields (spanCheck n .read 2 din ls.1) s2 (i, x1) s3 →
        Yields (spanCheck n .read 2 daux ls.2.1) s3 (a, x2) s4 →
        Yields (spanCheck n .write 3 daux (if ls.2.2.2 = 0 then 0 else 12 + ls.2.2.2)) s4 (x, x3) s5 →
        Yields (spanCheck n .write 3 dout ls.2.2.1) s5 (u, x4) s6 →
        let load : Bool := decide (op = .load) || decide (op = .gen)
        let fail : Option Nat :=
          if load && decide (slotNow.st ≠ 0) then some 0o010
          else if x1 || x2 || x3 || x4 then some 2
          else if load && decide (ks = 0) then some 0o017
          else none
        let s7 := if load && fail.isNone then s6.setSlot ks { st := 2, ktype := 0, octets := [] } else s6
        exec ins s = .next (waitsFor (s7.modCore n fun j =>
          { j with kreq := some { pc := k.pc, bank := k.bank, slot, opc, keySlot := ks, len := len.toNat, inp := [i, ls.1]
                                  out := [u, ls.2.2.1], aux := [a, ls.2.1], fail, lost := false, status := none } }) n .kiln))
    row 0 0o001 (.aese c o) ∧ row 0 0o002 (.aesd c o) ∧ row 0 0o003 (.gcms c o) ∧ row 0 0o004 (.gcmo c o) ∧
      row 0 0o010 (.sign c o) ∧ row 0 0o011 (.verp256 c o) ∧ row 0 0o012 (.verp384 c o) ∧ row 0 0o013 (.vered c o) ∧
      row 0 0o020 (.kload c o) ∧ row 0 0o021 (.kgen c o) ∧ row 0 0o022 (.kclr c o) ∧ row 0 0o023 (.kpub c o) ∧
      row 1 0o001 (.sha256 c o) ∧ row 1 0o002 (.sha384 c o) ∧ row 1 0o003 (.sha512 c o) ∧ row 1 0o004 (.sha3x256 c o) ∧
      row 1 0o005 (.sha3x384 c o) ∧ row 1 0o006 (.sha3x512 c o) ∧ row 1 0o010 (.hmacSha256 c o) ∧
      row 1 0o011 (.hmacSha384 c o) ∧ row 1 0o012 (.hmacSha512 c o) ∧ row 2 0o001 (.crc32 c o) ∧
      row 2 0o002 (.crc32c c o) ∧ row 3 0o001 (.rand c o) ∧ row 3 0o002 (.reseed c o)

/-- 14 R354-R358, Table 14-5: what the Kiln makes of a request whose inputs it has read: its outputs are written and its status
is 0, or the first status of R355 that applies stands. The standards' algorithms are the model's (log entry 8), and a key or
number it draws is free (log entry 3). -/
def Obligations.KilnRequestResults : Prop :=
  ∀ (c : CoreId) (s : State),
    let n := c.val
    ((s.core n).kreq = none → exec (.kilnRequestCompletion c) s = .next s) ∧
    (∀ r op, (s.core n).kreq = some r → r.status = none → kopOf r.slot r.opc = some op →
      let slot := s.slotOf r.keySlot
      let ends (t : State) (code : Nat) : State := t.modCore n fun k => { k with kreq := some { r with status := some code } }
      let load : Bool := decide (op = .load) || decide (op = .gen)
      let m := r.len % 2 ^ 25
      let x := r.len / 2 ^ 25
      (load = false → op.keyed = true → (slot.st ≠ 1 ∨ r.lost = true) → exec (.kilnRequestCompletion c) s = .next (ends s 0o017)) ∧
      (load = false → (op.keyed = true → slot.st = 1 ∧ r.lost = false) → op.accepts slot.ktype = false →
        exec (.kilnRequestCompletion c) s = .next (ends s 0o010)) ∧
      (load = false → (op.keyed = true → slot.st = 1 ∧ r.lost = false) → op.accepts slot.ktype = true → r.fail = none →
        (op.badLen x m = true → exec (.kilnRequestCompletion c) s = .next (ends s 2)) ∧
        (∀ i a s2 s3, op.badLen x m = false → s.spanChars (r.inp.getD 0 0) (r.inp.getD 1 0) = (some i, s2) →
          s2.spanChars (r.aux.getD 0 0) (r.aux.getD 1 0) = (some a, s3) →
          let key := slot.octets.map BitVec.toNat
          let wrote (out aux : List Nat) : State :=
            ends ((s3.putOctets (r.out.getD 0 0) out).putOctets (r.aux.getD 0 0 + 12) aux) 0
          let go := exec (.kilnRequestCompletion c) s
          ((∃ z ∈ i ++ a, 256 ≤ z) → go = .next (ends s3 3)) ∧
          ((∀ z ∈ i ++ a, z < 256) →
            (∀ d, op = .aes d → go = .next (wrote (if d then aesDec key i else aesEnc key i) [])) ∧
            (op = .gcm false →
              let text := xorOctets (gcmStream key (a.take 12) (i.drop x)) (i.drop x)
              go = .next (wrote text (gcmTag key (a.take 12) (i.take x) text))) ∧
            (op = .gcm true →
              let good : Prop := gcmTag key (a.take 12) (i.take x) (i.drop x) = a.drop 12
              (good → go = .next (wrote (xorOctets (gcmStream key (a.take 12) (i.drop x)) (i.drop x)) [])) ∧
              (¬good → go = .next (ends s3 0o015))) ∧
            (∀ kind, op = .verify kind → go = .next (if signatureOk kind a i then wrote [] [] else ends s3 0o015)) ∧
            (∀ h, op = .hash h → go = .next (wrote (hashOf h i) [])) ∧
            (∀ h, op = .mac h → go = .next (wrote (hmac (hashOf h) (if h = 0 then 64 else 128) key i) [])) ∧
            (∀ h, op = .crc h →
              go = .next (wrote (beOctets 4 (crcRefl (if h = 0 then 0xEDB88320 else 0x82F63B78) i)) [])) ∧
            (op = .random → s3.kiln.drbgOk = false → go = .next (ends s3 0o015))))))

/-- 14 R347, R348, R351, Table 14-3, Table 14-4a; 17 R422: KCMD starts a command on KARG0 and KARG1 where none runs and the
table does not reject it; else it is refused with the code of the first check that fails. A command's completion does its work
and leaves STAT 2 in KCSTAT, where the Kiln's own checks of what it reads pass. A group's refresh gives it a new SALT. -/
def Obligations.KilnCommandResults : Prop :=
  ∀ (w : Writer) (s : State),
    let a0 := s.preg 91 0o025
    let a1 := s.preg 91 0o026
    let named (b0 b1 : Word) (g : Nat) : Prop := b0.toNat ≤ g ∧ g < b0.toNat + b1.toNat
    let frameOk (f : Nat) : Prop := s.inWindow f = true ∧ (s.rootOf (s.groupOf f)).fmt = true ∧ s.placed f = none ∧
      s.lockOf f = none ∧ s.slotEmpty (s.sealFor f) = false
    let allowed (op : Nat) (b0 b1 : Word) : Prop :=
      (op = 1 → b0.toNat + b1.toNat ≤ s.swFrames / 512 ∧ ∀ g, named b0 b1 g → (s.rootOf g).fmt = false) ∧
      (op = 2 → frameOk (bits b0 7 35)) ∧ (op = 3 → frameOk (bits b0 7 35) ∧ s.slotEmpty (bits b1 24 35) = false) ∧
      (op = 4 → b0.toNat + b1.toNat ≤ s.swFrames / 512 ∧
        ∀ e ∈ s.mal.home, s.inWindow e.1 = true → ¬named b0 b1 (s.groupOf e.1)) ∧
      (op = 5 → s.kiln.kek = none ∧ s.kiln.zLow = false)
    let row (op : Nat) (ins : Instr) : Prop := s.admits w 91 0o024 (wd op) = true → (op = 5 ∨ s.windowSkewed = false) →
      (s.kiln.cmd ≠ none → exec ins s = .next (s.reject w 91 0o024 5)) ∧
      (s.kiln.cmd = none → allowed op a0 a1 → exec ins s = .next
        (({ s with kiln := { s.kiln with cmd := some (op, a0, a1) } } : State).setPreg 91 0o027 (fld 0 2 1 ||| fld 3 5 op))) ∧
      (s.kiln.cmd = none → ¬allowed op a0 a1 → s.kcmdCode op a0 a1 ≠ 0 ∧
        exec ins s = .next (s.reject w 91 0o024 (s.kcmdCode op a0 a1)))
    let completes (op : Nat) (after : State → Prop) : Prop := ∃ t, exec .kilnCommandCompletion s = .next t ∧
      t.kiln.cmd = none ∧ t.preg 91 0o027 = fld 0 2 2 ||| fld 3 5 op ∧ after t
    row 1 (.format w) ∧ row 2 (.init w) ∧ row 3 (.reseal w) ∧ row 4 (.release w) ∧ row 5 (.kekload w) ∧
    (s.kiln.cmd = none → exec .kilnCommandCompletion s = .next s) ∧
    (∀ op b0 b1, s.kiln.cmd = some (op, b0, b1) → allowed op b0 b1 →
      let f := bits b0 7 35
      (op = 1 → completes 1 fun t => ∀ g, named b0 b1 g → (t.rootOf g).fmt = true) ∧
      (∀ u, op = 2 → s.fetchG (s.groupOf f) = some u → completes 2 fun _ => True) ∧
      (∀ u, op = 3 → s.openFrame f = .ok u → completes 3 fun _ => True) ∧
      (op = 4 → completes 4 fun t => t.dram = s.dram ∧ ∀ g, named b0 b1 g → (t.rootOf g).fmt = false) ∧
      (∀ cs u, op = 5 → s.populated 64 (b0.toNat * 16) = true → s.spanChars (b0.toNat * 64) 32 = (some cs, u) →
        (∀ x ∈ cs, x < 256) → completes 5 fun t => t.kiln.kek = some (cs.map (BitVec.ofNat 8)))) ∧
    (∀ op b0 b1 code t, s.kiln.cmd = some (op, b0, b1) → s.runKcmd op b0 b1 = (code, t) → code ≠ 0 →
      exec .kilnCommandCompletion s = .next (({ t with kiln := { t.kiln with cmd := none } } : State).setPreg 91 0o027
        (fld 0 2 3 ||| fld 3 5 op ||| fld 27 35 code))) ∧
    (∀ g : BitVec 13, s.kiln.refresh ≠ some g.toNat → exec (.groupRefresh g) s = .next s) ∧
    (∀ (g : BitVec 13) (u : State), s.kiln.refresh = some g.toNat → s.opened = [] → s.fetchG g.toNat = some u →
      ∃ t i, exec (.groupRefresh g) s = .next t ∧ t.kiln.refresh = none ∧
        (t.rootOf g.toNat).fmt = (s.rootOf g.toNat).fmt ∧ (t.rootOf g.toNat).salt = Config.free i % 2 ^ 36) ∧
    (∀ g : BitVec 13, s.kiln.refresh = some g.toNat →
      let done := { s.groupRefresh g.toNat with kiln := { (s.groupRefresh g.toNat).kiln with refresh := none } }
      exec (.groupRefresh g) s = .next ((done.opened.map (·.1)).foldl State.leave done))


/-- 14 R341, R358-R363; 17 R421: an enabled tamper input zeroizes: every key slot, the KEK and the counter tree's roots are
gone; ZEROIZE_N always does; inputs not enabled, or not watched without main power, do nothing; without main power a battery out of range loses the KEK. The commit of group WINDOW
and its codes; an enable of TAMP_CTL that is set cannot be cleared. -/
def Obligations.TamperResponseResults : Prop :=
  (∀ s : State,
     let on (b : Nat) : Bool := bit (s.preg 91 0o036) b
     let wiped (out : Host.Outcome State Fault Refusal) : Prop := ∃ t, out = .next t ∧ t.kiln.slots = [] ∧ t.kiln.kek = none ∧
       t.kiln.root = [] ∧ t.kiln.fnodes = [] ∧ t.kiln.gnodes = [] ∧ t.kiln.cmd = none ∧ t.kiln.refresh = none ∧
       bits (t.preg 91 0o036) 28 34 = 0
     let fires (b : Nat) (watched : Bool) (ins : Instr) : Prop :=
       (on b = true → watched = true → wiped (exec ins s) ∧ exec ins s = .next (s.zeroize b)) ∧
       ((on b = false ∨ watched = false) → exec ins s = .next s);
     (∀ p : Fin 4, fires (28 + p.val) true (.tamperMesh p)) ∧
     (∀ v, (v = false ∨ s.pins.pwrGood = true) → fires 32 (v || s.pins.pwrGood) (.voltageDetector v)) ∧
     (s.pins.pwrGood = false → exec (.voltageDetector true) s = .next (
       let t := if on 32 then s.zeroize 32 else s
       { t with kiln := { t.kiln with kek := none, battLost := t.kiln.battLost || t.kiln.kek.isSome } })) ∧
     (∀ v, fires 33 (!v || s.pins.pwrGood) (.clockDetector v)) ∧ fires 34 true .temperatureDetector ∧
     wiped (exec .zeroizeN s) ∧
     exec .zeroizeNRelease s = .next { s with kiln := { s.kiln with zLow := false } } ∧
     exec .healthTestFailure s = .next (({ s with kiln := { s.kiln with drbgOk := false } } : State).kev 31) ∧
     exec .meshPatternChange s = .next { s with free := s.free + 1, kiln := { s.kiln with mesh := s.free } } ∧
     (bit (s.preg 91 0o036) 35 = true → s.pins.pwrGood = true → s.kiln.tstop = false →
       ∃ t, exec .zeroizeN s = .next t ∧ t.sys = 8 ∧ t.kiln.tstop = true ∧ t.clear = [] ∧ t.opened = [] ∧
         t.twin.hold = false)) ∧
  ∀ (w : Writer) (s : State),
    let b := s.shadowReg 91 0o021
    let m := s.shadowReg 91 0o022
    let r := s.shadowReg 91 0o023
    let last := r.toNat + m.toNat / 8 + m.toNat / 512
    let bad : Nat :=
      if s.anyFormatted = true then 5
      else if m.toNat < 512 ∨ 4194304 < m.toNat ∨ (r.toNat < b.toNat + m.toNat ∧ b.toNat < last) ∨
        s.installed < (b.toNat + m.toNat) * 2048 ∨ s.installed < last * 2048 then 2
      else if b.toNat % 512 ≠ 0 ∨ m.toNat % 512 ≠ 0 then 4
      else 0
    (s.admits w 91 5 1 = true → s.direct 91 = false → s.staged = [] →
      exec (.window w) s = .next (if bad = 0 then ((s.setPreg 91 0o021 b).setPreg 91 0o022 m).setPreg 91 0o023 r
        else s.reject w 91 5 bad)) ∧
    (∀ v, s.admits w 91 0o036 v = true →
      ((∃ i, 28 ≤ i ∧ i ≤ 34 ∧ bit (s.preg 91 0o036) i = true ∧ bit v i = false) →
        exec (.tampCtl w v) s = .next (s.reject w 91 0o036 7)) ∧
      ((∀ i, 28 ≤ i → i ≤ 34 → bit (s.preg 91 0o036) i = true → bit v i = true) →
        exec (.tampCtl w v) s = .next (s.setPreg 91 0o036 v)))

/-- 19 R470; 12 R295: an AX to slots 4 to 7 sends its request to the Adjunct and waits; a response or an interrupt that the port
accepts, and the time-out, do what the manual says, and a late response is discarded. -/
def Obligations.AdjunctResults : Prop :=
  ∀ (c : CoreId) (s : State),
    let n := c.val
    (∀ (s1 : State) (slot : Fin 4) (opc : BitVec 8) (o : LA),
      Issues s n { insLA (4 + slot.val) opc.toNat o with
        fields := [(26, decide (o.rc.toNat % 2 ≠ 0))]
        regs := [(8, o.ra.toNat), (13, o.rb.toNat), (26, o.rc.toNat)], more := [o.rc.toNat + 1] } s1 →
      let k := s1.core n
      (k.areq = none → (s1.adjunctHas slot.val = false ∨ n = 64) →
        exec (.ax c slot opc o) s = .next (trapped s1 n (plainExc 21 0 (4 + slot.val)))) ∧
      (k.areq = none → s1.adjunctHas slot.val = true → n < 64 → k.sb = [] →
        let f := mkFlit 0o030 (fld 0 1 slot.val ||| fld 2 9 opc.toNat ||| fld 10 15 n ||| fld 16 20 o.mod.toNat)
          (k.g o.ra.toNat) (k.g o.rb.toNat) 0
        exec (.ax c slot opc o) s = .next (waitsFor ((s1.sendFlits 8 [f]).modCore n fun j =>
          { j with areq := some { pc := k.pc, bank := k.bank, rsp := none, late := false } }) n .adjunct)) ∧
      (∀ r code x y, k.areq = some r → r.pc = k.pc → r.bank = k.bank → r.late = false → r.rsp = some (code, x, y) →
        exec (.ax c slot opc o) s = .next (finish ((s1.modCore n fun k => { k with areq := none }).modCore n fun k =>
          (if code = 0 then (k.setG o.rc.toNat x).setG (o.rc.toNat + 1) y
            else (k.setG o.rc.toNat (fld 27 35 code)).setG (o.rc.toNat + 1) 0).setFlags (some false)
            (some (decide (code = 0))) (some false) none) n 2 .seq)) ∧
      (∀ r, k.areq = some r → r.late = false → r.rsp = none →
        exec (.ax c slot opc o) s = .next (waitsFor s1 n .adjunct))) ∧
    (∀ f : Flit,
      let m := bits f.w0 10 15
      let a := s.recvReplayed 8 f
      (a.1 = true →
        (∀ r, (a.2.core m).areq = some r → r.late = false → r.rsp = none →
          exec (.arsp f) s = .next (a.2.modCore m fun k =>
            { k with areq := some { r with rsp := some (bits f.w0 27 35, f.w1, f.w2) } })) ∧
        (∀ r, (a.2.core m).areq = some r → r.late = true → exec (.arsp f) s = .next (a.2.bump 99 0o023 1)) ∧
        ((a.2.core m).areq = none → exec (.arsp f) s = .next (a.2.bump 99 0o023 1)) ∧
        exec (.aint f) s = .next (a.2.pendInt m (40 + bits f.w0 33 35))) ∧
      (a.1 = false → exec (.arsp f) s = .next a.2 ∧ exec (.aint f) s = .next a.2)) ∧
    (∀ r, (s.core n).areq = some r → r.rsp = none → r.late = false → exec (.adjunctTimeout c) s = .next
      ((s.bump 99 0o022 1).modCore n fun k => { k with areq := some { r with late := true } })) ∧
    ((s.core n).areq = none → exec (.adjunctTimeout c) s = .next s)

/-- 09 R208, R212-R217; 10 R231, R239, R240, R246-R250: what taking an exception saves, where, and where control goes: a full
entry to bank H, a refill entry to bank F, a machine check's entry to bank E, and Halt-check from bank E. -/
def Obligations.ExceptionEntryResults : Prop :=
  ∀ (s : State) (n : Nat) (x : Exc) (e : VecEntry),
    let d := s.modCore n Core.drainFp
    let b := match x.badins with
      | some w => d.modCore n fun k => { k with badins := w }
      | none => d
    let k := b.core n
    let cause := mkCause x.vec x.sub x.detail
    let j := (trapped s n x).core n
    let quiet (w : Word) : Prop := bit w 17 = false ∧ bit w 24 = false ∧ bit w 25 = false
    (x.vec < 32 → x.vec ∉ [2, 7, 8, 18, 19] → x.tlb = none → k.bank ≤ 1 → k.inTrap = false → bit k.fsr 19 = false →
      (k.bank = 1 → k.hRing.res < 2) → k.depth < 255 → ptrNib k.hg7 = 0 → b.vecEntry n x.vec = some e →
      ∀ s2, Yields (stackWords n k.c0H (ptrWord (k.hg7 - 0o3300))
          [k.pc, b.frameNpc n, setBit k.psw 25 k.slot, k.savedProg, k.lc, fld 0 16 (loopOff k.ls) ||| fld 17 33 (loopOff k.le),
           fld 0 15 (bits k.ibRead 20 35) ||| fld 16 31 (k.dbn 0),
           fld 0 15 (k.dbn 1) ||| fld 16 31 (k.dbn 2) ||| fld 33 33 k.ibHeld.isSome.toNat,
           fld 0 15 (k.dbn 3) ||| fld 16 35 (bits cause 16 35), tget 0 k.regs 9, tget 0 k.regs 10, tget 0 k.regs 11])
          (b.flushStores n) () s2 →
        j.pc = e.pc ∧ j.npc = none ∧ j.slot = false ∧ j.cause = cause ∧ j.hg7 = k.hg7 - 0o3300 ∧ j.bank = 1 ∧
          quiet j.psw ∧ j.prog = 0 ∧ j.depth = (s2.core n).depth + 1 ∧ j.holding = decide (e.hold ≠ 0) ∧
          bits j.psw 9 14 = bits (s2.core n).psw 9 14 ∧
          bit j.psw 8 = (if e.cli then false else bit (s2.core n).psw 8)) ∧
    ((x.vec = 7 ∨ x.vec = 8) → k.bank ≤ 1 → k.inTrap = false → bit k.fsr 19 = false → ∀ i va asid miss,
      x.tlb = some (i, va, asid, miss) → (b.recordAccess n i va asid miss).vecEntry n x.vec = some e →
        j.pc = e.pc ∧ j.npc = none ∧ j.slot = false ∧ j.cause = cause ∧ j.bank = 2 ∧ quiet j.psw ∧
          tget 0 j.regs 20 = cause ∧ tget 0 j.regs 21 = k.pc ∧
          tget 0 j.regs 22 = (b.recordAccess n i va asid miss).frameNpc n ∧
          tget 0 j.regs 23 = setBit k.psw 25 k.slot ∧ j.tlbTag = fld 0 31 va ∧ j.holding = false) ∧
    (x.vec = 2 → (s.core n).bank ≠ 3 →
      let m := s.core n
      let base := bits m.esp 0 31 * 256
      bit m.esp 32 = true → s.placed (base / 2048) = some (if n = 64 then 0 else clusterOf n) →
      s.pinOf (base / 2048) = true → s.vecEntry n 2 = some e → m.after = none →
        j.pc = e.pc ∧ j.npc = none ∧ j.slot = false ∧ j.cause = cause ∧ j.bank = 3 ∧ quiet j.psw ∧
          tget 0 j.regs 28 = cause) ∧
    (n < 64 → x.vec ≠ 2 → x.vec < 64 → k.bank = 3 →
      (d.core n).bank = 3 ∧ j.run = .halted ∧ (trapped s n x).creg n 0o022 = fld 16 16 1 ||| fld 17 20 1 ||| fld 21 26 x.vec)

/-- 03 R45, R74, R76; 09 R213, R219-R221; 10 R233-R235, R252-R254; 18 R453: what the boundary before an instruction takes: a
machine check first, else an interrupt whose LEVEL is above PRI; the end of a hold; a breakpoint; the trap of an undefined
instruction, once its parcels are fetched and before any other check of it. A command that takes an entry says how long the
instruction at PC is (log entry 10). -/
def Obligations.BoundaryEventResults : Prop :=
  (∀ (x : CoreAt) (s : State),
    let n := x.core.val
    let k := s.core n
    let u := s.noteLen n (if x.long then 2 else 1)
    (k.run = .running → s.canIssue n = true →
      (∀ m, k.mcNow = some m → exec (.fullEntry x) s = .next (((((u.abandonPosting n).modCore n fun k =>
        { k with mchk := k.mchk.erase m }).enterMc n m.cls m.detail)).endStep n)) ∧
      (k.mcNow = none → k.bank < 2 → k.inTrap = false → k.after = none → k.trace = false → ∀ v, u.deferred n = false →
        u.eligibleInt n k.seenPsw = some v →
        let d := (u.abandonPosting n).modCore n Core.drainFp
        bit (d.core n).fsr 19 = false →
          exec (.fullEntry x) s = .next ((d.enter n (mkCause v 0 0) (some v)).endStep n)) ∧
      (k.mcNow = none → k.after = none → k.trace = false → u.deferred n = true →
        exec (.fullEntry x) s = .next s)) ∧
    (s.canIssue n = true → s.brkHit n = true →
      (bit (s.preg n 0o042) 34 = true → exec (.breakpoint x) s = .next (trapped u n (plainExc 23 1 0))) ∧
      (bit (s.preg n 0o042) 34 = false → ∃ t, exec (.breakpoint x) s = .next t ∧ (t.core n).dbgHalt = true ∧
        (t.core n).pc = k.pc ∧ (t.core n).regs = k.regs)) ∧
    (s.brkHit n = false → exec (.breakpoint x) s = .next s)) ∧
  ∀ (c : CoreId) (s : State),
    let n := c.val
    let k := s.core n
    (∀ t, exec (.holdEnd c) s = .next t → (t.core n).holding = false ∧ t.dram = s.dram ∧
      ∀ m, m ≠ n → t.core m = s.core m) ∧ Completes (.holdEnd c) s ∧
    (∀ (v w : State) (p0 p1 : Parcel), undefinedParcels p0.toNat p1.toNat = true →
      let i := undefinedIns p0.toNat p1.toNat
      s.reached n i = some v →
      Yields (do restClean n; fetchParcel n k.pc 0; if i.len = 2 then fetchParcel n (parcelAfter k.pc 1) 1) v () w →
      exec (.undefinedInstruction c p0 p1) s = .next (trapped w n { plainExc 3 0 0 with badins := some i.badins })) ∧
    (∀ (cls : Fin 7) (detail : BitVec 10), (cls.val = 1 ∨ cls.val = 3) → k.run ≠ .reset →
      ∃ t, exec (.machineCheck c cls detail) s = .next t ∧ (t.core n).mchk = k.mchk ++ [⟨cls.val, detail.toNat⟩]) ∧
    (∀ (cls : Fin 7) (detail : BitVec 10), 4 ≤ cls.val → n = 64 → k.run ≠ .reset → k.mchk.all (fun m => decide (m.cls < 4)) = true →
      ∃ t, exec (.machineCheck c cls detail) s = .next t ∧ (t.core n).mchk = k.mchk ++ [⟨cls.val, detail.toNat⟩]) ∧
    (∀ detail : BitVec 10, n < 64 → k.run ≠ .reset → ∃ t, exec (.machineCheck c 0 detail) s = .next t ∧
      (t.core n).csBad = true ∧ (t.core n).mchk = k.mchk ++ [⟨0, if detail.getMsbD 0 then 512 else 0⟩]) ∧
    (∀ detail, k.run ≠ .reset → k.run ≠ .halted → ∃ t, exec (.machineCheck c 2 detail) s = .next t ∧
      (t.core n).mchk = k.mchk ++ [⟨2, 0⟩])


/-- 13 R309-R317, R323, R326; 19 R461: tickets enter a queue at TAIL, are routed by their bucket, or go to the ERRQ with a
code; retiring, releasing and the twin's time-out. -/
def Obligations.TicketResults : Prop :=
  ∀ (s : State),
    let took (u : State) (q : Nat) (t : State) : Prop :=
      t = u.settleRet q { u.queue q with head := ((u.queue q).head + 1) % 2 ^ 17 }
    (∀ q t att, ((s.enterQueue q t att).queue q).tail = ((s.queue q).tail + 1) % 2 ^ 17 ∧
      ((s.enterQueue q t att).queue q).st = (s.queue q).st ∧ (s.enterQueue q t att).cel.ring = s.cel.ring) ∧
    (∀ q err t, let e := (s.queue q).errq
      let takes : Prop := s.halfOn e = true ∧ (s.queue e).kind = 0 ∧ ((s.queue e).st = 1 ∨ (s.queue e).st = 2) ∧ (s.queue e).full = false
      (takes → s.divert q err t =
        (s.pendInt 64 33).enterQueue e (t.set 1 (setBits (t.getD 1 0) 18 21 err)) none) ∧
      (¬takes → (s.divert q err t).preg 89 0o034 = s.preg 89 0o034 + 1)) ∧
    (∀ (fn : BitVec 7) (q : BitVec 14) (w3 : Word), s.endpointUp = true →
      let c := s.queue q.toNat
      let tf := s.dbWord q.toNat 1
      let t := [s.dbWord q.toNat 0, setBits tf 28 32 s.own, s.dbWord q.toNat 2, w3]
      let err : Option Nat :=
        if bits tf 18 21 ≠ 0 ∨ bits tf 27 35 ≠ 0 then some 5
        else if s.accepts q.toNat = false then some 4
        else if bits tf 22 26 ≠ 0 ∧ bit c.att 34 = false then some 5
        else if c.full = true then some 1
        else none
      (fn.toNat ≤ 64 → c.fn = fn.toNat →
        (err = none → exec (.doorbell fn q w3) s = .next (s.enterQueue q.toNat t none)) ∧
        (∀ e, err = some e → exec (.doorbell fn q w3) s = .next (s.divert q.toNat e t))) ∧
      (c.fn ≠ fn.toNat → exec (.doorbell fn q w3) s = .next (s.bump 88 0o022 1))) ∧
    (∀ (fn : BitVec 7) (q : BitVec 14) (v : Word), s.endpointUp = true →
      let c := s.queue q.toNat
      let i := bits v 19 35
      let d := (i + 2 ^ 17 - c.ret) % 2 ^ 17
      (fn.toNat ≤ 64 → c.fn = fn.toNat → c.kind = 2 → 0 < d → d ≤ (c.head + 2 ^ 17 - c.ret) % 2 ^ 17 →
        ∃ t, exec (.retireWord fn q v) s = .next t ∧ t.queue q.toNat = { c with ret := i } ∧ t.dram = s.dram) ∧
      ((c.fn ≠ fn.toNat ∨ c.kind ≠ 2 ∨ d = 0 ∨ (c.head + 2 ^ 17 - c.ret) % 2 ^ 17 < d) →
        exec (.retireWord fn q v) s = .next (s.bump 88 0o022 1))) ∧
    (∀ (q : BitVec 14),
      let n := q.toNat
      let c := s.queue n
      ((c.kind ≠ 1 ∨ c.st ≠ 1 ∨ s.halfOn n = false ∨ c.head = c.deliver ∨ (c.dur = true ∧ s.standby = true)) → exec (.intakeRouting q) s = .next s) ∧
      (c.kind = 1 → c.st = 1 → s.halfOn n = true → c.head ≠ c.deliver → (c.dur = false ∨ s.standby = false) → ∀ t s1, s.readWords (c.slotPa c.head) 4 = (t, s1) →
        bits (t.getD 1 0) 22 26 = 0 →
        let e := s1.dirEntry ((Nat.xor (bits (t.getD 0 0) 0 17) (bits (t.getD 0 0) 18 35)) % 65536)
        let pq := s1.queue s1.parkq
        (bits e 19 20 = 2 → ∃ u, exec (.intakeRouting q) s = .next u ∧ took (s1.divert n 3 t) n u) ∧
        (bits e 19 20 = 1 → s1.parkReady = true → pq.full = false →
          ∃ u, exec (.intakeRouting q) s = .next u ∧ took (s1.enterQueue s1.parkq t (some [])) n u) ∧
        (bits e 19 20 = 1 → (pq.full = true ∨ s1.parkReady = false) → exec (.intakeRouting q) s = .next s) ∧
        (bits e 19 20 = 0 → bits e 0 4 = s1.own → s1.mismatched s1.own = false →
          ∃ u, exec (.intakeRouting q) s = .next u ∧ took (s1.deliverTicket (bits e 5 18) t []) n u) ∧
        (bits e 19 20 = 0 → s1.mismatched (bits e 0 4) = true →
          ∃ u, exec (.intakeRouting q) s = .next u ∧ took (s1.divert n 2 t) n u) ∧
        (bits e 19 20 = 0 → bits e 0 4 ≠ s1.own → s1.mismatched (bits e 0 4) = false → s1.linkFull (bits e 0 4) = true →
          exec (.intakeRouting q) s = .next s))) ∧
    (∀ (a : Arrival) (v : State) q t att, a.msg.body = .ticket q t att → s.hears a v → v.expects a.msg →
      let ws := [t.key, t.tflags, t.ptrA, t.ptrB]
      let c := v.queue q.toNat
      let u := v.nextOf a.msg
      bits t.tflags 18 21 = 0 → bit t.tflags 27 = false → bits t.tflags 33 35 = 0 →
      ((v.accepts q.toNat = true ∧ c.kind ≠ 1 ∧ (bits t.tflags 22 26 = 0 ∨ c.attEn = true) ∧ c.full = false) →
        exec (.shippedTicket a) s = .next ((u.enterQueue q.toNat ws (some att)).sendAck a.msg.src.toNat)) ∧
      (v.accepts q.toNat = false →
        exec (.shippedTicket a) s = .next ((u.divert q.toNat 4 ws).sendAck a.msg.src.toNat))) ∧
    (∀ q : BitVec 14,
      let c := s.queue q.toNat
      ((c.dur = false ∨ c.deliver = c.tail) → exec (.ticketRackTimeout q) s = .next s) ∧
      (c.dur = true → c.deliver ≠ c.tail → ∃ t, exec (.ticketRackTimeout q) s = .next t ∧ t.queue q.toNat =
        { c with deliver := (c.deliver + 1) % 2 ^ 17, unracked := c.unracked ++ [c.deliver] } ∧ t.dram = s.dram))

/-- 13 R311-R313, R316, R323, R335; 15 R387: the queue manager's registers: the transitions of Q_CTL, QREL, the commit of a
ring, and the bucket directory. -/
def Obligations.QueueRegisterResults : Prop :=
  ∀ (w : Writer) (v : Word) (s : State),
    let q := s.qsel
    let c := s.queue q
    (s.admits w 89 0o025 v = true →
      let nxt := bits v 0 2
      let kind := bits v 3 4
      let allowed : Bool := decide (nxt = c.st) || (decide (nxt = 0) && decide (c.st = 1 ∨ c.st = 2 ∨ c.st = 4)) ||
        (decide (nxt = 1) && (decide (c.st = 2) || (decide (c.st = 0) && (c.committed || s.direct 89)))) ||
        (decide (nxt = 2) && decide (c.st = 1))
      let code : Nat :=
        if kind = 3 then 3
        else if c.st = 3 then 0o010
        else if (kind ≠ c.kind ∨ bit v 5 ≠ c.dur) ∧ c.st ≠ 0 then 5
        else if q = s.parkq ∧ s.anyMoving = true ∧ (nxt ≠ 2 ∨ kind ≠ c.kind) then 5
        else if allowed = false then 0o010
        else 0
      let ctl := setBits (v &&& maskOf [(0, 9), (13, 31)]) 10 12 c.clu
      (code ≠ 0 → exec (.qCtl w v) s = .next (s.reject w 89 0o025 code)) ∧
      (code = 0 → (nxt ≠ 1 ∨ c.st ≠ 0) → bit v 6 = false →
        exec (.qCtl w v) s = .next (s.setQueue q { c with ctl, st := nxt })) ∧
      (code = 0 → nxt = 1 → c.st = 0 → ringCode c.ring c.shape c.att = 0 →
        exec (.qCtl w v) s = .next ((s.setQueue q { c with ctl, st := 1 }).setClu q (bits v 7 9))) ∧
      (code = 0 → nxt = 1 → c.st = 0 → ringCode c.ring c.shape c.att ≠ 0 → ∃ t, exec (.qCtl w v) s = .next t ∧
        (t.queue q).st = 4 ∧ bit (t.preg 89 3) 34 = true)) ∧
    (s.admits w 89 0o035 v = true →
      let n := bits v 30 35
      let may : Prop := (s.core n).run = .reset ∨ (s.core n).run = .halted
      (¬may → exec (.qrel w v) s = .next (s.reject w 89 0o035 0o010)) ∧
      (may → (s.core n).serv = none → exec (.qrel w v) s = .next s) ∧
      (may → ∀ p k, (s.core n).serv = some (k, p) → ∃ t, exec (.qrel w v) s = .next t ∧ (t.core n).serv = none ∧
        p ∈ (t.queue k).released ∧ ∀ x ∈ (t.queue k).inServ, x.1 ≠ n)) ∧
    (s.admits w 89 5 1 = true →
      let log := bits c.shShape 31 35
      let code : Nat :=
        if s.direct 89 = true then 0o010
        else if s.staged.contains (89, 1) = true then 5
        else if c.st ≠ 0 then 5
        else if log < 4 ∨ 16 < log ∨ bits c.shShape 15 30 ≠ 2 ^ log - 1 then 2
        else if bits c.shRing 0 33 * 64 % min (2 ^ (log + 2)) 2048 ≠ 0 then 4
        else if bit c.att 34 = true ∧ bits c.att 0 33 * 64 % min (2 ^ (log + 5)) 2048 ≠ 0 then 4
        else 0
      exec (.ring w) s = .next (s.answered w 89 5 code (s.setQueue q
        { c with
          ring := c.shRing, shape := c.shShape, committed := true, head := 0, tail := 0, ret := 0, inServ := []
          released := [], deliver := 0, unracked := [] }))) ∧
    (s.admits w 89 0o037 v = true →
      let b := bits (s.preg 89 0o036) 20 35
      let e := fld 0 4 (bits v 0 4) ||| fld 5 18 (bits v 5 18)
      let code : Nat :=
        if s.isManager = false then 0o010
        else if bits (s.dirEntry b) 19 20 = 1 ∨ s.spreading = true then 5
        else if s.mismatched (bits v 0 4) = true then 0o010
        else 0
      exec (.dirEnt w v) s = .next (s.answered w 89 0o037 code
        ((s.setDir b e).sendAll s.others (.dirUpdate (BitVec.ofNat 16 b) e)))) ∧
    (∀ (a : Arrival) (u : State) b e, a.msg.body = .dirUpdate b e → s.hears a u → u.expects a.msg →
      ∃ t, exec (.directoryUpdate a) s = .next t ∧
        t.dirEntry b.toNat = e ∧ (∀ x, x ≠ b.toNat → t.dirEntry x = u.dirEntry x) ∧ t.que.q = u.que.q) ∧
    (∀ (a : Arrival) (u : State) first ver x es, a.msg.body = .directory first ver x es → s.hears a u → u.expects a.msg →
      ∃ t, exec (.wholeDirectory a) s = .next t ∧
        t.que.dir = es.foldl (fun d e => tset (fld 19 20 2) d e.1 e.2) (if first then [] else u.que.dir) ∧
        t.tr.mgr = some a.msg.src.toNat ∧ t.tr.vmix = x ∧
        (t.tr.vers.find? fun e => e.1 == a.msg.src.toNat) = some (a.msg.src.toNat, ver))

/-- 13 R328-R334; 17 R421: the Maltster: an epoch's end counts it, halves the heats and plans no more moves than the budget;
moves run and end; PLACE, EVICT and the commits of its groups; a pending commit at its safe point. -/
def Obligations.PlacementResults : Prop :=
  ∀ (w : Writer) (s : State),
    (s.domOn .maltster = false → exec .epochEnd s = .next s) ∧
    (s.domOn .maltster = true → ∃ t, exec .epochEnd s = .next t ∧ t.preg 90 0o043 = s.preg 90 0o043 + 1 ∧
      t.mal.heat = halve s.mal.heat ∧ t.mal.qheat = halve s.mal.qheat ∧ t.mal.home = s.mal.home ∧
      (t.mal.plan.filter fun m => !m.commanded).length ≤ bits (t.preg 90 0o021) 28 35 ∧
      (t.mal.plan.filter Move.commanded) = s.mal.plan.filter Move.commanded) ∧
    (s.mal.plan = [] → exec .frameMove s = .next s) ∧
    (∀ m rest, s.mal.plan = m :: rest →
      let u : State := { s with mal := { s.mal with plan := rest } }
      let evicting : Prop := m.dst ≠ 8 ∧ ∃ r ∈ s.mal.running, r.frame = m.victim ∧ r.src = m.dst ∧ r.dst = 8
      ((4 ≤ s.mal.running.length ∨ evicting ∨ s.roomFor m.dst = false) → exec .frameMove s = .next s) ∧
      (s.mal.running.length < 4 → ¬evicting → s.roomFor m.dst = true →
        (m.commanded = true ∨ s.movable m.frame = true → exec .frameMove s =
          .next { u with mal := { u.mal with running := s.mal.running ++ [m] } }) ∧
        (m.commanded = false → s.movable m.frame = false → exec .frameMove s = .next (u.moveEvent 6 m)))) ∧
    (∀ (f : BitVec 29) (good : Bool), (∀ m ∈ s.mal.running, m.frame ≠ f.toNat) → exec (.homeChange f good) s = .next s) ∧
    (∀ (f : BitVec 29) m, s.mal.running.find? (fun m => m.frame == f.toNat) = some m →
      (∃ t, exec (.homeChange f false) s = .next t ∧ t.mal.home = s.mal.home ∧ t.mal.running = s.mal.running.erase m) ∧
      (m.dst = 8 → ∃ t, exec (.homeChange f true) s = .next t ∧ t.placed f.toNat = none ∧
        t.mal.running = s.mal.running.erase m) ∧
      (m.dst < 8 → s.sealFor f.toNat = 0 → (s.freeSlot m.dst).isSome = true → ∃ t, exec (.homeChange f true) s = .next t ∧
        t.placed f.toNat = some m.dst ∧ t.mal.running = s.mal.running.erase m ∧
        tget 0 t.mal.fmoved f.toNat = (s.preg 90 0o043).toNat + 1)) ∧
    (s.admits w 90 0o050 1 = true →
      let f := bits (s.preg 90 0o051) 7 35
      let c := bits (s.preg 90 0o052) 33 35
      let code : Nat :=
        if s.malBusy = true ∨ s.prepHeld f = true then 5
        else if s.installed ≤ f * 2048 then 2
        else if (s.sealFor f ≠ 0 ∧ s.slotEmpty (s.sealFor f) = true) ∨ s.present c = false then 0o017
        else 0
      (code ≠ 0 → exec (.place w) s = .next (s.reject w 90 0o050 code)) ∧
      (code = 0 → s.placed f = some c → exec (.place w) s = .next ((s.malEvent s.epoch 8 c c f 0 0 0).malStat 2 1 0 0)) ∧
      (code = 0 → s.placed f ≠ some c → s.roomFor c = true → ∃ t, exec (.place w) s = .next t ∧
        t.mal.cmdOp = some 1 ∧ ∃ m, t.mal.plan = m :: s.mal.plan ∧ m.frame = f ∧ m.dst = c ∧ m.src = (s.placed f).getD 8)) ∧
    (s.admits w 90 0o050 2 = true →
      let f := bits (s.preg 90 0o051) 7 35
      (s.placed f = none → exec (.evict w) s = .next (s.reject w 90 0o050 0o010)) ∧
      (∀ c, s.placed f = some c → (s.malBusy = true ∨ s.prepHeld f = true) →
        exec (.evict w) s = .next (s.reject w 90 0o050 5)) ∧
      (∀ c, s.placed f = some c → s.malBusy = false → s.prepHeld f = false → ∃ t, exec (.evict w) s = .next t ∧
        t.mal.cmdOp = some 2 ∧ ∃ m, t.mal.plan = m :: s.mal.plan ∧ m.frame = f ∧ m.src = c ∧ m.dst = 8)) ∧
    (s.admits w 90 5 1 = true →
      let a := s.shadowReg 90 0o021
      let b := s.shadowReg 90 0o022
      let code : Nat :=
        if s.direct 90 = true then 0o010
        else if s.staged.contains (90, 1) = true then 5
        else if bits a 12 19 = 0 ∨ bits b 28 35 < 4 ∨ bits b 20 27 < 8 then 2
        else 0
      exec (.thr w) s = .next (s.answered w 90 5 code (s.stage 90 1))) ∧
    (s.admits w 90 5 2 = true → s.staged = [] → s.stagedV = [] →
      let sz := s.shadowReg 90 0o045
      let code : Nat :=
        if s.direct 90 = true then 0o010
        else if bit (s.preg 90 0o020) 32 = true then 5
        else if bits sz 31 35 < 4 ∨ 16 < bits sz 31 35 then 2
        else 0
      (code ≠ 0 → exec (.evq w) s = .next (s.reject w 90 5 code)) ∧
      (code = 0 → ∃ t, exec (.evq w) s = .next t ∧ t.preg 90 0o044 = s.shadowReg 90 0o044 ∧ t.preg 90 0o045 = sz ∧
        t.staged = [])) ∧
    (∀ (p : Fin 100) (g : BitVec 6), p.val ≠ 94 → s.staged.contains (p.val, g.toNat) = false →
      exec (.commitApply p g) s = .next s) ∧
    (∀ (p : Fin 100) (g : BitVec 6), p.val ≠ 94 → s.staged.contains (p.val, g.toNat) = true →
      ∃ t, exec (.commitApply p g) s = .next t ∧ t.staged.contains (p.val, g.toNat) = false)

/-- 13 R335-R338, Table 13-11: a bucket move: its checks, its stages at the manager that is also the source device, how it
fails, BABORT and BFORCE. -/
def Obligations.BucketMoveResults : Prop :=
  ∀ (w : Writer) (s : State),
    let stat (t : State) (st op stage code : Nat) : Prop :=
      t.preg 90 0o054 = fld 0 2 st ||| fld 3 5 op ||| fld 6 8 stage ||| fld 27 35 code
    (s.admits w 90 0o050 3 = true →
      let src := bits (s.preg 90 0o051) 0 4
      let srcQ := bits (s.preg 90 0o051) 5 18
      let dst := bits (s.preg 90 0o052) 0 4
      let dstQ := bits (s.preg 90 0o052) 5 18
      let code : Nat :=
        if s.isManager = false ∨ (dst = s.own ∧ s.targetReady dstQ = false) then 0o010
        else if s.que.bmove.isSome ∨ s.mal.cmdOp.isSome then 5
        else if s.reachable src = false ∨ s.mismatched src = true ∨ s.reachable dst = false ∨ s.mismatched dst = true then 0o017
        else 0
      (code ≠ 0 → exec (.bmove w) s = .next (s.reject w 90 0o050 code)) ∧
      (code = 0 → s.others = [] → s.parkReady = true → ∃ t, exec (.bmove w) s = .next t ∧
        t.que.bmove = some ⟨src, srcQ, dst, dstQ, s.own, s.members, 2, [], [s.own], false, false, 3⟩ ∧
        (t.queue srcQ).st = 3 ∧ stat t 1 3 2 0)) ∧
    (∀ (a : Arrival) (u : State) src q b, a.msg.body = .fence src q → s.hears a u → u.expects a.msg → u.que.bmove = some b →
      ∃ t, exec (.fence a) s = .next t ∧
        t.que.bmove = some { b with fences := src.toNat :: b.fences.filter (· != src.toNat) } ∧ t.que.q = u.que.q) ∧
    (s.que.bmove = none → exec .drain s = .next s ∧ (∀ g, exec (.copy g) s = .next s) ∧
      (∀ r, exec (.ship r) s = .next s) ∧ exec .flipOut s = .next s) ∧
    (∀ b, s.que.bmove = some b → b.mgr = s.own → b.srcDev = s.own → b.failed = false →
      (b.stage = 2 → b.sent = false →
        ((b.devs.all b.fences.contains = false ∨ (s.queue b.srcQ).inServ ≠ []) → exec .drain s = .next s) ∧
        (b.devs.all b.fences.contains = true → (s.queue b.srcQ).inServ = [] → ∃ t, exec .drain s = .next t ∧
          t.que.bmove = some { b with stage := 3, acks := [], sent := false } ∧ t.que.q = s.que.q)) ∧
      (b.stage = 3 → b.sent = false → ∀ good,
        let ends (code : Nat) : Prop := ∃ t, exec (.copy good) s = .next t ∧ t.que.bmove = none ∧ stat t 3 b.op 3 code
        (∀ code u, s.frameList b.srcQ = .error (code, u) → ends code) ∧
        (∀ fs u, s.frameList b.srcQ = .ok (fs, u) →
          ((∃ p ∈ fs, u.prepHeld p.1 = true) → ends 5) ∧
          ((∀ p ∈ fs, u.prepHeld p.1 = false) → good = false → ends 0o015) ∧
          (∀ code v, (∀ p ∈ fs, u.prepHeld p.1 = false) → good = true → u.copyFrames b.dstDev fs = .error (code, v) →
            ends code) ∧
          (∀ v, (∀ p ∈ fs, u.prepHeld p.1 = false) → good = true → b.dstDev = s.own →
            u.copyFrames b.dstDev fs = .ok v → exec (.copy good) s = .next (v.endStage b)))) ∧
      (b.stage = 4 → b.sent = false → b.dstDev = s.own → ∀ room,
        let c := s.queue b.srcQ
        let d := s.queue b.dstQ
        let fits : Prop := (d.tail + 2 ^ 17 - d.ret) % 2 ^ 17 + (c.tail + 2 ^ 17 - c.ret) % 2 ^ 17 ≤ d.size
        (¬fits → ∃ t, exec (.ship room) s = .next t ∧ t.que.bmove = some { b with failed := true } ∧
          (t.queue b.srcQ).st = 2 ∧ (t.queue b.dstQ).st = 2 ∧ stat t 3 b.op 4 0o016) ∧
        (fits → ∃ t, exec (.ship room) s = .next t ∧ (t.queue b.srcQ).st = 0 ∧
          t.que.bmove = some { b with stage := 5, acks := [], sent := false } ∧ stat t 1 b.op 5 0)) ∧
      (b.stage = 5 → b.sent = false → b.dstDev = s.own → s.others.filter b.devs.contains = [] →
        ∃ t, exec .flipOut s = .next t ∧ t.que.bmove = none ∧ (t.queue b.dstQ).st = 1 ∧ stat t 2 b.op 5 0)) ∧
    (s.admits w 90 0o050 4 = true →
      (s.que.bmove = none → exec (.babort w) s = .next (s.reject w 90 0o050 0o010)) ∧
      (∀ b, s.que.bmove = some b →
        ((b.mgr ≠ s.own ∨ 4 ≤ b.stage) → exec (.babort w) s = .next (s.reject w 90 0o050 0o010)) ∧
        (b.mgr = s.own → b.stage < 4 → ∃ t, exec (.babort w) s = .next t ∧ t.que.bmove = none ∧ stat t 2 4 b.stage 0))) ∧
    (s.admits w 90 0o050 5 = true →
      (s.que.bmove = none → exec (.bforce w) s = .next (s.reject w 90 0o050 0o010)) ∧
      (∀ b, s.que.bmove = some b →
        ((b.mgr ≠ s.own ∨ b.failed = false) → exec (.bforce w) s = .next (s.reject w 90 0o050 0o010)) ∧
        (b.mgr = s.own → b.failed = true →
          (bit (s.preg 90 0o051) 35 = true → b.stage = 5 →
            exec (.bforce w) s = .next (s.flip { b with failed := false, sent := false, op := 5 })) ∧
          (bit (s.preg 90 0o051) 35 = true → b.stage ≠ 5 → b.srcDev = s.own → ∃ t, exec (.bforce w) s = .next t ∧
            t.que.bmove = some { b with failed := false, sent := false, op := 5 } ∧ stat t 1 5 b.stage 0) ∧
          (bit (s.preg 90 0o051) 35 = false → ∃ t, exec (.bforce w) s = .next t ∧ t.que.bmove = none ∧
            stat t 2 5 b.stage 0))))

/-- 15 R365, R366, R370, R389, Table 15-4a; 19 R469: a port's way from OFF to UP, its retraining, and its failure. -/
def Obligations.PortTrainingResults : Prop :=
  ∀ (s : State) (f : Flit) (peer : PeerJournal),
    (∀ (w : Writer) (p : Fin 8) (v : Word), s.admits w (80 + p.val) 0o021 v = true →
      let code : Nat :=
        if 1 ≤ p.val ∧ s.straps.role = 2 then 0o010
        else if p.val = 0 ∧ bit v 35 = false ∧ s.twin.st ≠ 0 ∧ s.twin.st ≠ 7 then 0o010
        else 0
      let st := (s.port p.val).st
      (code ≠ 0 → exec (.portCtl w p v) s = .next (s.reject w (80 + p.val) 0o021 code)) ∧
      (code = 0 → ∃ t, exec (.portCtl w p v) s = .next t ∧ t.preg (80 + p.val) 0o021 = v ∧
        (bit v 35 = false → (t.port p.val).st = 0 ∧ (st ≠ 0 → (t.port p.val).replay = [])) ∧
        (bit v 35 = true → st = 0 → s.portsMayTrain p.val = true → (t.port p.val).st = 1 ∧ (t.port p.val).credits = []) ∧
        (bit v 35 = true → st = 7 → (t.port p.val).st = 1) ∧
        (bit v 35 = true → st ≠ 0 → st ≠ 7 → t.port p.val = s.port p.val))) ∧
    (∀ p : Fin 9,
      let n := p.val
      let x := s.port n
      let wide : Nat := s.portWidth n
      (x.st = 1 → ∃ t, exec (.farEndDetection p) s = .next t ∧ (t.port n).st = 2) ∧
      (x.st ≠ 1 → exec (.farEndDetection p) s = .next s) ∧
      (∀ lanes, (x.st = 2 → ∃ t, exec (.clockRecovery p lanes) s = .next t ∧ (t.port n).st = 3 ∧ (t.port n).lanes = lanes) ∧
        (x.st = 6 → exec (.clockRecovery p lanes) s = .next (s.setPort n { x with lanes })) ∧
        (x.st ≠ 2 → x.st ≠ 6 → exec (.clockRecovery p lanes) s = .next s)) ∧
      ((x.st = 3 ∨ x.st = 6) → wide ≠ 0 → ∃ t g, exec (.blockSync p) s = .next t ∧
        (t.port n).st = (if x.st = 3 then 4 else 6) ∧ (t.port n).paramSent = true ∧ (t.port n).tx = x.tx ++ [g] ∧
        g.ftype = 3 ∧ g.w1 = s.sentVersion ∧ g.seq = BitVec.ofNat 16 x.sendSeq ∧
        g.w0 = fld 0 4 s.own ||| fld 5 7 n ||| fld 8 9 s.straps.role.toNat ||| fld 10 10 s.twin.hold.toNat) ∧
      (x.st = 3 → wide = 0 → ∃ t, exec (.blockSync p) s = .next t ∧ (t.port n).st = 1) ∧
      (x.st = 6 → wide = 0 → (s.recentRetrains n).length < 2 → ∃ t, exec (.blockSync p) s = .next t ∧ (t.port n).st = 6 ∧
        (t.port n).paramSent = false) ∧
      (x.st ≠ 3 → x.st ≠ 6 → exec (.blockSync p) s = .next s) ∧
      (x.st = 5 → (s.recentRetrains n).length < 2 → ∃ t, exec (.blockSyncLoss p) s = .next t ∧ (t.port n).st = 6 ∧
        (t.port n).replay = x.replay ∧ (t.port n).retrains = s.pwr.us :: s.recentRetrains n) ∧
      (x.st = 5 → 2 ≤ (s.recentRetrains n).length → ∃ t, exec (.blockSyncLoss p) s = .next t ∧ (t.port n).st = 7 ∧
        (t.port n).replay = []) ∧
      ((x.st = 3 ∨ x.st = 4) → ∃ t, exec (.blockSyncLoss p) s = .next t ∧ (t.port n).st = 1) ∧
      (n < 8 → (x.st = 4 ∨ (x.st = 6 ∧ x.paramSent = true)) →
        let fault := s.portFault n (bits f.w0 0 4) (bits f.w0 8 9)
        let a := (s.setPreg (80 + n) 0o022
          (fld 0 4 (bits f.w0 0 4) ||| fld 5 7 (bits f.w0 5 7) ||| fld 8 9 (bits f.w0 8 9) ||| fld 10 13 fault)).setPreg
          (80 + n) 0o023 f.w1
        let b := if n = 0 then a.notePeer f else a
        (fault ≠ 0 → ∃ t, exec (.param p f peer) s = .next t ∧ (t.port n).st = 7 ∧ bits (t.preg (80 + n) 0o022) 10 13 = fault) ∧
        (fault = 0 → (n ≠ 0 ∨ (s.twin.st ≠ 1 ∧ s.twin.st ≠ 6)) → ∃ t, exec (.param p f peer) s = .next t ∧
          t = (b.portReady n).greet b.members (bits f.w0 0 4) f.w1 ∧ (t.port n).st = 5 ∧ (t.port n).up = true ∧ t.farEnd n = bits f.w0 0 4)) ∧
      (n = 8 → x.st = 4 → ∃ t, exec (.param p f peer) s = .next t ∧ (t.port n).st = 5 ∧
        bits (t.preg 99 0o020) 28 31 = bits f.w0 0 3))

/-- 15 R367-R369: on a port that is UP, credits come back, acknowledged flits leave the replay buffer, a NAK brings it out
again, and a flit that fails its CRC is answered by a NAK; a replayed flit is accepted only where it is the next. -/
def Obligations.FlitFlowResults : Prop :=
  ∀ (s : State) (p : Fin 9) (f : Flit),
    let n := p.val
    let x := s.port n
    let back (u : State) : State :=
      let v := (u.modPort n fun y => { y.creditsBack f with crcBad := 0 }).flushPort n
      if f.seq.toNat ≠ (v.port n).recvSeq ∧ (v.port n).nakSent = false then v.sendNak n else v
    let last := bits f.w0 20 35
    let bad := badFlit n f
    (x.st = 5 → bad = false → exec (.idle p f) s = .next (back s)) ∧
    (x.st = 5 → bad = true → exec (.idle p f) s = exec (.protocolError p f) s ∧
      exec (.ack p f) s = exec (.protocolError p f) s ∧ exec (.nak p f) s = exec (.protocolError p f) s) ∧
    (x.st ≠ 5 → exec (.idle p f) s = .next s ∧ exec (.ack p f) s = .next s ∧ exec (.nak p f) s = .next s) ∧
    (∀ c, c = f.ccls.toNat → c < 6 → ∀ d, tget 0 (x.creditsBack f).credits d =
      (if d = c then tget 0 x.credits c - f.ccnt.toNat else tget 0 x.credits d)) ∧
    (∀ m g, g ∈ (x.acked m).replay ↔ g ∈ x.replay ∧ 2 ^ 15 ≤ (m + 2 ^ 16 - g.seq.toNat) % 2 ^ 16) ∧
    (x.st = 5 → bad = false → exec (.ack p f) s = .next (back (s.setPort n (x.acked last)))) ∧
    (x.st = 5 → bad = false →
      let y := x.acked ((last + 2 ^ 16 - 1) % 2 ^ 16)
      (y.nakSeen < 7 → ∃ u, exec (.nak p f) s = .next (back u) ∧ (u.port n).tx = x.tx ++ y.replay ∧
        (u.port n).nakSeen = y.nakSeen + 1) ∧
      (7 ≤ y.nakSeen → (s.recentRetrains n).length < 2 → ∃ t, exec (.nak p f) s = .next t ∧ (t.port n).st = 6)) ∧
    (x.st = 5 → 7 ≤ x.crcBad → (s.recentRetrains n).length < 2 → ∃ t, exec (.flitCrcFailure p) s = .next t ∧
      (t.port n).st = 6 ∧ (t.port n).crcBad = 0) ∧
    (x.st = 5 → x.crcBad < 7 → x.nakRun < 7 → ∃ t g, exec (.flitCrcFailure p) s = .next t ∧ (t.port n).tx = x.tx ++ [g] ∧ g.ftype = 2 ∧
      g.w0 = fld 20 35 x.recvSeq ∧ (n < 8 → t.preg (80 + n) 0o024 = s.preg (80 + n) 0o024 + 1)) ∧
    (x.st = 5 → (s.recentRetrains n).length < 2 → ∃ t, exec (.protocolError p f) s = .next t ∧ (t.port n).st = 6 ∧
      (n < 8 → t.preg (80 + n) 0o024 = s.preg (80 + n) 0o024 + 1)) ∧
    (x.st ≠ 5 → n < 8 → exec (.flitCrcFailure p) s =
        .next ((s.bump (80 + n) 0o024 1).modPort n fun y => { y with crcBad := y.crcBad + 1 }) ∧
      exec (.protocolError p f) s = .next (s.bump (80 + n) 0o024 1)) ∧
    (∀ c, x.st = 5 → bad = false →
      (f.seq.toNat = x.recvSeq → (s.recvIn c n f).1 = true ∧
        ((s.recvIn c n f).2.port n).recvSeq = (x.recvSeq + 1) % 2 ^ 16) ∧
      (f.seq.toNat ≠ x.recvSeq → (s.recvIn c n f).1 = false)) ∧
    (∀ c, x.st = 5 → bad = true → s.recvIn c n f = (false, s.protocolError n)) ∧
    (∀ c, x.st ≠ 5 → s.recvIn c n f = (false, s))

/-- 15 R378-R384; 13 R326: what the standby does with racked records, archive positions, queue entries and the catch-up
stream, and the holder with their acknowledgements; a flit that is not the next in order changes nothing else. -/
def Obligations.TwinFlitResults : Prop :=
  ∀ (s : State) (f : Flit),
    let r := s.recvReplayed 0 f
    let u := r.2
    let only (i : Instr) : Prop := exec i s = .next u
    let q := bits f.w0 4 17
    let n19 := bits f.w1 19 35
    (r.1 = false → only (.racka f) ∧ only (.arch f) ∧ only (.newRet f) ∧ only (.qrackAcknowledgement f) ∧
      only (.streamStart f) ∧ only (.preparedLeg f) ∧ only (.durableQueueContext f) ∧ only (.streamEnd f) ∧
      only (.resynchronise f)) ∧
    (r.1 = true →
      (u.twin.hold = true → exec (.racka f) s = .next (u.rackAcked f.w0 f.w1)) ∧
      (u.twin.hold = false → only (.racka f) ∧ only (.qrackAcknowledgement f)) ∧
      (u.following = true → exec (.arch f) s = .next { u with cel := { u.cel with archive := f.w0 } }) ∧
      (u.following = false → only (.arch f) ∧ only (.newRet f) ∧ only (.preparedLeg f) ∧ only (.durableQueueContext f)) ∧
      (u.following = true → ∃ t, exec (.newRet f) s = .next t ∧ (t.queue q).ret = n19 ∧
        ((n19 + 2 ^ 17 - (u.queue q).ret) % 2 ^ 17 ≤ ((u.queue q).head + 2 ^ 17 - (u.queue q).ret) % 2 ^ 17 →
          (t.queue q).head = (u.queue q).head) ∧
        (((u.queue q).head + 2 ^ 17 - (u.queue q).ret) % 2 ^ 17 < (n19 + 2 ^ 17 - (u.queue q).ret) % 2 ^ 17 →
          (t.queue q).head = n19)) ∧
      (u.twin.hold = true → let c := u.queue q
        0 < (n19 + 2 ^ 17 - c.deliver) % 2 ^ 17 →
        (n19 + 2 ^ 17 - c.deliver) % 2 ^ 17 ≤ (c.tail + 2 ^ 17 - c.deliver) % 2 ^ 17 →
        ∃ t, exec (.qrackAcknowledgement f) s = .next t ∧ t.queue q = { c with deliver := n19 }) ∧
      (u.twin.hold = false → u.twin.st = 3 →
        exec (.streamStart f) s = .next { u with cel := { u.cel with prepared := [] } } ∧
        ∃ t, exec (.streamEnd f) s = .next t ∧ t.twin.st = 5 ∧ t.cel = u.cel) ∧
      (u.following = true → ∀ i m, i = bits f.w0 4 7 → m = bits f.w0 8 12 → i < m →
        (∀ e ∈ u.cel.prepared, ¬(e.seq0 = f.w2 ∧ e.seq1 = f.w3)) →
        ∃ t e, exec (.preparedLeg f) s = .next t ∧ t.cel.prepared = u.cel.prepared ++ [e] ∧ e.seq0 = f.w2 ∧ e.seq1 = f.w3 ∧
          e.addrs.length = 3 * m ∧ e.addrs.getD (3 * i) 0 = bits f.w0 28 35 * 2 ^ 32 + bits f.w1 0 31) ∧
      (u.following = true → exec (.durableQueueContext f) s = .next (u.setQueue q
        { u.queue q with
          head := bits f.w1 2 18, tail := n19, ret := bits f.w2 19 35, deliver := n19, inServ := [], released := [] })) ∧
      ((u.twin.st = 3 ∨ u.twin.st = 5) → ∃ t, exec (.resynchronise f) s = .next t ∧ t.twin.st = 2 ∧ t.cel = u.cel)) ∧
    (∀ g v, s.recvAll 0 [f, g] = (true, v) → v.following = true → ∃ x : State, exec (.ticketEntry f g) s =
        .next (x.sendFlits 0 [qrackFlit 4 q (wd n19) 0 0]) ∧ x.queue q = { v.queue q with tail := n19, deliver := n19 }) ∧
    (∀ g v, s.recvAll 0 [f, g] = (false, v) → exec (.ticketEntry f g) s = .next v) ∧
    (∀ d v, let len := bits f.w1 26 35
      d.length = (len + bits f.w1 20 25 + 3) / 4 →
      (s.recvAll 0 (f :: d) = (false, v) → exec (.rackedRecord f d) s = .next v) ∧
      (s.recvAll 0 (f :: d) = (true, v) → v.following = true →
        (f.w0 = v.cel.append → ∃ t, exec (.rackedRecord f d) s = .next t ∧
          t.cel.append = posAdv v.cel.append (len / 2) ∧ t.cel.last0 = f.w2 ∧ t.cel.last1 = f.w3 ∧
          t.cel.term = bits f.w2 0 15 ∧ t.dram = v.dram) ∧
        (f.w0 ≠ v.cel.append → f.w0 ≠ mkPos ((posLap v.cel.append + 1) % 4096) 0 →
          exec (.rackedRecord f d) s = .next v.askResync)))

/-- 15 R364, R372, R373: messages pass on toward their destination, are numbered and kept until acknowledged, and are sent
again; one that goes unanswered makes its destination unreachable. The words of their contents are the model's choice
(log entry 14). -/
def Obligations.MessageResults : Prop :=
  ∀ (s : State),
    (∀ (a : Arrival) (u : State), badPiece a.msg = false → a.links.length = (msgFlits a.msg).length →
      s.recvAllIn (hopClass a.msg) a.port.val (arrivalFlits a) = (false, u) → exec (.messageRouting a) s = .next u) ∧
    (∀ (a : Arrival) (u : State), s.hears a u → a.msg.dst.toNat ≠ u.own →
      let on : Msg := { a.msg with hops := a.msg.hops + 1 }
      (∀ p, u.routePort a.msg.dst.toNat = some p → ∃ t, exec (.messageRouting a) s = .next t ∧
        (t.port p).msgs = (u.port p).msgs ++ [on] ∧ t.tr = u.tr) ∧
      (u.routePort a.msg.dst.toNat = none →
        exec (.messageRouting a) s = .next { u with tr := { u.tr with held := u.tr.held ++ [on] } })) ∧
    (∀ (a : Arrival) (u : State), s.hears a u → a.msg.dst.toNat = u.own → (∀ l, a.msg.body ≠ .ack l) →
      (∀ b, a.msg.body ≠ .notice b) → (∀ j, a.msg.body ≠ .journal j) →
      let m := a.msg
      let want := tget 0 u.tr.recvSeq m.src.toNat
      (m.seq.toNat = want → exec (.messageRouting a) s = .next (((u.nextOf m).actOn m).sendAck m.src.toNat)) ∧
      (m.seq.toNat ≠ want → (want + 2 ^ 14 - m.seq.toNat) % 2 ^ 14 ≤ 256 →
        exec (.messageRouting a) s = .next (u.sendAck m.src.toNat)) ∧
      (256 < (want + 2 ^ 14 - m.seq.toNat) % 2 ^ 14 → exec (.messageRouting a) s = .next u)) ∧
    (∀ (d : Nat) body o, s.reachable d = true → s.linkFull d = false → ∃ t m, s.sendMsg d body o = some t ∧ m.body = body ∧
      m.hops = 0 ∧ m.seq = BitVec.ofNat 14 (tget 0 s.tr.sendSeq d) ∧ t.tr.unacked = s.tr.unacked ++ [(m, o)] ∧
      tget 0 t.tr.sendSeq d = (tget 0 s.tr.sendSeq d + 1) % 2 ^ 14) ∧
    (∀ (d : Nat) body o, s.reachable d = true → s.linkFull d = true → s.sendMsg d body o =
      some { s with tr := { s.tr with backlog := s.tr.backlog ++ [(d, body, o)] } }) ∧
    (∀ (a : Arrival) (u : State) last, s.hears a u → a.msg.dst.toNat = u.own → a.msg.body = .ack last → u.que.bmove = none →
      (∀ e ∈ u.tr.backlog, e.1 ≠ a.msg.src.toNat) →
      ∃ t, exec (.endToEndAcknowledgement a) s = .next t ∧ ∀ e, e ∈ t.tr.unacked ↔ e ∈ u.tr.unacked ∧
        (e.1.dst = a.msg.src → 2 ^ 13 ≤ (last.toNat + 2 ^ 14 - e.1.seq.toNat) % 2 ^ 14)) ∧
    (∀ (d : BitVec 5) p, s.routePort d.toNat = some p → ∃ t, exec (.messageResend d) s = .next t ∧ t.tr = s.tr ∧
      (t.port p).msgs = (s.port p).msgs ++ (s.tr.unacked.filter fun e => e.1.dst == d).map (·.1)) ∧
    (∀ d : BitVec 5, s.routePort d.toNat = none → (∃ e ∈ s.tr.unacked, e.1.dst = d) → d.toNat ≠ s.own →
      exec (.messageResend d) s = exec (.unreachable d) s) ∧
    (∀ d : BitVec 5, d.toNat = s.own → exec (.unreachable d) s = .next s) ∧
    (∀ d : BitVec 5, d.toNat ≠ s.own → s.que.bmove = none → ∃ t, exec (.unreachable d) s = .next t ∧
      d.toNat ∈ t.tr.unreach ∧ t.reachable d.toNat = false ∧
      t.tr.unacked = s.tr.unacked.filter fun e => e.1.dst.toNat != d.toNat)

/-- 15 R374-R377, R380, R381, R385, R386: heartbeats and their loss, the hold, and the events around it. -/
def Obligations.TwinEventResults : Prop :=
  ∀ (s : State) (f : Flit),
    let x := s.twin
    (termGt x.seenTerm s.cel.term = true → s.nextTerm = (x.seenTerm + 1) % 65536) ∧
    (termGt x.seenTerm s.cel.term = false → s.nextTerm = (s.cel.term + 1) % 65536) ∧
    (s.takeHold.twin.hold = true ∧ s.takeHold.twin.lineLow = false ∧ s.takeHold.cel.term = s.nextTerm ∧
      s.takeHold.cel.ring = s.cel.ring ∧ s.takeHold.preg 96 0o035 = s.preg 96 0o035 + 1) ∧
    (s.straps.twin = true → x.taking = true → x.hold = false → exec .settleTime s = .next s.takeHold) ∧
    (s.straps.twin = true → x.taking = false → x.hold = false →
      exec .settleTime s = .next { s with twin := { x with lineLow := false } }) ∧
    ((s.straps.twin = false ∨ x.hold = true) → exec .settleTime s = .next s) ∧
    (let u := s.recvNotice true;
      (u.following = true → exec .handoverNotice s = .next u.takeHold) ∧
      (u.following = false → exec .handoverNotice s = .next u)) ∧
    (let u := s.recvNotice false;
      (u.straps.twin = true → u.twin.st = 5 → ∃ t, exec .detachNotice s = .next t ∧ t.twin.st = 7 ∧
        t.twin.hold = u.twin.hold) ∧
      ((u.straps.twin = false ∨ u.twin.st ≠ 5) → exec .detachNotice s = .next u)) ∧
    (s.straps.twin = true → x.st = 1 → s.portUp 0 = false → x.hold = false → ∃ t, exec .twWaitExpiry s = .next t ∧
      t.twin.waited = true ∧ t.twin.taking = (x.taking || bit (s.preg 96 0o021) 35)) ∧
    (x.st ≠ 1 → exec .twWaitExpiry s = .next s) ∧
    ((s.port 0).st ≠ 5 → exec (.hbeat f) s = .next s) ∧
    ((s.port 0).st = 5 → badFlit 0 f = true → exec (.hbeat f) s = .next (s.protocolError 0)) ∧
    ((s.port 0).st = 5 → badFlit 0 f = false → ∃ t, exec (.hbeat f) s = .next t ∧ t.twin.lineLow = bit f.w0 0 ∧
      t.twin.misses = 0 ∧
      t.twin.seenTerm = (if termGt (bits f.w0 20 35) x.seenTerm then bits f.w0 20 35 else x.seenTerm) ∧
      t.preg 96 0o025 = f.w1 ∧ t.preg 96 0o026 = f.w2 ∧
      t.twin.st = (s.recvPlain 0 f).twin.st) ∧
    ((s.port 0).st = 5 → 2 ≤ x.st → ∃ t g, exec .heartbeatSend s = .next t ∧ (t.port 0).tx = (s.port 0).tx ++ [g] ∧
      g.ftype = 4 ∧ g.w0 = fld 0 0 x.hold.toNat ||| fld 20 35 s.cel.term ∧ g.w1 = s.cel.last0 ∧ g.w2 = s.cel.last1 ∧
      g.w3 = s.steep.runVer) ∧
    (((s.port 0).st ≠ 5 ∨ x.st < 2) → exec .heartbeatSend s = .next s) ∧
    (2 ≤ x.st → x.st ≤ 5 →
      (x.misses < 2 → exec .heartbeatMiss s = .next { s with twin := { x with misses := x.misses + 1 } }) ∧
      (2 ≤ x.misses → ∃ t, exec .heartbeatMiss s = .next t ∧ t.twin.st = 6 ∧ t.twin.hold = x.hold ∧
        (x.hold = false → t.twin.taking = true ∧ t.preg 96 0o034 = s.preg 96 0o034 + 1))) ∧
    ((x.st < 2 ∨ 5 < x.st) → exec .heartbeatMiss s = .next s)

/-- 15 R385, Table 15-6: the twin commands: the code each is rejected with, what it starts, and its end. -/
def Obligations.TwinCommandResults : Prop :=
  ∀ (w : Writer) (s : State),
    let x := s.twin
    let row (op code : Nat) (ins : Instr) : Prop := s.admits w 96 0o022 (wd op) = true →
      (x.cmd ≠ none → exec ins s = .next (s.reject w 96 0o022 5)) ∧
      (x.cmd = none → code ≠ 0 → exec ins s = .next (s.reject w 96 0o022 code)) ∧
      (x.cmd = none → code = 0 → ∃ t, exec ins s = .next t ∧ t.twin.cmd = some op ∧ t.twin.hold = x.hold ∧
        t.preg 96 0o023 = fld 0 2 1 ||| fld 3 5 op ∧ ((op = 2 ∨ op = 3) → t.twin.st = x.st ∧ t.cel = s.cel) ∧
        (op = 4 → t.twin.taking = true) ∧ (op = 5 → t.twin.st = 3) ∧
        (op = 6 → t.twin.st = 2 ∧ t.cel.ring = [] ∧ t.cel.prepared = []) ∧
        (op = 1 → s.portUp 0 = true → t.twin.st = 2))
    row 1 (if s.straps.twin = false then 0o017 else if x.st = 0 ∨ x.st = 6 ∨ x.st = 7 then 0 else 0o010) (.attach w) ∧
    row 2 (if x.st = 5 then 0 else 0o010) (.detach w) ∧
    row 3 (if x.st = 5 ∧ x.vdiff = false ∧ x.hold = true then 0 else 0o010) (.handover w) ∧
    row 4 (if s.straps.twin = false then 0o017 else if x.hold = true ∨ x.lineLow = true then 7
      else if x.st = 5 then 0o010 else 0) (.twTake w) ∧
    row 5 (if x.st = 4 ∧ x.hold = false then 0 else 0o010) (.accept w) ∧
    row 6 (if x.hold = false ∧ ((x.st = 1 ∧ x.check = true) ∨ x.st = 4) then 0 else 0o010) (.resync w) ∧
    (x.cmd = none → ∀ code, exec (.twinCommandCompletion code) s = .next s) ∧
    (∀ op, x.cmd = some op →
      let drained : Prop := s.cel.unacked = [] ∧ ∀ p ∈ s.cel.posts, p.committed = false
      let ready : Prop := ((op = 2 ∨ op = 3) → drained) ∧ (op = 4 → x.hold = true)
      (∀ code : BitVec 9, code ≠ 0 → ∃ t, exec (.twinCommandCompletion code) s = .next t ∧ t.twin.cmd = none ∧
        t.twin.hold = x.hold ∧ t.preg 96 0o023 = fld 0 2 3 ||| fld 3 5 op ||| fld 27 35 code.toNat) ∧
      (¬ready → exec (.twinCommandCompletion 0) s = .next s) ∧
      (ready → ∃ t, exec (.twinCommandCompletion 0) s = .next t ∧ t.twin.cmd = none ∧
        t.preg 96 0o023 = fld 0 2 2 ||| fld 3 5 op ∧ (op = 2 → t.twin.st = 7) ∧
        (op = 3 → t.twin.hold = false ∧ t.twin.lineLow = true)))

/-- 16 R395, R398-R404, R406, R407, R411, R412, R410; 19 R464: field update: pieces and their answers, the build, activation,
confirmation, revert, relay, and the ends of a session. The model's choices: the quarters of a relayed piece (log entry 14),
the versions of the header's TARGET (log entry 68), ABSENT without the Cellar's stores (log entry 69). -/
def Obligations.FieldUpdateResults : Prop :=
  ∀ (w : Writer) (s : State),
    let x := s.steep
    let h := s.header
    let stat (t : State) (st op code : Nat) : Prop := t.preg 93 0o023 = fld 0 2 st ||| fld 3 5 op ||| fld 27 35 code
    let ended (t : State) : Prop := t.steep.st = .idle ∧ t.steep.have_ = [] ∧ t.steep.tables = [] ∧
      ∀ a, areaD ≤ a → a < areaD + 2 ^ 22 → tget 0 t.store a = 0
    let cmd (op code : Nat) (ins : Instr) (runs : Prop) : Prop := s.admits w 93 0o022 (wd op) = true →
      (x.cmd ≠ none → exec ins s = .next (s.reject w 93 0o022 5)) ∧
      (x.cmd = none → s.storeUp = false → exec ins s = .next (s.reject w 93 0o022 0o017)) ∧
      (x.cmd = none → s.storeUp = true → code ≠ 0 → exec ins s = .next (s.reject w 93 0o022 code)) ∧
      (x.cmd = none → s.storeUp = true → code = 0 → runs)
    (∀ v code t, s.endpointUp = true → s.mgmt.mbDone = true → s.submit 1 (bits v 24 35) (s.buffer 1) = (code, t) →
      exec (.mbSubmit v) s = .next { t with mgmt := { t.mgmt with mbDone := true, mbCode := code } }) ∧
    (∀ v, (s.endpointUp = false ∨ s.mgmt.mbDone = false) → exec (.mbSubmit v) s = .next s) ∧
    (∀ src n bs, (x.spent = true → s.submit src n bs = (0o020, s)) ∧
      (x.spent = false → s.storeUp = false → s.submit src n bs = (0o017, s)) ∧
      (x.spent = false → s.storeUp = true → ((1007 < n ∧ n < 1024) ∨ (1036 < n ∧ n < 1040) ∨ 1040 < n) → s.submit src n bs = (2, s)) ∧
      (x.spent = false → s.storeUp = true → n ≤ 1007 → x.st ≠ .gather → s.submit src n bs = (0o010, s)) ∧
      (x.spent = false → s.storeUp = true → n ≤ 1007 → x.st = .gather → x.takesPart src = true → n < h.npiece → h.format ≠ 1 →
        x.tables.contains (n / 85) = true →
        let same : Prop := sha384 (bs.map BitVec.toNat) = s.bytes (areaD + 4132864 + 4096 * (n / 85) + 48 * (n % 85)) 48
        (¬same → s.submit src n bs = (0o015, s)) ∧ (same → x.have_.contains n = true → s.submit src n bs = (0, s)) ∧
        (same → x.have_.contains n = false → ∃ t, s.submit src n bs = (0, t) ∧ t.steep.have_ = insertNat n x.have_ ∧
          t.steep.st = if t.gathered then .apply else .gather))) ∧
    (∀ (a : Arrival) n off bs, a.msg.body = .piece n off bs →
      ((bs.length ≠ 1024 ∨ off % 1024 ≠ 0 ∨ 4096 ≤ off ∨ a.links.length ≠ (msgFlits a.msg).length) →
        exec (.relayedPiece a) s = .fault .malformedCommand) ∧
      (∀ u, s.hears a u → u.expects a.msg →
        let v := (u.nextOf a.msg).fillBuffer 3 off bs
        (off + 1024 < 4096 → exec (.relayedPiece a) s = .next (v.sendAck a.msg.src.toNat)) ∧
        (4096 ≤ off + 1024 → ∀ code t, v.submit 3 n (v.buffer 3) = (code, t) → exec (.relayedPiece a) s =
          .next ((t.sendAll [a.msg.src.toNat] (.pieceEnd n code)).sendAck a.msg.src.toNat)))) ∧
    ((x.st ≠ .apply ∨ s.storeUp = false) → exec .build s = .next s) ∧
    (x.st = .apply → s.storeUp = true →
      let built := deltaRun s.runningImage h.ilen (h.dlen + 1) (s.deltaStream h) []
      ((∀ img, built = some img → sha384 img ≠ h.idig) → ∃ t, exec .build s = .next t ∧ t.steep.st = .failed ∧
        t.steep.fail = 0o015 ∧ t.store = s.store) ∧
      (∀ img, built = some img → sha384 img = h.idig → h.format ≠ 1 → ∃ t, exec .build s = .next t ∧ t.steep.st = .ready ∧
        t.steep.digSteep = h.idig.map (BitVec.ofNat 8) ∧ t.steep.lenSteep = h.ilen ∧ img.length = h.ilen)) ∧
    cmd 1 (if x.st ≠ .ready ∨ (s.twin.st = 5 ∧ s.rackMode = 2) then 0o010 else 0) (.activate w)
      (∃ t, exec (.activate w) s = .next t ∧ t.steep.pausing = true ∧ t.steep.reverting = false ∧ t.steep.cmd = some 1 ∧
        t.steep.sel = 1 ∧ t.steep.starts = 0 ∧ stat t 1 1 0) ∧
    (x.pausing = false → exec .engineTableSwitch s = .next s) ∧
    (x.pausing = true → ∃ t, exec .engineTableSwitch s = .next t ∧ t.steep.pausing = false ∧ t.steep.cmd = none ∧
      (x.reverting = false → t.steep.st = .provisional ∧ t.steep.runFrom = 1 ∧ stat t 2 1 0 ∧
        t.steep.runVer = wd h.target ∧
        t.steep.engine = x.engineNext) ∧
      (x.reverting = true → ended t ∧ t.steep.sel = 0 ∧ t.steep.runFrom = 0 ∧ t.steep.runVer = x.confVer ∧ stat t 2 4 0)) ∧
    (x.st ≠ .provisional → cmd 2 0o010 (.confirm w) False) ∧
    (x.st = .provisional → s.admits w 93 0o022 2 = true → x.cmd = none → s.storeUp = true →
      let advance : Bool := decide (h.flags = 1)
      (advance = true → Config.vppFuse s.free = false → exec (.confirm w) s =
        .next (({ s with free := s.free + 1 } : State).reject w 93 0o022 0o017)) ∧
      ((advance = false ∨ Config.vppFuse s.free = true) → ∃ t, exec (.confirm w) s = .next t ∧ t.steep.st = .confirm ∧
        t.steep.cfm = true ∧ t.steep.cmd = some 2 ∧ t.steep.epend = (x.epend || advance) ∧ stat t 1 2 0)) ∧
    cmd 3 (if ¬(x.st = .gather ∨ x.st = .apply ∨ x.st = .ready ∨ x.st = .failed) then 0o010
        else if (∃ k, updateSource w = some k ∧ x.owner ≠ k ∧ x.joined.getMsbD (k - 1) = true) then 0o014 else 0) (.abort w)
      (∃ t, exec (.abort w) s = .next t ∧ ended t ∧ stat t 2 3 0) ∧
    cmd 4 (if x.st ≠ .provisional then 0o010 else 0) (.revert w)
      (∃ t, exec (.revert w) s = .next t ∧ t.steep.pausing = true ∧ t.steep.reverting = true ∧ t.steep.cmd = some 4 ∧
        t.steep.sel = 0 ∧ t.steep.starts = 0 ∧ stat t 1 4 0) ∧
    cmd 5 (if s.isManager = false ∨ ¬(x.st = .gather ∨ x.st = .ready) then 0o010 else 0) (.relay w)
      (∃ t, exec (.relay w) s = .next t ∧
        (s.reachable (bits (s.preg 93 0o054) 31 35) = true → t.steep.cmd = some 5 ∧ stat t 1 5 0 ∧
          t.steep.relayed = 1024 :: (x.tables.map (1025 + ·) ++ x.have_)) ∧
        (s.reachable (bits (s.preg 93 0o054) 31 35) = false → t.steep.cmd = none ∧ stat t 3 5 0o017)) ∧
    (let due : Prop := (x.st = .gather ∨ x.st = .ready) ∧ bits (s.preg 93 0o021) 27 35 * 86400000000 ≤ x.idleUs;
      (due → ∃ t, exec .lapse s = .next t ∧ ended t) ∧ (¬due → exec .lapse s = .next s)) ∧
    (∀ code : BitVec 9, x.cmd ≠ some 2 → x.cmd ≠ some 5 → exec (.steepCommandCompletion code) s = .next s) ∧
    (∀ code : BitVec 9, x.cmd = some 5 → ∃ t, exec (.steepCommandCompletion code) s = .next t ∧ t.steep.cmd = none ∧
      stat t (if code = 0 then 2 else 3) 5 code.toNat) ∧
    (∀ code : BitVec 9, x.cmd = some 2 → s.storeUp = false → exec (.steepCommandCompletion code) s = .next s) ∧
    (∀ code : BitVec 9, x.cmd = some 2 → s.storeUp = true → ∃ t, exec (.steepCommandCompletion code) s = .next t ∧ ended t ∧
      t.steep.cmd = none ∧ t.steep.sel = 0 ∧ t.steep.cfm = false ∧ t.steep.confVer = wd h.target ∧ t.steep.digConf = x.digSteep ∧
      t.steep.lenConf = x.lenSteep ∧ stat t 2 2 0 ∧ x.fuseEpoch ≤ t.steep.fuseEpoch ∧
      (tabWf 0 s.store = true → ∀ i, i < 2 ^ 22 → tget 0 t.store (areaA + i) = tget 0 s.store (areaS + i) ∧
        tget 0 t.store (areaB + i) = tget 0 s.store (areaS + i)))

/-- 18 R432-R438, R448, R449; 07 R173, R176; 17 R430; 19 R455, R456, R464: resets and what they spare, the way to READY, the
loss of power, and a fatal device error. -/
def Obligations.StartAndResetResults : Prop :=
  ∀ (s : State),
    let spares (t : State) : Prop := t.cel.archive = s.cel.archive ∧ t.kiln.kek = s.kiln.kek ∧
      t.kiln.slots = [] ∧ ∀ n, n < 64 → (t.core n).run = .reset
    (∀ st test a b, ∃ t, exec (.powerOnReset st test a b) s = .next t ∧ spares t ∧ t.cel.ring = s.cel.ring ∧ t.straps = st ∧
      (t.core 64).run = .running ∧ t.twin.hold = false ∧ t.pins.pwrGood = true ∧ t.pins.porstLow = false ∧ t.installed = 0) ∧
    (∃ t, exec .porstN s = .next t ∧ spares t ∧ t.cel.ring = s.cel.ring ∧ (t.core 64).run = .reset ∧ t.pins.porstLow = true ∧ t.dram = [] ∧
      t.twin.hold = false) ∧
    (∃ t, exec .pwrGood s = .next t ∧ spares t ∧ t.cel.ring = s.cel.ring ∧ (t.core 64).run = .reset ∧ t.pins.pwrGood = false ∧ t.dram = []) ∧
    (let may : Bool := !s.pwr.fatalTherm && s.pins.pwrGood && !s.pins.porstLow;
      let asked (t : State) : Prop := t.warmPend = true ∧ t.cel.st ≠ .service;
      (may = true → (∃ t, exec .warmrstN s = .next t ∧ asked t ∧ t.pins.warmLow = true) ∧
        (∀ w v, s.admits w 95 0o045 v = true → bits v 33 35 = 1 → ∃ t, exec (.rstCmd w v) s = .next t ∧ asked t)) ∧
      (may = false → exec .warmrstN s = .next { s with pins := { s.pins with warmLow := true } } ∧
        ∀ w v, s.admits w 95 0o045 v = true → bits v 33 35 = 1 → exec (.rstCmd w v) s = .next s) ∧
      (∀ w v, s.admits w 95 0o045 v = true → bits v 33 35 ≠ 1 → exec (.rstCmd w v) s = .next (s.reject w 95 0o045 3))) ∧
    (s.warmPend = false → ∀ x a b, exec (.warmReset x a b) s = .next s) ∧
    (s.warmPend = true → ∀ x a b, ∃ t, exec (.warmReset x a b) s = .next t ∧ spares t ∧ (t.core 64).run = .running ∧
      t.warmPend = false ∧ t.pins.warmLow = false ∧ t.straps = s.straps ∧ t.lgasp = s.lgasp ∧
      ((∀ p ∈ s.cel.posts, p.committed = false) → t.cel.ring = s.cel.ring)) ∧
    (∀ pop, (s.sys < 5 → exec (.dramTraining pop) s = .next s) ∧
      (5 ≤ s.sys →
        let rate := bits (s.preg 94 0o062) 34 35
        let good : Prop := pop.pass = true ∧ (pop.dimms = 1 ∨ pop.dimms = 2) ∧ 1 ≤ pop.ranks.toNat ∧ pop.ranks.toNat ≤ 4 ∧
          rate ≤ 2 ∧ ¬(rate = 2 ∧ pop.dimms = 2)
        ∃ t, exec (.dramTraining pop) s = .next t ∧ t.dram = s.dram ∧
          (good → t.installed = min (pop.dimms.toNat * pop.gib.toNat * 2 ^ 31) (2 ^ 39) ∧
            ∀ c, c < 8 → t.preg (72 + c) 0o020 = fld 30 31 rate ||| fld 32 32 1 ||| fld 33 35 2 ∧
              t.preg (72 + c) 0o022 = pop.t1) ∧
          (¬good → t.installed = 0 ∧ ∀ c, c < 8 → t.preg (72 + c) 0o020 = fld 30 31 rate ||| fld 33 35 4))) ∧
    (∀ gen width, 5 ≤ s.sys → s.pins.perstLow = false → s.steep.spent = false → s.domOn .pcie = true →
      ((1 ≤ gen.toNat ∧ gen.toNat ≤ 5 ∧ (width = 4 ∨ width = 8 ∨ width = 16)) → exec (.pcieLinkTraining gen width) s =
        .next (s.setPreg 88 0o020 (fld 24 27 gen.toNat ||| fld 28 32 width.toNat))) ∧
      (¬(1 ≤ gen.toNat ∧ gen.toNat ≤ 5 ∧ (width = 4 ∨ width = 8 ∨ width = 16)) →
        exec (.pcieLinkTraining gen width) s = .next s)) ∧
    (let ok : Prop := s.sys = 5 ∧ s.steep.spent = false ∧ bit (s.preg 72 0o020) 32 = true ∧ s.cel.st ≠ .scan ∧
        (s.straps.twin = false ∨ s.twin.waited = true ∨ (s.twin.st ≠ 1 ∧ s.twin.st ≠ 2));
      (ok → exec .ready s = .next { s with sys := 6 }) ∧ (¬ok → exec .ready s = .next s)) ∧
    (∀ v, s.endpointUp = true → s.sys = 6 → s.svStarted = false → ∃ t, exec (.svStart v) s = .next t ∧
      t.svStarted = true ∧ (t.core 64).pc = mkPtr (bits v 7 35 * 2048) 0 ∧ (t.core 64).run = .running ∧
      (t.core 64).c0T = Tok.rootC0 ∧ (t.core 64).regs = (s.core 64).regs ∧ t.dram = s.dram) ∧
    (∀ v, (s.endpointUp = false ∨ s.sys ≠ 6 ∨ s.svStarted = true) → exec (.svStart v) s = .next s) ∧
    (exec (.perstN false) s = .next { s with pins := { s.pins with perstLow := false } } ∧
      ∃ t, exec (.perstN true) s = .next t ∧ t.pins.perstLow = true ∧ t.cores = s.cores ∧ t.dram = s.dram ∧ t.msixTab = [] ∧
        t.msix = s.msix ∧ (∀ off, 16 ≤ off → off < 256 → t.preg 88 off = pregReset 88 off) ∧ (∀ p off, p ≠ 88 → off < 256 → t.preg p off = s.preg p off)) ∧
    (s.pins.pwrFailLow = true → exec .pwrFailN s = .next s) ∧
    (s.pins.pwrFailLow = false → ∃ t, exec .pwrFailN s = .next t ∧ t.pins.pwrFailLow = true ∧ t.cel.st ≠ .service ∧
      t.preg 97 0o025 = s.preg 97 0o025 + 1 ∧ bit (t.preg 97 0o020) 27 = true ∧
      bits (tget 0 t.lgasp (272 * t.lgLast)) 0 5 = 1) ∧
    (∃ t, exec .pwrFailNRelease s = .next t ∧ t.pins.pwrFailLow = false ∧
      (s.pins.pwrGood = true → s.cel.st = .drain → s.sys ≠ 7 → s.warmPend = false → t.cel.st = .service) ∧
      (s.cel.st ≠ .drain → t.cel = s.cel)) ∧
    (∀ w v, s.admits w 97 0o026 v = true →
      let r := s.preg 97 0o026
      (bit v 6 = true → bit r 0 = true → ∃ t, exec (.srLgasp w v) s = .next t ∧ tget 0 t.lgasp (272 * bits r 1 1) = 0 ∧
        bit (t.preg 97 0o026) 0 = false) ∧
      ((bit v 6 = false ∨ bit r 0 = false) → exec (.srLgasp w v) s = .next s)) ∧
    (let fatal (t : State) (cause why : Nat) : Prop := t.sys = 7 ∧ t.twin.hold = false ∧ t.preg 97 0o022 = wd cause ∧
        (t.core 64).run = .halted ∧ (∀ n, n < 64 → (t.core n).run = .reset) ∧
        bits (tget 0 t.lgasp (272 * t.lgLast)) 0 5 = why;
      s.sys ≠ 7 → (∃ t, exec .thermtrip s = .next t ∧ fatal t 3 2 ∧ t.pins.thermtripLow = true) ∧
        (∃ t, exec .lockstepMismatch s = .next t ∧ fatal t 1 3))

/-- 09 R221, R229; 10 R254; 17 R426, R427, Table 17-6; 18 R433, R439: a core held in reset and released, the pitch of its control
store, an inter-core interrupt, and the switch of its task. -/
def Obligations.CoreControlResults : Prop :=
  ∀ (w : Writer) (s : State),
    (∀ (n : Fin 64) (v : Word), s.admits w n.val 0o021 v = true →
      let k := s.core n.val
      (bit v 35 = true → k.run = .running → exec (.reset w n v) s = .next (s.reject w n.val 0o021 0o010)) ∧
      ((bit v 35 = false ∨ k.run ≠ .running) → ∃ t, exec (.reset w n v) s = .next t ∧
        (bit v 34 = true → (t.core n.val).run = .reset ∧ (t.core n.val).regs = [] ∧ (t.core n.val).serv = none) ∧
        (bit v 34 = false → bit (s.preg n.val 0o021) 34 = true → (t.core n.val).releasing = true ∧
          (t.core n.val).regs = k.regs) ∧
        (bit v 35 = true → (t.core n.val).pitching = true))) ∧
    (∀ n : Fin 64, let v := (s.preg n.val 0o021 &&& fld 34 34 1) ||| 1
      s.admits w n.val 0o021 v = true →
      ((s.core n.val).run = .running → exec (.pitch w n) s = .next (s.reject w n.val 0o021 0o010)) ∧
      ((s.core n.val).run ≠ .running → ∃ t, exec (.pitch w n) s = .next t ∧ (t.core n.val).pitching = true)) ∧
    (∀ n : Fin 64, ((s.core n.val).pitching = false → exec (.pitchCompletion n) s = .next s) ∧
      ((s.core n.val).pitching = true → ∃ t, exec (.pitchCompletion n) s = .next t ∧
        (t.core n.val).pitching = false ∧ (t.core n.val).csBad = false ∧
        ((s.core n.val).run = .waiting → (s.core n.val).bank = 3 → (t.core n.val).run = .running))) ∧
    (∀ n : Fin 64,
      let k := s.core n.val
      let held : Prop := k.releasing = false ∨ k.run ≠ .reset ∨ s.sys < 5 ∨ k.csBad = true ∨ k.pitching = true ∨ s.coresHeld = true ∨
        s.pwr.fenced.contains (clusterOf n.val) = true ∨ s.domOn (.core n) = false
      (held → exec (.coreRelease n) s = .next s) ∧
      (¬held → ∀ e, s.vecEntry n.val 0 = some e → ∃ t, exec (.coreRelease n) s = .next t ∧ (t.core n.val).run = .running ∧
        (t.core n.val).pc = e.pc ∧ (t.core n.val).releasing = false ∧ (t.core n.val).regs = k.regs ∧
        t.pregs = s.pregs ∧ t.dram = s.dram)) ∧
    (∀ n : Fin 64, s.admits w n.val 0o034 1 = true → exec (.ici w n) s = .next (s.pendInt n.val 35)) ∧
    (∀ (c : CoreId) (v : Word), let o := coreOff c.val 0o025
      s.admits w o.1 o.2 v = true →
      let k := s.core c.val
      ((k.depth ≠ 1 ∨ k.mark.ds = true ∨ k.mark.vs = true) →
        exec (.taskArea w c v) s = .next (s.reject w o.1 o.2 0o010)) ∧
      (k.depth = 1 → k.mark.ds = false → k.mark.vs = false → ∃ t, exec (.taskArea w c v) s = .next t ∧
        t.creg c.val 0o025 = v ∧ (t.core c.val).tabs = 15 ∧ (t.core c.val).tdrt = 0 ∧ (t.core c.val).c0H = k.c0H)) ∧
    (∀ (c : CoreId) (v : Word), let o := coreOff c.val 0o026
      s.admits w o.1 o.2 v = true → ∃ t, exec (.tgroup w c v) s = .next t ∧
        (t.core c.val).tabs = BitVec.ofNat 4 (bits v 24 27) &&& ~~~(BitVec.ofNat 4 (bits v 32 35)) ∧
        (t.core c.val).tdrt = (s.core c.val).tdrt ∧ (bits v 32 35 = 0 → (t.core c.val).regs = (s.core c.val).regs))

/-- 18 R440-R442, R454, Table 18-4; 17 R420, R421; 19 R457: power domains go off and wake, and the commits of the clock and
DRAM timing groups keep their rules. What DRC_STATE reads after a controller wakes untrained is the model's choice (log
entry 44). -/
def Obligations.PowerAndClockResults : Prop :=
  ∀ (w : Writer) (s : State),
    let turns (off : Nat) (ds : List (Nat × Domain)) (v : Word) (ins : Instr) : Prop := s.admits w 94 off v = true →
      let busy : Prop := ∃ d ∈ ds, bit v d.1 = false ∧ s.domOn d.2 = true ∧ s.mayTurnOff v d.2 = false
      (busy → exec ins s = .next (s.reject w 94 off 5)) ∧
      (¬busy → ∃ t, exec ins s = .next t ∧ t.preg 94 off = v ∧ t.dram = s.dram ∧
        ∀ d ∈ ds, (bit v d.1 = false → t.domOn d.2 = false ∧ d.2 ∉ t.pwr.waking) ∧
          (bit v d.1 = true → (t.domOn d.2 = true ↔ s.domOn d.2 = true) ∧ (s.domOn d.2 = false → d.2 ∈ t.pwr.waking)))
    let commits (p g code : Nat) (ins : Instr) : Prop := s.admits w p 5 (wd g) = true →
      exec ins s = .next (s.answered w p 5 (if s.direct p = true then 0o010 else if s.staged.contains (p, g) = true then 5
        else code) (s.stage p g))
    (∀ (n : Fin 8) (v : Word), turns (0o020 + n.val) (clusterDomains n.val) v (.clPwr w n v)) ∧
    (∀ v, turns 0o030 ioDomains v (.ioPwr w v)) ∧
    (∀ d, (d ∉ s.pwr.waking → exec (.domainWake d) s = .next s) ∧
      (d ∈ s.pwr.waking → ∃ t, exec (.domainWake d) s = .next t ∧ t.domOn d = true ∧ d ∉ t.pwr.waking ∧
        (d = .cellar → t.cel.st = (if s.cel.st = .off then .scan else s.cel.st) ∧ t.cel.ring = s.cel.ring) ∧
        (∀ n, d = .dram n → bits (t.preg (72 + n.val) 0o020) 33 35 = (if bit (s.preg (72 + n.val) 0o020) 32 then 2 else 1)))) ∧
    (∀ n : Fin 8,
      let m := bits (s.shadowReg 94 (0o042 + n.val)) 30 35
      let low : Prop := s.railMv n.val < (if m ≤ 12 then 600 else 420 + 15 * m) + 10
      commits 94 (n.val + 1) (if m < 8 ∨ topMult < m ∨ low then 2 else 0) (.clFreq w n) ∧
      (let waits : Prop := ∃ i, i < 8 ∧ ∃ p, s.postingOf (8 * n.val + i) = some p ∧ p.committed = true;
        (waits → exec (.frequencySwitch n) s = .next s) ∧
        (¬waits → ∃ t, exec (.frequencySwitch n) s = .next t ∧ t.staged.contains (94, n.val + 1) = false ∧
          t.multOf n.val = bits (t.preg 94 (0o042 + n.val)) 30 35 ∧
          t.effMult n.val = min (t.multOf n.val) (t.clkCap n.val)))) ∧
    (let r := bits (s.shadowReg 94 0o062) 34 35;
      commits 94 9 (if r = 3 then 3 else if r = 2 ∧ (∃ c ∈ List.range 8, bits (s.preg (72 + c) 0o021) 16 19 = 2) then 2 else 0)
        (.dramClk w)) ∧
    commits 94 10 0 (.adjClk w) ∧
    (∀ n : Fin 8,
      let p := 72 + n.val
      let less (fs : List (Nat × Nat)) (a b : Word) : Prop := ∃ f ∈ fs, bits a f.1 f.2 < bits b f.1 f.2
      commits p 1 (if less [(0, 7), (8, 15), (16, 23), (24, 35)] (s.shadowReg p 0o022) s.spd.t1 then 2 else 0)
        (.coreTiming w n) ∧
      commits p 2 (if less [(12, 19), (20, 27), (28, 35)] (s.shadowReg p 0o023) s.spd.t2 then 2 else 0) (.turnTiming w n) ∧
      commits p 3 (if less [(0, 15), (16, 27)] (s.shadowReg p 0o024) s.spd.t3 then 2 else 0) (.refTiming w n) ∧
      commits p 4 (if 1000 < bits (s.shadowReg p 0o025) 26 35 then 2 else 0) (.scrubTiming w n))

/-- 18 R443-R446, R451, R454, Table 18-9; 02 R40; 19 R457: rails, temperatures, the patrol, timers and the watchdog, and the
fabric cycle that passes while no command waits (log entry 7). -/
def Obligations.SensorAndTimerResults : Prop :=
  ∀ (w : Writer) (s : State),
    (∀ line check,
      let l := BitVec.toNat (w := 36) line
      let c := 72 + l % 8
      let runs : Prop := bits (s.preg c 0o020) 33 35 = 2 ∧ bits (s.preg c 0o025) 26 35 ≠ 0;
      ((¬runs ∨ s.installed ≤ 16 * l ∨ (s.placed (l / 128)).isSome = true ∨ check = .good) →
        exec (.patrolScrub line check) s = .next s) ∧
      (runs → 16 * l < s.installed → s.placed (l / 128) = none →
        (check = .uncorrectable → ∃ t, exec (.patrolScrub line check) s = .next t ∧
          t.preg c 0o027 = s.preg c 0o027 + 1 ∧ t.preg c 0o030 = wd l ∧ t.preg 97 0o102 = s.preg 97 0o102 + 1) ∧
        (check = .corrected → s.sealFor (l / 128) = 0 → exec (.patrolScrub line check) s =
          .next ((s.bump c 0o026 1).bump 97 (0o072 + l % 8) 1)))) ∧
    (∀ mv, mv.length = 8 → ∃ t, exec (.voltageSample mv) s = .next t ∧ t.pwr.sampled = true ∧
      (∀ c, c < 8 → t.railMv c = mv.getD c 0) ∧
      (∀ n ∈ t.pwr.overRuns, n ∈ [0, 1, 2, 4, 5, 6] ∧ 150 < ((mv.getD n 0 : Int) - mv.getD (n + 1) 0).natAbs) ∧
      (∀ n ∈ s.pwr.overRuns, n ∈ t.pwr.overRuns → (if mv.getD n 0 < mv.getD (n + 1) 0 then n else n + 1) ∈ t.pwr.fenced)) ∧
    (∀ (n : Fin 8) (v : Word), s.admits w (64 + n.val) 0o023 v = true →
      let apart : Prop := ∃ m ∈ [0, 1, 2, 4, 5, 6], (m = n.val ∨ m + 1 = n.val) ∧ s.railsApart m = true
      (bit v 35 = false → exec (.cluUnfence w n v) s = .next s) ∧
      (bit v 35 = true → apart → exec (.cluUnfence w n v) s = .next (s.reject w (64 + n.val) 0o023 0o010)) ∧
      (bit v 35 = true → ¬apart → exec (.cluUnfence w n v) s =
        .next { s with pwr := { s.pwr with fenced := s.pwr.fenced.filter (· != n.val) } })) ∧
    (∀ degc : List Int, degc.length = 8 →
      (∃ t, exec (.gradientStep degc) s = .next t ∧ t.pwr.temps = degc ∧ t.dram = s.dram ∧
        ∀ n, n ∈ [0, 1, 2, 4, 5, 6] → 30 < (degc.getD n 0 - degc.getD (n + 1) 0).natAbs →
          let h := if degc.getD n 0 < degc.getD (n + 1) 0 then n + 1 else n
          n ∈ t.pwr.grad ∧ t.clkCap h = max 8 (s.clkCap h - 1)) ∧
      (let limit : Int := bits (s.preg 94 0o064) 27 35;
        ∃ t, exec (.throttleStep degc) s = .next t ∧ t.pwr.temps = degc ∧ t.dram = s.dram ∧
          ((s.pins.prochotLow = true ∨ ∃ x ∈ degc, limit ≤ x) → t.pins.prochotOut = true ∧
            ∀ c, c < 8 → t.clkCap c = max 8 (s.clkCap c - 2)) ∧
          (s.pins.prochotLow = false → (∀ x ∈ degc, x < limit) → t.pins.prochotOut = false ∧
            ((∃ x ∈ degc, limit - 5 ≤ x) → ∀ c, t.clkCap c = s.clkCap c)))) ∧
    (∀ low, ∃ t, exec (.prochotN low) s = .next t ∧ t.pins.prochotLow = low ∧
      (low = true → t.pins.prochotOut = true) ∧ t.pwr = s.pwr) ∧
    (∀ n : Fin 8,
      let ctl := s.preg 98 (0o024 + 3 * n.val)
      let cnt := s.preg 98 (0o023 + 3 * n.val)
      ((bit ctl 27 = false ∨ cnt = 0) → exec (.timerExpiry n) s = .next s) ∧
      (bit ctl 27 = true → cnt ≠ 0 → ∃ t, exec (.timerExpiry n) s = .next t ∧
        t.preg 98 (0o023 + 3 * n.val) = (if bit ctl 28 then s.preg 98 (0o022 + 3 * n.val) else 0) ∧
        (t.core (if bit ctl 29 then 64 else bits ctl 30 35)).pend.getMsbD 2 = true)) ∧
    (∀ v, s.admits w 98 0o053 v = true →
      (bit v 35 = true → exec (.wdogKick w v) s = .next { s with pwr := { s.pwr with
        wdogLeft := bits (s.preg 98 0o052) 20 27 * 1000 } }) ∧
      (bit v 35 = false → exec (.wdogKick w v) s = .next s)) ∧
    (∀ v, s.admits w 98 0o052 v = true →
      let old := s.preg 98 0o052
      (bit old 35 = true → bit v 35 = false → exec (.wdogCtl w v) s = .next (s.reject w 98 0o052 7)) ∧
      ((bit old 35 = false ∨ bit v 35 = true) → bits v 20 27 = 0 →
        exec (.wdogCtl w v) s = .next (s.reject w 98 0o052 2)) ∧
      ((bit old 35 = false ∨ bit v 35 = true) → bits v 20 27 ≠ 0 → ∃ t, exec (.wdogCtl w v) s = .next t ∧
        t.preg 98 0o052 = setBit v 34 (bit old 34 && !bit v 34) ∧ t.pwr.wdogLeft = bits v 20 27 * 1000)) ∧
    (bit (s.preg 98 0o052) 35 = false → exec .watchdog s = .next s) ∧
    (bit (s.preg 98 0o052) 35 = true → ∃ t, exec .watchdog s = .next t ∧ bit (t.preg 98 0o052) 34 = true ∧
      t.pwr.watch = true ∧ (s.pwr.fatalTherm = false → s.pins.pwrGood = true → s.pins.porstLow = false →
        t.warmPend = true)) ∧
    (s.pending = [] → (s.pins.pwrGood = false ∨ s.pins.porstLow = true) → step s = .next s) ∧
    (s.pending = [] → s.pins.pwrGood = true → s.pins.porstLow = false → ∃ t, step s = .next t ∧ t.pwr.tb = s.pwr.tb + 1 ∧
      t.installed = s.installed ∧ (∀ n : Fin 8, bit (s.preg 98 (0o024 + 3 * n.val)) 27 = true → 1 < (s.preg 98 (0o023 + 3 * n.val)).toNat →
        t.preg 98 (0o023 + 3 * n.val) = s.preg 98 (0o023 + 3 * n.val) - 1))

/-- 17 R419; 19 R459-R467: the PCI Express endpoint's DMA, aperture, doorbell and slot writes, host reads, and the SMBus port. That a host
read travels in HOST_WRITE, what is refused beside the manual's list, and the SMBus buffer's answers without main power,
are the model's choices (log entry 22). -/
def Obligations.HostAndBoardResults : Prop :=
  ∀ (w : Writer) (s : State),
    (∀ (n : Fin 4) (v : Word), s.admits w 88 (0o025 + 2 * n.val) v = true →
      let old := s.preg 88 (0o025 + 2 * n.val)
      let head := bits old 6 20
      let code : Nat :=
        if head ≠ bits old 21 35 ∧ bits v 0 4 ≠ bits old 0 4 then 5
        else if bits v 0 4 < 4 ∨ 12 < bits v 0 4 ∨ 2 ^ bits v 0 4 < (bits v 21 35 + 2 ^ 15 - head) % 2 ^ 15 then 2
        else 0
      exec (.dmaPtr w n v) s = .next (s.answered w 88 (0o025 + 2 * n.val) code
        (s.setPreg 88 (0o025 + 2 * n.val) (setBits v 6 20 head)))) ∧
    (∀ (n : Fin 4) host answered,
      let p := s.preg 88 (0o025 + 2 * n.val)
      let head := bits p 6 20
      let pa := bits (s.preg 88 (0o024 + 2 * n.val)) 0 33 * 64 + 4 * (head % 2 ^ bits p 0 4)
      ((head = bits p 21 35 ∨ s.endpointUp = false) → exec (.dmaDescriptor n host answered) s = .next s) ∧
      (head ≠ bits p 21 35 → s.endpointUp = true →
        (s.dmaFetch pa = none → exec (.dmaDescriptor n host answered) s = .next (s.mcheck 64 3 88)) ∧
        (∀ ws u, s.dmaFetch pa = some (ws, u) →
          let x := u.dmaMove (descOf ws) host answered
          exec (.dmaDescriptor n host answered) s =
            .next (let t := x.s.engineWrite (pa + 3) (fld 0 0 1 ||| fld 6 26 x.n ||| fld 27 35 x.code)
                   t.setPregF 88 (0o025 + 2 * n.val) 6 20 (t.dmaHead n.val + 1)) ∧
          ((descOf ws).ok = false → x.code = 3 ∧ x.n = 0 ∧ x.s = u)))) ∧
    (∀ (d : Desc) a b, d.lay = 0 → a < 2 ^ 36 → b < 2 ^ 36 →
      d.unitIn (packWords [a, b]) 0 = a ∧ d.unitIn (packWords [a, b]) 1 = b) ∧
    (∀ wr index v,
      let a := s.preg 88 0o021
      let pa := bits a 23 34 * 2 ^ 27 + index
      let r := s.hostReach pa
      ((2 ^ 27 ≤ index ∨ bit a 35 = false ∨ s.endpointUp = false) → exec (.aperture wr index v) s = .next s) ∧
      (index < 2 ^ 27 → bit a 35 = true → s.endpointUp = true →
        exec (.aperture .part index v) s = .next (s.bump 88 0o022 1) ∧
        (2 ^ 36 ≤ v.toNat → exec (.aperture .store index v) s = .next (s.bump 88 0o022 1)) ∧
        (v.toNat < 2 ^ 36 → r.1 = .clear →
          exec (.aperture .store index v) s = .next (r.2.engineWrite pa (wd v.toNat))) ∧
        (v.toNat < 2 ^ 36 → r.1 ≠ .clear → exec (.aperture .store index v) s = .next (r.2.bump 88 0o022 1)) ∧
        (r.1 = .clear → ∀ c u, r.2.engineRead pa = .ok (c, u) →
          exec (.aperture .load index v) s = .next { u with hostOut := c.w.toNat }) ∧
        (r.1 ≠ .clear → exec (.aperture .load index v) s = .next { r.2.bump 88 0o022 1 with hostOut := 0 }))) ∧
    (s.installed = 0 → ∀ pa, (s.hostReach pa).1 = .above) ∧
    (∀ (c : CoreId) v, (s.endpointUp = false → exec (.hostDb c v) s = .next s) ∧
      (s.endpointUp = true → ∃ t, exec (.hostDb c v) s = .next t ∧ t.dram = s.dram ∧ ∀ j, j < 16 →
        (t.core c.val).pend.getMsbD (16 + j) = ((s.core c.val).pend.getMsbD (16 + j) || bit v (20 + j)))) ∧
    (∀ (fn : BitVec 7) off (v : BitVec 64) size,
      let go := exec (.hostWrite fn off (.write v) size) s
      let read := exec (.hostWrite fn off .read size) s
      let p := (off - 0x100000) / 2048
      let o := off % 2048 / 8
      ((s.endpointUp = false ∨ 64 < fn.toNat) → go = .next s ∧ read = .next s) ∧
      (s.endpointUp = true → fn.toNat ≤ 64 →
        (off < 0x100000 → (size < 8 ∨ off % 8 ≠ 0 ∨ 2 ^ 36 ≤ v.toNat) → go = .next (s.bump 88 0o022 1)) ∧
        (off < 0x100000 → 8 ≤ size → off % 8 = 0 → v.toNat < 2 ^ 36 → off % 64 < 24 → (s.queue (off / 64)).fn = fn.toNat →
          ∃ t, go = .next t ∧ t.dbWord (off / 64) (off % 64 / 8) = wd v.toNat ∧ t.dram = s.dram) ∧
        (fn = 0 → 0x100000 ≤ off → off < 0x132000 →
          (8 ≤ size → off % 8 = 0 → v.toNat < 2 ^ 36 → go = .next (s.wrPage .host p o (wd v.toNat))) ∧
          (s.mayWrite .host p o = true → (size < 8 ∨ off % 8 ≠ 0) → go = .next (s.reject .host p o 4)) ∧
          (s.mayWrite .host p o = false → (size < 8 ∨ off % 8 ≠ 0 ∨ 2 ^ 36 ≤ v.toNat) → go = .next (s.reject .host p o 1))) ∧
        (fn ≠ 0 → 0x100100 ≤ off → go = .next (s.bump 88 0o022 1)) ∧
        (∃ r, read = .next { s with hostOut := r } ∧ (fn = 0 → 0x100000 ≤ off → off < 0x132000 → r = (s.pageRead p o).toNat) ∧
          (off < 0x100000 → off % 64 < 24 → (s.queue (off / 64)).fn = fn.toNat →
            r = (s.dbWord (off / 64) (off % 64 / 8)).toNat)))) ∧
    (let up : Bool := !s.pins.porstLow
      let m := s.mgmt
      let out (bs : List Octet) : State := { s with mgmt := { m with out := bs } };
      (up = false → (∀ a b g, exec (.setWindowPointer a b g) s = .next s) ∧ exec .windowRead s = .next s ∧
        (∀ bs g, exec (.windowWrite bs g) s = .next s) ∧ exec .readResult s = .next s ∧ exec .alertResponse s = .next s ∧
        (∀ k bs g, exec (.pieceBufferWrite k bs g) s = .next s) ∧ ∀ k g, exec (.smbusSubmit k g) s = .next s) ∧
      (up = true →
        let checked : State := { s with mgmt := { m with result := 0o015 } }
        (∀ a b, exec (.setWindowPointer a b false) s = .next checked ∧ exec (.setWindowPointer a b true) s =
          .next { s with mgmt := { m with page := a.toNat, off := b.toNat } }) ∧
        (m.page < 100 → s.steep.spent = false → ∃ t, exec .windowRead s = .next t ∧
          t.mgmt.out = (leBytes 5 (s.pageRead m.page m.off).toNat).reverse ∧
          t.mgmt.page * 256 + t.mgmt.off = (m.page * 256 + m.off + 1) % 2 ^ 16 ∧ t.pregs = s.pregs) ∧
        (∀ bs, bs.length = 5 → exec (.windowWrite bs false) s = .next checked) ∧
        (∀ bs code t, bs.length = 5 → m.page < 100 → s.steep.spent = false → beBytes bs < 2 ^ 36 →
          s.pageWrite .smbus m.page m.off (wd (beBytes bs)) = (code, t) →
          exec (.windowWrite bs true) s = .next { t with mgmt := { t.mgmt with
            result := code, page := (t.mgmt.page * 256 + t.mgmt.off + 1) / 256 % 256
            off := (t.mgmt.page * 256 + t.mgmt.off + 1) % 256 } }) ∧
        exec .readResult s = .next (out [BitVec.ofNat 8 m.result]) ∧
        (∀ k bs, bs ≠ [] → bs.length ≤ 128 → exec (.pieceBufferWrite k bs false) s = .next checked ∧
          (s.pins.pwrGood = false → exec (.pieceBufferWrite k bs true) s = .next s) ∧ (s.pins.pwrGood = true → ∃ t, exec (.pieceBufferWrite k bs true) s = .next t ∧ t.store = s.store ∧
            ∀ i, i < bs.length → k + i < 4096 → (t.buffer 2).getD (k + i) 0 = bs.getD i 0)) ∧
        (∀ k, exec (.smbusSubmit k false) s = .next checked) ∧
        (s.pins.pwrGood = false → ∀ k, exec (.smbusSubmit k true) s = .next { s with mgmt := { m with result := 0o017 } }) ∧
        (∀ k code t, s.pins.pwrGood = true → s.submit 2 k (s.buffer 2) = (code, t) →
          exec (.smbusSubmit k true) s = .next { t with mgmt := { t.mgmt with result := code } }) ∧
        (s.preg 97 0o020 ≠ 0 ∨ 2 ≤ s.health → exec .alertResponse s =
          .next (out [BitVec.ofNat 8 (0x58 + s.straps.smba.toNat)])) ∧
        (s.preg 97 0o020 = 0 → s.health < 2 → exec .alertResponse s = .next (out []))))

/-- 18 R452, R453; 19 R468, Table 19-6: the JTAG instructions, debug of the selected core, DBG_CTL and BRK. That a
debug write leaves C0 and clears another C register's tag is the model's choice (log entry 22). -/
def Obligations.DebugPortResults : Prop :=
  ∀ (s : State),
    let n := s.mgmt.sel
    let k := s.core n
    let reach : Bool := s.debuggable n && !s.steep.spent
    let stopped : Bool := reach && (k.dbgHalt || decide (k.run = .halted))
    let shows (t : State) (ir : Octet) (dr len : Nat) : Prop := t.mgmt.ir = ir ∧ t.mgmt.dr = dr ∧ t.mgmt.drBits = len
    let data (t : State) (op : Nat) (v : Word) : Prop := shows t 0x21 (op * 2 ^ 36 + v.toNat) 40
    let drives (ins : Instr) (ir : Octet) (len : Nat) : Prop :=
      (s.pins.porstLow = true → s.steep.spent = false → ∃ t, exec ins s = .next t ∧ t.mgmt.ir = ir ∧ t.mgmt.drBits = len ∧
        t.cores = s.cores) ∧ ((s.pins.porstLow = false ∨ s.steep.spent = true) → exec ins s = .next s)
    (∃ t, exec .idcode s = .next t ∧ shows t 0x01 0x20E50B4B 32) ∧
    (s.steep.spent = false → (∃ t, exec .bypass s = .next t ∧ shows t 0xFF 0 1) ∧
      (∃ t, exec .samplePreload s = .next t ∧ t.mgmt.ir = 0x02 ∧ t.mgmt.drBits = 4812) ∧
      ∀ c, ∃ t, exec (.dbgSel c) s = .next t ∧ t.mgmt.sel = c.toNat ∧ t.mgmt.trace = 0 ∧ shows t 0x20 c.toNat 8) ∧
    (s.steep.spent = true → exec .bypass s = .next s ∧ exec .samplePreload s = .next s ∧
      ∀ c, exec (.dbgSel c) s = .next s) ∧
    drives .extest 0x03 4812 ∧ drives .extestPulse 0x04 4812 ∧ drives .extestTrain 0x05 4812 ∧ drives .clamp 0x06 1 ∧
    drives .highz 0x07 1 ∧
    (reach = true → (k.run = .running ∨ k.run = .waiting) → s.postingOf n = none → ∃ t, exec .halt s = .next t ∧
      (t.core n).dbgHalt = true ∧ (t.core n).run = .running ∧ (t.core n).pc = k.pc ∧ (t.core n).regs = k.regs ∧ data t 1 0) ∧
    (reach = true → k.dbgHalt = true →
      (∃ t, exec .step s = .next t ∧ (t.core n).dbgHalt = false ∧ (t.core n).dbgStep = true ∧ (t.core n).pc = k.pc ∧
        data t 2 0) ∧
      (∃ t, exec .resume s = .next t ∧ (t.core n).dbgHalt = false ∧ (t.core n).dbgStep = false ∧ (t.core n).pc = k.pc ∧
        data t 3 0)) ∧
    (reach = false → exec .halt s = .next s ∧ exec .step s = .next s ∧ exec .resume s = .next s ∧
      exec .readTrace s = .next s) ∧
    (stopped = false → (∀ r, exec (.readRegister r) s = .next s) ∧ (∀ r v, exec (.writeRegister r v) s = .next s) ∧
      (∀ p, exec (.readMemory p) s = .next s) ∧ ∀ p v, exec (.writeMemory p v) s = .next s) ∧
    (stopped = true →
      (∀ r : BitVec 5, ∃ t, exec (.readRegister (.g r)) s = .next t ∧ data t 4 (k.g r.toNat) ∧ t.core n = k) ∧
      (∃ t, exec (.readRegister .pc) s = .next t ∧ data t 4 k.pc) ∧
      (∀ r, ∃ t, exec (.readRegister (.c r false)) s = .next t ∧ data t 4 (k.tok r.toNat).a) ∧
      (∀ r v, r ≠ 0 → ∃ t, exec (.writeRegister (.c r true) v) s = .next t ∧
        (t.core n).tok r.toNat = { a := (k.tok r.toNat).a, b := v, tag := false }) ∧
      (∀ v w, ∃ t, exec (.writeRegister (.c 0 w) v) s = .next t ∧ t.core n = k ∧ data t 5 v) ∧
      (∀ r i v, ∃ t, exec (.writeRegister (.da r i) v) s = .next t ∧
        accWords ((t.core n).acc r.toNat) = (accWords (k.acc r.toNat)).set i.toNat v) ∧
      (∀ r i v, ∃ t, exec (.writeRegister (.v r i) v) s = .next t ∧
        vWords ((t.core n).vreg r.toNat) = (vWords (k.vreg r.toNat)).set i.toNat v) ∧
      (∀ (r : BitVec 5) v, ∃ t, exec (.writeRegister (.g r) v) s = .next t ∧ t.core n = k.setG r.toNat v ∧ data t 5 v) ∧
      (∀ v, ∃ t, exec (.writeRegister .pc v) s = .next t ∧ t.core n = { k with pc := v }) ∧
      (∀ p ph s2 c s3, Yields (access n k.c0 .read 2 storeOpt (ptrWord p) 6 0) s ph s2 → (s2.core n).sb = [] →
        Yields (fetchWord n ph (ptrWord p) k.c0.dom 6 0) s2 c s3 → k.sb = [] →
          ∃ t, exec (.readMemory p) s = .next t ∧ data t 6 c.w) ∧
      (∀ p v ph s2, Yields (access n k.c0 .write 3 storeOpt (ptrWord p) 6 0) s ph s2 → ph.bad = false →
        (s2.core n).sb.length < 8 → ∃ t, exec (.writeMemory p v) s = .next t ∧ data t 7 v ∧
          (t.core n).sb = (s2.core n).sb ++ [⟨ph.pa, fullMask, v, false, ph.dev, ph.c, ph.wt⟩])) ∧
    (reach = true → ∃ t, exec .readTrace s = .next t ∧ data t 8 (k.targets.getD s.mgmt.trace 0) ∧
      t.mgmt.trace = (s.mgmt.trace + 1) % 256) ∧
    (∀ w high v, let off := if high then 0o044 else 0o043
      s.admits w 95 off v = true → ∃ t, exec (.dbgCtl w high v) s = .next t ∧ t.preg 95 off = v ∧
        ∀ m, m < 64 → (36 ≤ m ↔ high = true) → t.debuggable m = false →
          (t.core m).dbgHalt = false ∧ bit (t.preg m 0o042) 33 = false) ∧
    (∀ w (m : Fin 64) v, s.admits w m.val 0o042 v = true →
      (s.debuggable m.val = true → exec (.brk w m v) s = .next (s.setPreg m.val 0o042 v)) ∧
      (s.debuggable m.val = false → exec (.brk w m v) s = .next (s.reject w m.val 0o042 0o010)))

/-- 17 R416, R418-R424, R474: a write of a control page register: the order of its checks, the record of a rejection, the
shadow of a commit group, LOCK and MODE. -/
def Obligations.PageWriteRules : Prop :=
  ∀ (w : Writer) (p : Fin 100) (s : State),
    let n := p.val
    let code (off : Nat) (v : Word) : Nat :=
      if s.mayWrite w n off = false then 1
      else if s.lockedOut w n off v = true then 7
      else if (s.pageDark n off = true ∧ off ≠ 3) ∨ s.halfAbsent n off = true then 0o017
      else match regAt n off with
        | none => 3
        | some r => if r.writable = true ∧ v &&& r.reserved = 0 then 0 else 3
    let src : Nat := match w with
      | .core c => c.val
      | .host => 65
      | .smbus => 66
      | .relay => 67
    (∀ (off : BitVec 8) v, (code off.toNat v = 0 ↔ s.admits w n off.toNat v = true) ∧
      (code off.toNat v ≠ 0 → exec (.pageWrite w p off v) s = .next (s.reject w n off.toNat (code off.toNat v)))) ∧
    (∀ off c, (s.reject w n off c).preg n 4 = fld 0 7 off ||| fld 11 17 src ||| fld 27 35 c ∧
      bit ((s.reject w n off c).preg n 3) 35 = true ∧ (s.reject w n off c).dram = s.dram ∧
      (s.reject w n off c).cores = s.cores ∧
      ∀ q o, o < 256 → (q ≠ n ∨ (o ≠ 3 ∧ o ≠ 4)) → (s.reject w n off c).preg q o = s.preg q o) ∧
    (∀ v, s.admits w n 3 v = true → ∃ t, exec (.pageWrite w p 3 v) s = .next t ∧
      ∀ b, b < 36 → bit (t.preg n 3) b = (bit (s.preg n 3) b && !bit v b)) ∧
    (∀ (off : BitVec 8) v r, s.admits w n off.toNat v = true → regAt n off.toNat = some r → r.grp ≠ 0 → n ≠ 89 →
      s.direct n = false → exec (.pageWrite w p off v) s = .next (s.setShadow n off.toNat v)) ∧
    (∀ v, s.admits w n 6 v = true → exec (.lock w p v) s = .next (s.setPreg n 6 (if bit v 0 then setBit (match w with
      | .core c => fld 24 35 (s.core c.val).domTok.dom
      | .host => fld 23 23 1 ||| fld 24 35 1
      | .smbus => fld 23 23 1 ||| fld 24 35 2
      | .relay => fld 23 23 1 ||| fld 24 35 3) 0 true else 0))) ∧
    (∀ v, s.admits w n 7 v = true →
      let bad : Nat :=
        if bit v 35 = true ∧ groupRegs n = [] then 3
        else if (∃ e ∈ s.staged, e.1 = n) ∨ s.pageSkew n = true then 5
        else 0
      (bad ≠ 0 → exec (.mode w p v) s = .next (s.reject w n 7 bad)) ∧
      (bad = 0 → ∃ t, exec (.mode w p v) s = .next t ∧ t.preg n 7 = v ∧
        (s.direct n = true → bit v 35 = false → n ≠ 89 → ∀ e ∈ groupRegs n, t.shadowReg n e.1 = s.preg n e.1)))

/-- 01 (one command at a time, log entry 7): the block takes the command at the front of its queue, and runs it with the
queue's rest. -/
def Obligations.StepRunsFront : Prop :=
  ∀ (c : Instr) (rest : List Instr) (s : State), s.pending = c :: rest → step s = exec c { s with pending := rest }

/-- 09 R203, Table 09-2; 11 Table 11-1; 17 R414, R418, R422; 18 R433, R435, R439: what power-on reset leaves, where the
manual gives it. The values it does not give are the model's (log entry 1), and are not stated. -/
def Obligations.ResetValues : Prop :=
  (∀ n, n < 64 → (State.reset.core n).run = .reset) ∧ (State.reset.core 64).run = .running ∧ State.reset.sys = 1 ∧
  (∀ n, n ≤ 64 → (State.reset.core n).psw = 0o000750200000 ∧ (State.reset.core n).bank = 1 ∧ (State.reset.core n).c0T = Tok.rootC0 ∧
    (State.reset.core n).c0H = Tok.rootC0 ∧ (State.reset.core n).idI = true ∧ (State.reset.core n).idD = true ∧
    (State.reset.core n).serv = none ∧ (State.reset.core n).sb = []) ∧
  State.reset.ktWritten = false ∧ State.reset.twin.hold = false ∧ State.reset.twin.st = 0 ∧ State.reset.svStarted = false ∧
  (∀ q, State.reset.queue q = QCtx.reset) ∧ (∀ b, bits (State.reset.dirEntry b) 19 20 = 2) ∧
  (∀ p, p < 9 → (State.reset.port p).st = 0) ∧ (∀ i, (State.reset.slotOf i).st = 0) ∧ (∀ g, (State.reset.rootOf g).fmt = false) ∧
  (∀ p, p < 100 → State.reset.preg p 3 = 0 ∧ State.reset.preg p 4 = 0 ∧ State.reset.preg p 6 = 0 ∧ State.reset.preg p 7 = 0) ∧
  (∀ n, n < 64 → State.reset.preg n 0o021 = 2) ∧ (∀ c, c < 8 → State.reset.multOf c = 8) ∧ State.reset.pending = []

/-- The memories are in their canonical form at reset (log entry 2). -/
def Obligations.ResetKeepsForm : Prop := State.reset.memWf = true

/-- Every step keeps the canonical form of the memories: addresses strictly rising, nothing listed that reads as an unlisted
address does (log entry 2); so that equal memories are equal data. -/
def Obligations.StepKeepsMemoryForm : Prop :=
  ∀ s t : State, s.memWf = true → step s = .next t → t.memWf = true

/-- 03 R74-R76; 09 R226, R227: the frame of an instruction's checks: no register, flag, pointer or special register of its
core changes but PROG, which a control-store instruction that does not own it clears; no other core's registers; and, with
no sealed window, memory changes only in REF and CHG of key records, whose tags clear (02 R33, R43). The first use of group
D or V in a handler's frame: an instruction that is not refused runs after the group's words, its mark and, for D, its DSR
stand in the frame, and the save raises no exception; the words are shown under identity translation, where all are
reached (a word that translation or its key refuses is left by the model's choice, log entry 56). -/
def Obligations.ChecksFrame : Prop :=
  (∀ (s v : State) (n : Nat) (i : Ins) (body : M Flow), s.reached n i = some v → v.saved n i = false →
    let plain := ((do prologue n i; body) : M Flow).run v
    (∀ x t, plain = .error (.trap x) t → x.refuses = true → s.issue n i body = trapped t n x) ∧
    ((∀ x t, plain = .error (.trap x) t → x.refuses = false) → ∀ s1 s2 flow t, (prologue n i).run v = .ok () s1 →
      (lazySave n i.grp).run s1 = .ok () s2 → body.run s2 = .ok flow t → s.issue n i body = finish t n i.len flow)) ∧
  (∀ (s : State) (n : Nat) (grp : BitVec 4),
    let k := s.core n
    let due := k.unsaved grp
    let g7 := ptrWord k.hg7
    k.sb = [] → ∃ t, (lazySave n grp).run s = .ok () t ∧
      (let j := t.core n
       j.regs = k.regs ∧ j.da = k.da ∧ j.v = k.v ∧ j.dsr = k.dsr ∧ j.psw = k.psw ∧ j.pc = k.pc ∧
        j.mark.ds = (k.mark.ds || due.getMsbD 1) ∧ j.mark.vs = (k.mark.vs || due.getMsbD 2)) ∧
      (k.idD = true → k.c0H.system = true → k.resting = false → s.ktWritten = false → s.opened = [] →
        g7 + 108 ≤ s.installed → g7 + 108 ≤ 2 ^ 32 →
        (due.getMsbD 1 = true → ∀ j, j < 32 → (t.rd (g7 + 12 + j)).w = (accWords (k.acc (j / 8))).getD (j % 8) 0) ∧
        (due.getMsbD 2 = true → ∀ j, j < 64 → (t.rd (g7 + 44 + j)).w = (vWords (k.vreg (j / 4))).getD (j % 4) 0) ∧
        (due.getMsbD 1 = true → bits (t.rd (g7 + 6)).w 32 35 = bits k.dsr 0 3 ∧ bit (t.rd (g7 + 7)).w 32 = bit k.dsr 4) ∧
        bit (t.rd (g7 + 5)).w 34 = (bit (s.rd (g7 + 5)).w 34 || due.getMsbD 1) ∧
        bit (t.rd (g7 + 5)).w 35 = (bit (s.rd (g7 + 5)).w 35 || due.getMsbD 2) ∧
        ∀ a, (a < g7 + 5 ∨ g7 + 108 ≤ a) → t.rd a = s.rd a)) ∧
  ∀ (s s1 : State) (n : Nat) (i : Ins), Issues s n i s1 →
    let k := s.core n
    let j := s1.core n
    (j.regs = k.regs ∧ j.psw = k.psw ∧ j.pc = k.pc ∧ j.npc = k.npc ∧ j.slot = k.slot ∧ j.shadow = k.shadow) ∧
    (j.c = k.c ∧ j.c0T = k.c0T ∧ j.c0H = k.c0H ∧ j.c0F = k.c0F ∧ j.c0E = k.c0E ∧ j.da = k.da ∧ j.v = k.v) ∧
    (j.fsr = k.fsr ∧ j.dsr = k.dsr ∧ j.lc = k.lc ∧ j.ls = k.ls ∧ j.le = k.le ∧ j.ib = k.ib ∧ j.db = k.db ∧ j.en = k.en ∧
      j.vfl = k.vfl ∧ j.esp = k.esp ∧ j.badins = k.badins ∧ j.cause = k.cause ∧ j.fq = k.fq) ∧
    (j.tlbIndex = k.tlbIndex ∧ j.tlbTag = k.tlbTag ∧ j.tlbData = k.tlbData ∧ j.kcIndex = k.kcIndex ∧ j.kcData = k.kcData ∧
      j.itlb = k.itlb ∧ j.dtlb = k.dtlb ∧ j.depth = k.depth ∧ j.tRing = k.tRing ∧ j.hRing = k.hRing ∧ j.serv = k.serv) ∧
    (j.prog = k.prog ∨ (i.ctl = true ∧ i.owner = false ∧ j.prog = 0)) ∧
    (∀ m, m ≠ n → (s1.core m).regs = (s.core m).regs ∧ (s1.core m).psw = (s.core m).psw ∧ (s1.core m).pc = (s.core m).pc ∧
      (s1.core m).run = (s.core m).run) ∧
    (s1.que = s.que ∧ s1.cel.ring = s.cel.ring ∧ s1.twin = s.twin ∧ s1.steep = s.steep ∧ s1.store = s.store) ∧
    (k.resting = false → s.swFrames = 0 → s.opened = [] → ∀ a, ((s1.rd a).tag = true → (s.rd a).tag = true) ∧
      (s1.rd a).w &&& ~~~(fld 6 7 3) = (s.rd a).w &&& ~~~(fld 6 7 3) ∧
      ((s.ktWritten = false ∨ a < s.ktAddr 0) → s1.rd a = s.rd a))

/-- 03 R62-R72, 10 R235: the frame of an instruction's completion: memory, every other core and every register stay; only PC,
NPC, the slot mark, the loop registers, TRACE's mark, the distances and RETIRED move, and of PSW only LOOPACT. -/
def Obligations.CompletionFrame : Prop :=
  ∀ (s : State) (n len : Nat) (flow : Flow),
    let k := s.core n
    let t := finish s n len flow
    let j := t.core n
    (t.dram = s.dram ∧ t.clear = s.clear ∧ t.opened = s.opened ∧ t.cel = s.cel ∧ t.que = s.que ∧ t.kiln = s.kiln ∧
      t.twin = s.twin ∧ t.steep = s.steep ∧ t.store = s.store) ∧
    (∀ m, m ≠ n → t.core m = s.core m) ∧
    (j.regs = k.regs ∧ j.c = k.c ∧ j.c0T = k.c0T ∧ j.c0H = k.c0H ∧ j.c0F = k.c0F ∧ j.c0E = k.c0E ∧ j.da = k.da ∧ j.v = k.v) ∧
    (j.fsr = k.fsr ∧ j.dsr = k.dsr ∧ j.prog = k.prog ∧ j.vfl = k.vfl ∧ j.esp = k.esp ∧ j.badins = k.badins ∧
      j.cause = k.cause ∧ j.fq = k.fq ∧ j.ib = k.ib ∧ j.ibHeld = k.ibHeld ∧ j.db = k.db ∧ j.en = k.en ∧ j.sb = k.sb) ∧
    (∀ b, b < 36 → b ≠ 24 → bit j.psw b = bit k.psw b) ∧ j.run = k.run ∧ j.wait = none ∧
    (∀ q o, o < 256 → (q ≠ n ∨ o ≠ 0o037) → t.preg q o = s.preg q o) ∧
    (n < 64 → t.preg n 0o037 = s.preg n 0o037 + 1)

/-- 01; 17 R424: no command that stands for an event of the manual stops the model: it answers a next state from every state.
What is wrong with one is answered by a rejection, a status or an exception, never by a stop. -/
def Obligations.WellFormedCommandsAreAnswered : Prop :=
  ∀ (c : Instr) (s : State), wellFormed c = true → Completes c s
end

