-- ==== Sys2Proof/Laws/Issue.lean ====
section
/-! SUPPORT. What issuing an instruction comes to: once it has passed its checks, the outcome of its body decides. -/

namespace Sys2Proof.Machine

theorem run_bind_ok {α β : Type} {m : M α} {f : α → M β} {s s' : State} {a : α} (h : m.run s = .ok a s') :
    (m >>= f).run s = (f a).run s' := by
  show EStateM.bind m f s = f a s'
  have h' : m s = .ok a s' := h
  simp [EStateM.bind, h']

theorem run_bind_error {α β : Type} {m : M α} {f : α → M β} {s s' : State} {e : Stop} (h : m.run s = .error e s') :
    (m >>= f).run s = .error e s' := by
  show EStateM.bind m f s = .error e s'
  have h' : m s = .error e s' := h
  simp [EStateM.bind, h']

/-- What it is to come to an instruction's checks, in parts. -/
theorem reached_iff {s v : State} {n : Nat} {i : Ins} :
    s.reached n i = some v ↔
      ((s.core n).run = .running ∧ s.canIssue n = true ∧ (s.noteLen n i.len).boundary n = none ∧
        ((s.noteLen n i.len).abandonPosting n).brkHit n = false ∧
        (i.flt && bit (((s.noteLen n i.len).abandonPosting n).core n).fsr 19) = false) ∧
        (s.noteLen n i.len).abandonPosting n = v := by
  unfold State.reached
  simp only [Option.isNone_iff_eq_none]
  constructor
  · intro h
    split at h
    · next hc => exact ⟨hc, Option.some.inj h⟩
    · cases h
  · rintro ⟨hc, hv⟩
    rw [if_pos hc, hv]

/-- What it is to come to one's own work, in parts. -/
theorem issues_iff {s s1 : State} {n : Nat} {i : Ins} :
    Issues s n i s1 ↔ ∃ v, s.reached n i = some v ∧ v.saved n i = true ∧ (prologue n i).run v = .ok () s1 := by
  unfold Issues State.issued
  constructor
  · intro h
    split at h
    · cases h
    · next v hv =>
      split at h
      · cases h
      · next hs =>
        refine ⟨v, hv, by simpa using hs, ?_⟩
        split at h
        · next he => rw [he]; simp only [Option.some.injEq] at h; rw [h]
        · cases h
  · rintro ⟨v, hv, hs, hp⟩
    simp [hv, hs, hp]

/-- A core that comes to its instruction's checks goes on with them. -/
theorem issue_reached {s v : State} {n : Nat} {i : Ins} (h : s.reached n i = some v) (body : M Flow) :
    s.issue n i body = v.conclude n i body := by
  obtain ⟨⟨hr, hc, hb, hk, hfl⟩, rfl⟩ := reached_iff.1 h
  have hw : s.wake n = some s := by simp [State.wake, hr]
  unfold State.issue
  rw [hw]
  simp only [hc, hb, hk, hfl, Bool.not_true, Bool.false_eq_true, if_false]

/-- A running core that may issue goes straight to its instruction. -/
theorem issue_body {s s1 : State} {n : Nat} {i : Ins} (h : Issues s n i s1) (body : M Flow) :
    s.issue n i body =
      match body.run s1 with
      | .ok flow s => (s.retire n i.len flow).endStep n
      | .error (.trap x) s => (s.takeTrap n x).endStep n
      | .error (.wait w) s =>
        if w.microPoint i.ctl then (s.modCore n fun k => { k with wait := some w }).endStep n
        else s.modCore n fun k => { k with wait := some w } := by
  obtain ⟨v, hv, hs, hp⟩ := issues_iff.1 h
  have hrun : runIns n i body v = body.run s1 := by
    unfold runIns
    unfold State.saved at hs
    simp only [hs, if_true]
    exact run_bind_ok hp
  rcases hb : body.run s1 with ⟨_, _⟩ | ⟨e, _⟩
  · simp only [issue_reached hv, State.conclude, hrun, hb]
  · cases e <;> simp only [issue_reached hv, State.conclude, hrun, hb]

/-- The body ends well: the instruction completes. -/
theorem issue_ok {s s1 s2 : State} {n : Nat} {i : Ins} {body : M Flow} {flow : Flow} (h : Issues s n i s1)
    (hb : body.run s1 = .ok flow s2) : s.issue n i body = finish s2 n i.len flow := by
  rw [issue_body h, hb, finish]

/-- The body raises: the exception is taken. -/
theorem issue_trap {s s1 s2 : State} {n : Nat} {i : Ins} {body : M Flow} {x : Exc} (h : Issues s n i s1)
    (hb : body.run s1 = .error (.trap x) s2) : s.issue n i body = trapped s2 n x := by
  rw [issue_body h, hb, trapped]

/-- The body waits at a point where nothing may interrupt: only the wait is noted. -/
theorem issue_wait {s s1 s2 : State} {n : Nat} {i : Ins} {body : M Flow} {w : Why} (h : Issues s n i s1)
    (hb : body.run s1 = .error (.wait w) s2) (hw : w.microPoint i.ctl = false) :
    s.issue n i body = s2.modCore n fun k => { k with wait := some w } := by
  rw [issue_body h, hb]
  simp [hw]

end Sys2Proof.Machine
end

