-- ==== Sys2Proof/Laws/Sparse.lean ====
section
/-! SUPPORT. The laws of the sparse tables: a read after a write, and that every operation keeps the canonical form. -/

namespace Sys2Proof.Machine

variable {α : Type}

@[simp] theorem tget_nil (d : α) (n : Nat) : tget d [] n = d := rfl

/-- A removed entry reads as the default. -/
theorem tget_tdel_same (d : α) (t : Tab α) (n : Nat) : tget d (tdel t n) n = d := by
  induction t with
  | nil => rfl
  | cons e t ih =>
    obtain ⟨k, v⟩ := e
    by_cases h : k = n <;> simp [tdel, tget, h, ih]

/-- Removing an entry leaves every other one. -/
theorem tget_tdel_other (d : α) (t : Tab α) {n m : Nat} (h : m ≠ n) : tget d (tdel t n) m = tget d t m := by
  induction t with
  | nil => rfl
  | cons e t ih =>
    obtain ⟨k, v⟩ := e
    by_cases hk : k = n
    · subst hk
      simp [tdel, tget, ih, Ne.symm h]
    · by_cases hm : k = m
      · subst hm
        simp [tdel, tget, hk]
      · simp [tdel, tget, hk, hm, ih]

theorem tget_tput_same (d : α) (t : Tab α) (n : Nat) (x : α) : tget d (tput t n x) n = x := by
  induction t with
  | nil => simp [tput, tget]
  | cons e t ih =>
    obtain ⟨k, v⟩ := e
    simp only [tput]
    split
    · simp [tget]
    · split
      · simp [tget]
      · have : k ≠ n := fun hk => absurd hk.symm (by assumption)
        simp [tget, this, ih]

theorem tget_tput_other (d : α) (t : Tab α) {n m : Nat} (x : α) (h : m ≠ n) : tget d (tput t n x) m = tget d t m := by
  induction t with
  | nil => simp [tput, tget, Ne.symm h]
  | cons e t ih =>
    obtain ⟨k, v⟩ := e
    simp only [tput]
    split
    · simp [tget, Ne.symm h]
    · split
      · subst k
        simp [tget, Ne.symm h]
      · by_cases hm : k = m <;> simp [tget, hm, ih]

variable [DecidableEq α]

/-- Reading the entry just written. -/
@[simp] theorem tget_tset_same (d : α) (t : Tab α) (n : Nat) (x : α) : tget d (tset d t n x) n = x := by
  unfold tset
  split
  · next h => rw [tget_tdel_same, h]
  · exact tget_tput_same d t n x

/-- A write leaves every other entry. -/
theorem tget_tset_other (d e : α) (t : Tab α) {n m : Nat} (x : α) (h : m ≠ n) :
    tget e (tset d t n x) m = tget e t m := by
  unfold tset
  split
  · exact tget_tdel_other e t h
  · exact tget_tput_other e t x h

/-- The keys of a list rise strictly from above b. -/
def risesFrom (b : Nat) : Tab α → Prop
  | [] => True
  | (k, _) :: t => b < k ∧ risesFrom k t

/-- The canonical form, said entry by entry. -/
theorem tabWf_cons_iff (d : α) (k : Nat) (v : α) (t : Tab α) :
    tabWf d ((k, v) :: t) = true ↔ v ≠ d ∧ risesFrom k t ∧ tabWf d t = true := by
  cases t with
  | nil => simp [tabWf, risesFrom]
  | cons e t =>
    obtain ⟨l, w⟩ := e
    constructor
    · intro h
      simp only [tabWf, Bool.and_eq_true, decide_eq_true_eq] at h
      refine ⟨h.1.1, ⟨h.1.2, ?_⟩, h.2⟩
      have := h.2
      clear h
      induction t generalizing l w with
      | nil => trivial
      | cons e t ih =>
        obtain ⟨m, x⟩ := e
        simp only [tabWf, Bool.and_eq_true, decide_eq_true_eq] at this
        exact ⟨this.1.2, ih m x this.2⟩
    · rintro ⟨h1, h2, h3⟩
      simp only [tabWf, Bool.and_eq_true, decide_eq_true_eq]
      exact ⟨⟨h1, h2.1⟩, h3⟩

omit [DecidableEq α] in
theorem risesFrom_mono {b c : Nat} (h : b ≤ c) : ∀ {t : Tab α}, risesFrom c t → risesFrom b t
  | [], _ => trivial
  | (_, _) :: _, ⟨h1, h2⟩ => ⟨by omega, h2⟩

omit [DecidableEq α] in
theorem risesFrom_tdel {b n : Nat} : ∀ {t : Tab α}, risesFrom b t → risesFrom b (tdel t n)
  | [], _ => trivial
  | (k, v) :: t, ⟨h1, h2⟩ => by
    by_cases hk : k = n
    · simp only [tdel, hk, if_true]
      exact risesFrom_mono (by omega) (risesFrom_tdel h2)
    · simp only [tdel, hk, if_false]
      exact ⟨h1, risesFrom_tdel h2⟩

omit [DecidableEq α] in
theorem risesFrom_tput {b n : Nat} (x : α) (hb : b < n) : ∀ {t : Tab α}, risesFrom b t → risesFrom b (tput t n x)
  | [], _ => ⟨hb, trivial⟩
  | (k, v) :: t, ⟨h1, h2⟩ => by
    simp only [tput]
    split
    · exact ⟨hb, by assumption, h2⟩
    · split
      · subst k
        exact ⟨hb, h2⟩
      · exact ⟨h1, risesFrom_tput x (by omega) h2⟩

/-- Removing an entry keeps the canonical form. -/
theorem tabWf_tdel (d : α) (n : Nat) : ∀ {t : Tab α}, tabWf d t = true → tabWf d (tdel t n) = true
  | [], h => h
  | (k, v) :: t, h => by
    have h' := (tabWf_cons_iff d k v t).1 h
    by_cases hk : k = n
    · simp only [tdel, hk, if_true]
      exact tabWf_tdel d n h'.2.2
    · simp only [tdel, hk, if_false]
      exact (tabWf_cons_iff d k v _).2 ⟨h'.1, risesFrom_tdel h'.2.1, tabWf_tdel d n h'.2.2⟩

/-- Putting an entry that is not the default keeps the canonical form. -/
theorem tabWf_tput (d : α) (n : Nat) {x : α} (hx : x ≠ d) :
    ∀ {t : Tab α}, tabWf d t = true → tabWf d (tput t n x) = true
  | [], _ => by simp [tput, tabWf, hx]
  | (k, v) :: t, h => by
    have h' := (tabWf_cons_iff d k v t).1 h
    simp only [tput]
    split
    · exact (tabWf_cons_iff d n x _).2 ⟨hx, ⟨by assumption, h'.2.1⟩, h⟩
    · split
      · subst k
        exact (tabWf_cons_iff d n x t).2 ⟨hx, h'.2.1, h'.2.2⟩
      · exact (tabWf_cons_iff d k v _).2 ⟨h'.1, risesFrom_tput x (by omega) h'.2.1, tabWf_tput d n hx h'.2.2⟩

/-- Every write keeps the canonical form. -/
theorem tabWf_tset (d : α) (n : Nat) (x : α) {t : Tab α} (h : tabWf d t = true) : tabWf d (tset d t n x) = true := by
  unfold tset
  split
  · exact tabWf_tdel d n h
  · next hx => exact tabWf_tput d n hx h

/-- Keeping only some entries keeps the canonical form. -/
theorem tabWf_filter (d : α) (p : Nat × α → Bool) : ∀ {t : Tab α}, tabWf d t = true → tabWf d (t.filter p) = true
  | [], h => h
  | (k, v) :: t, h => by
    have h' := (tabWf_cons_iff d k v t).1 h
    have hr : ∀ {b : Nat} {u : Tab α}, risesFrom b u → risesFrom b (u.filter p) := by
      intro b u
      induction u generalizing b with
      | nil => intro _; trivial
      | cons e u ih =>
        obtain ⟨l, w⟩ := e
        rintro ⟨h1, h2⟩
        by_cases hp : p (l, w) = true
        · simp only [List.filter_cons, hp, if_true]
          exact ⟨h1, ih h2⟩
        · simp only [List.filter_cons, hp]
          exact risesFrom_mono (by omega) (ih h2)
    by_cases hp : p (k, v) = true
    · simp only [List.filter_cons, hp, if_true]
      exact (tabWf_cons_iff d k v _).2 ⟨h'.1, hr h'.2.1, tabWf_filter d p h'.2.2⟩
    · simp only [List.filter_cons, hp]
      exact tabWf_filter d p h'.2.2

/-- A run of writes keeps the canonical form. -/
theorem tabWf_foldl {β : Type} (d : α) (f : Tab α → β → Tab α)
    (hf : ∀ t b, tabWf d t = true → tabWf d (f t b) = true) (bs : List β) :
    ∀ {t : Tab α}, tabWf d t = true → tabWf d (bs.foldl f t) = true := by
  induction bs with
  | nil => exact fun h => h
  | cons b bs ih => exact fun h => ih (hf _ b h)

/-! ### Cores -/

@[simp] theorem core_setCore_same (s : State) (n : Nat) (k : Core) : (s.setCore n k).core n = k := by
  simp [State.core, State.setCore]

theorem core_setCore_other (s : State) {n m : Nat} (k : Core) (h : m ≠ n) : (s.setCore n k).core m = s.core m := by
  simp [State.core, State.setCore, tget_tset_other _ _ _ _ h]

end Sys2Proof.Machine
end

