-- ==== Sys2Proof/Laws/State.lean ====
section
/-! SUPPORT. What each update of the state leaves alone, field by field, and what it puts in its own. -/

namespace Sys2Proof.Machine

/-! ### setCore -/

@[simp] theorem setCore_pending (s : State) (n : Nat) (k : Core) : (s.setCore n k).pending = s.pending := rfl
@[simp] theorem setCore_free (s : State) (n : Nat) (k : Core) : (s.setCore n k).free = s.free := rfl
@[simp] theorem setCore_dram (s : State) (n : Nat) (k : Core) : (s.setCore n k).dram = s.dram := rfl
@[simp] theorem setCore_clear (s : State) (n : Nat) (k : Core) : (s.setCore n k).clear = s.clear := rfl
@[simp] theorem setCore_opened (s : State) (n : Nat) (k : Core) : (s.setCore n k).opened = s.opened := rfl
@[simp] theorem setCore_kcache (s : State) (n : Nat) (k : Core) : (s.setCore n k).kcache = s.kcache := rfl
@[simp] theorem setCore_ktWritten (s : State) (n : Nat) (k : Core) : (s.setCore n k).ktWritten = s.ktWritten := rfl
@[simp] theorem setCore_installed (s : State) (n : Nat) (k : Core) : (s.setCore n k).installed = s.installed := rfl
@[simp] theorem setCore_spd (s : State) (n : Nat) (k : Core) : (s.setCore n k).spd = s.spd := rfl
@[simp] theorem setCore_pregs (s : State) (n : Nat) (k : Core) : (s.setCore n k).pregs = s.pregs := rfl
@[simp] theorem setCore_shadows (s : State) (n : Nat) (k : Core) : (s.setCore n k).shadows = s.shadows := rfl
@[simp] theorem setCore_staged (s : State) (n : Nat) (k : Core) : (s.setCore n k).staged = s.staged := rfl
@[simp] theorem setCore_stagedV (s : State) (n : Nat) (k : Core) : (s.setCore n k).stagedV = s.stagedV := rfl
@[simp] theorem setCore_cel (s : State) (n : Nat) (k : Core) : (s.setCore n k).cel = s.cel := rfl
@[simp] theorem setCore_mal (s : State) (n : Nat) (k : Core) : (s.setCore n k).mal = s.mal := rfl
@[simp] theorem setCore_que (s : State) (n : Nat) (k : Core) : (s.setCore n k).que = s.que := rfl
@[simp] theorem setCore_kiln (s : State) (n : Nat) (k : Core) : (s.setCore n k).kiln = s.kiln := rfl
@[simp] theorem setCore_ports (s : State) (n : Nat) (k : Core) : (s.setCore n k).ports = s.ports := rfl
@[simp] theorem setCore_tr (s : State) (n : Nat) (k : Core) : (s.setCore n k).tr = s.tr := rfl
@[simp] theorem setCore_twin (s : State) (n : Nat) (k : Core) : (s.setCore n k).twin = s.twin := rfl
@[simp] theorem setCore_steep (s : State) (n : Nat) (k : Core) : (s.setCore n k).steep = s.steep := rfl
@[simp] theorem setCore_store (s : State) (n : Nat) (k : Core) : (s.setCore n k).store = s.store := rfl
@[simp] theorem setCore_lgasp (s : State) (n : Nat) (k : Core) : (s.setCore n k).lgasp = s.lgasp := rfl
@[simp] theorem setCore_lgLast (s : State) (n : Nat) (k : Core) : (s.setCore n k).lgLast = s.lgLast := rfl
@[simp] theorem setCore_sys (s : State) (n : Nat) (k : Core) : (s.setCore n k).sys = s.sys := rfl
@[simp] theorem setCore_straps (s : State) (n : Nat) (k : Core) : (s.setCore n k).straps = s.straps := rfl
@[simp] theorem setCore_svStarted (s : State) (n : Nat) (k : Core) : (s.setCore n k).svStarted = s.svStarted := rfl
@[simp] theorem setCore_warmPend (s : State) (n : Nat) (k : Core) : (s.setCore n k).warmPend = s.warmPend := rfl
@[simp] theorem setCore_pins (s : State) (n : Nat) (k : Core) : (s.setCore n k).pins = s.pins := rfl
@[simp] theorem setCore_mgmt (s : State) (n : Nat) (k : Core) : (s.setCore n k).mgmt = s.mgmt := rfl
@[simp] theorem setCore_pwr (s : State) (n : Nat) (k : Core) : (s.setCore n k).pwr = s.pwr := rfl
@[simp] theorem setCore_msix (s : State) (n : Nat) (k : Core) : (s.setCore n k).msix = s.msix := rfl
@[simp] theorem setCore_msixTab (s : State) (n : Nat) (k : Core) : (s.setCore n k).msixTab = s.msixTab := rfl
@[simp] theorem setCore_hostOut (s : State) (n : Nat) (k : Core) : (s.setCore n k).hostOut = s.hostOut := rfl
@[simp] theorem setCore_dmaOut (s : State) (n : Nat) (k : Core) : (s.setCore n k).dmaOut = s.dmaOut := rfl

/-! ### modCore -/

@[simp] theorem modCore_pending (s : State) (n : Nat) (f : Core → Core) : (s.modCore n f).pending = s.pending := rfl
@[simp] theorem modCore_free (s : State) (n : Nat) (f : Core → Core) : (s.modCore n f).free = s.free := rfl
@[simp] theorem modCore_dram (s : State) (n : Nat) (f : Core → Core) : (s.modCore n f).dram = s.dram := rfl
@[simp] theorem modCore_clear (s : State) (n : Nat) (f : Core → Core) : (s.modCore n f).clear = s.clear := rfl
@[simp] theorem modCore_opened (s : State) (n : Nat) (f : Core → Core) : (s.modCore n f).opened = s.opened := rfl
@[simp] theorem modCore_kcache (s : State) (n : Nat) (f : Core → Core) : (s.modCore n f).kcache = s.kcache := rfl
@[simp] theorem modCore_ktWritten (s : State) (n : Nat) (f : Core → Core) : (s.modCore n f).ktWritten = s.ktWritten := rfl
@[simp] theorem modCore_installed (s : State) (n : Nat) (f : Core → Core) : (s.modCore n f).installed = s.installed := rfl
@[simp] theorem modCore_spd (s : State) (n : Nat) (f : Core → Core) : (s.modCore n f).spd = s.spd := rfl
@[simp] theorem modCore_pregs (s : State) (n : Nat) (f : Core → Core) : (s.modCore n f).pregs = s.pregs := rfl
@[simp] theorem modCore_shadows (s : State) (n : Nat) (f : Core → Core) : (s.modCore n f).shadows = s.shadows := rfl
@[simp] theorem modCore_staged (s : State) (n : Nat) (f : Core → Core) : (s.modCore n f).staged = s.staged := rfl
@[simp] theorem modCore_stagedV (s : State) (n : Nat) (f : Core → Core) : (s.modCore n f).stagedV = s.stagedV := rfl
@[simp] theorem modCore_cel (s : State) (n : Nat) (f : Core → Core) : (s.modCore n f).cel = s.cel := rfl
@[simp] theorem modCore_mal (s : State) (n : Nat) (f : Core → Core) : (s.modCore n f).mal = s.mal := rfl
@[simp] theorem modCore_que (s : State) (n : Nat) (f : Core → Core) : (s.modCore n f).que = s.que := rfl
@[simp] theorem modCore_kiln (s : State) (n : Nat) (f : Core → Core) : (s.modCore n f).kiln = s.kiln := rfl
@[simp] theorem modCore_ports (s : State) (n : Nat) (f : Core → Core) : (s.modCore n f).ports = s.ports := rfl
@[simp] theorem modCore_tr (s : State) (n : Nat) (f : Core → Core) : (s.modCore n f).tr = s.tr := rfl
@[simp] theorem modCore_twin (s : State) (n : Nat) (f : Core → Core) : (s.modCore n f).twin = s.twin := rfl
@[simp] theorem modCore_steep (s : State) (n : Nat) (f : Core → Core) : (s.modCore n f).steep = s.steep := rfl
@[simp] theorem modCore_store (s : State) (n : Nat) (f : Core → Core) : (s.modCore n f).store = s.store := rfl
@[simp] theorem modCore_lgasp (s : State) (n : Nat) (f : Core → Core) : (s.modCore n f).lgasp = s.lgasp := rfl
@[simp] theorem modCore_lgLast (s : State) (n : Nat) (f : Core → Core) : (s.modCore n f).lgLast = s.lgLast := rfl
@[simp] theorem modCore_sys (s : State) (n : Nat) (f : Core → Core) : (s.modCore n f).sys = s.sys := rfl
@[simp] theorem modCore_straps (s : State) (n : Nat) (f : Core → Core) : (s.modCore n f).straps = s.straps := rfl
@[simp] theorem modCore_svStarted (s : State) (n : Nat) (f : Core → Core) : (s.modCore n f).svStarted = s.svStarted := rfl
@[simp] theorem modCore_warmPend (s : State) (n : Nat) (f : Core → Core) : (s.modCore n f).warmPend = s.warmPend := rfl
@[simp] theorem modCore_pins (s : State) (n : Nat) (f : Core → Core) : (s.modCore n f).pins = s.pins := rfl
@[simp] theorem modCore_mgmt (s : State) (n : Nat) (f : Core → Core) : (s.modCore n f).mgmt = s.mgmt := rfl
@[simp] theorem modCore_pwr (s : State) (n : Nat) (f : Core → Core) : (s.modCore n f).pwr = s.pwr := rfl
@[simp] theorem modCore_msix (s : State) (n : Nat) (f : Core → Core) : (s.modCore n f).msix = s.msix := rfl
@[simp] theorem modCore_msixTab (s : State) (n : Nat) (f : Core → Core) : (s.modCore n f).msixTab = s.msixTab := rfl
@[simp] theorem modCore_hostOut (s : State) (n : Nat) (f : Core → Core) : (s.modCore n f).hostOut = s.hostOut := rfl
@[simp] theorem modCore_dmaOut (s : State) (n : Nat) (f : Core → Core) : (s.modCore n f).dmaOut = s.dmaOut := rfl

/-! ### setPreg -/

@[simp] theorem setPreg_pending (s : State) (p o : Nat) (w : Word) : (s.setPreg p o w).pending = s.pending := rfl
@[simp] theorem setPreg_free (s : State) (p o : Nat) (w : Word) : (s.setPreg p o w).free = s.free := rfl
@[simp] theorem setPreg_cores (s : State) (p o : Nat) (w : Word) : (s.setPreg p o w).cores = s.cores := rfl
@[simp] theorem setPreg_dram (s : State) (p o : Nat) (w : Word) : (s.setPreg p o w).dram = s.dram := rfl
@[simp] theorem setPreg_clear (s : State) (p o : Nat) (w : Word) : (s.setPreg p o w).clear = s.clear := rfl
@[simp] theorem setPreg_opened (s : State) (p o : Nat) (w : Word) : (s.setPreg p o w).opened = s.opened := rfl
@[simp] theorem setPreg_kcache (s : State) (p o : Nat) (w : Word) : (s.setPreg p o w).kcache = s.kcache := rfl
@[simp] theorem setPreg_ktWritten (s : State) (p o : Nat) (w : Word) : (s.setPreg p o w).ktWritten = s.ktWritten := rfl
@[simp] theorem setPreg_installed (s : State) (p o : Nat) (w : Word) : (s.setPreg p o w).installed = s.installed := rfl
@[simp] theorem setPreg_spd (s : State) (p o : Nat) (w : Word) : (s.setPreg p o w).spd = s.spd := rfl
@[simp] theorem setPreg_shadows (s : State) (p o : Nat) (w : Word) : (s.setPreg p o w).shadows = s.shadows := rfl
@[simp] theorem setPreg_staged (s : State) (p o : Nat) (w : Word) : (s.setPreg p o w).staged = s.staged := rfl
@[simp] theorem setPreg_stagedV (s : State) (p o : Nat) (w : Word) : (s.setPreg p o w).stagedV = s.stagedV := rfl
@[simp] theorem setPreg_cel (s : State) (p o : Nat) (w : Word) : (s.setPreg p o w).cel = s.cel := rfl
@[simp] theorem setPreg_mal (s : State) (p o : Nat) (w : Word) : (s.setPreg p o w).mal = s.mal := rfl
@[simp] theorem setPreg_que (s : State) (p o : Nat) (w : Word) : (s.setPreg p o w).que = s.que := rfl
@[simp] theorem setPreg_kiln (s : State) (p o : Nat) (w : Word) : (s.setPreg p o w).kiln = s.kiln := rfl
@[simp] theorem setPreg_ports (s : State) (p o : Nat) (w : Word) : (s.setPreg p o w).ports = s.ports := rfl
@[simp] theorem setPreg_tr (s : State) (p o : Nat) (w : Word) : (s.setPreg p o w).tr = s.tr := rfl
@[simp] theorem setPreg_twin (s : State) (p o : Nat) (w : Word) : (s.setPreg p o w).twin = s.twin := rfl
@[simp] theorem setPreg_steep (s : State) (p o : Nat) (w : Word) : (s.setPreg p o w).steep = s.steep := rfl
@[simp] theorem setPreg_store (s : State) (p o : Nat) (w : Word) : (s.setPreg p o w).store = s.store := rfl
@[simp] theorem setPreg_lgasp (s : State) (p o : Nat) (w : Word) : (s.setPreg p o w).lgasp = s.lgasp := rfl
@[simp] theorem setPreg_lgLast (s : State) (p o : Nat) (w : Word) : (s.setPreg p o w).lgLast = s.lgLast := rfl
@[simp] theorem setPreg_sys (s : State) (p o : Nat) (w : Word) : (s.setPreg p o w).sys = s.sys := rfl
@[simp] theorem setPreg_straps (s : State) (p o : Nat) (w : Word) : (s.setPreg p o w).straps = s.straps := rfl
@[simp] theorem setPreg_svStarted (s : State) (p o : Nat) (w : Word) : (s.setPreg p o w).svStarted = s.svStarted := rfl
@[simp] theorem setPreg_warmPend (s : State) (p o : Nat) (w : Word) : (s.setPreg p o w).warmPend = s.warmPend := rfl
@[simp] theorem setPreg_pins (s : State) (p o : Nat) (w : Word) : (s.setPreg p o w).pins = s.pins := rfl
@[simp] theorem setPreg_mgmt (s : State) (p o : Nat) (w : Word) : (s.setPreg p o w).mgmt = s.mgmt := rfl
@[simp] theorem setPreg_pwr (s : State) (p o : Nat) (w : Word) : (s.setPreg p o w).pwr = s.pwr := rfl
@[simp] theorem setPreg_msix (s : State) (p o : Nat) (w : Word) : (s.setPreg p o w).msix = s.msix := rfl
@[simp] theorem setPreg_msixTab (s : State) (p o : Nat) (w : Word) : (s.setPreg p o w).msixTab = s.msixTab := rfl
@[simp] theorem setPreg_hostOut (s : State) (p o : Nat) (w : Word) : (s.setPreg p o w).hostOut = s.hostOut := rfl
@[simp] theorem setPreg_dmaOut (s : State) (p o : Nat) (w : Word) : (s.setPreg p o w).dmaOut = s.dmaOut := rfl

/-! ### setShadow -/

@[simp] theorem setShadow_pending (s : State) (p o : Nat) (w : Word) : (s.setShadow p o w).pending = s.pending := rfl
@[simp] theorem setShadow_free (s : State) (p o : Nat) (w : Word) : (s.setShadow p o w).free = s.free := rfl
@[simp] theorem setShadow_cores (s : State) (p o : Nat) (w : Word) : (s.setShadow p o w).cores = s.cores := rfl
@[simp] theorem setShadow_dram (s : State) (p o : Nat) (w : Word) : (s.setShadow p o w).dram = s.dram := rfl
@[simp] theorem setShadow_clear (s : State) (p o : Nat) (w : Word) : (s.setShadow p o w).clear = s.clear := rfl
@[simp] theorem setShadow_opened (s : State) (p o : Nat) (w : Word) : (s.setShadow p o w).opened = s.opened := rfl
@[simp] theorem setShadow_kcache (s : State) (p o : Nat) (w : Word) : (s.setShadow p o w).kcache = s.kcache := rfl
@[simp] theorem setShadow_ktWritten (s : State) (p o : Nat) (w : Word) : (s.setShadow p o w).ktWritten = s.ktWritten := rfl
@[simp] theorem setShadow_installed (s : State) (p o : Nat) (w : Word) : (s.setShadow p o w).installed = s.installed := rfl
@[simp] theorem setShadow_spd (s : State) (p o : Nat) (w : Word) : (s.setShadow p o w).spd = s.spd := rfl
@[simp] theorem setShadow_pregs (s : State) (p o : Nat) (w : Word) : (s.setShadow p o w).pregs = s.pregs := rfl
@[simp] theorem setShadow_staged (s : State) (p o : Nat) (w : Word) : (s.setShadow p o w).staged = s.staged := rfl
@[simp] theorem setShadow_stagedV (s : State) (p o : Nat) (w : Word) : (s.setShadow p o w).stagedV = s.stagedV := rfl
@[simp] theorem setShadow_cel (s : State) (p o : Nat) (w : Word) : (s.setShadow p o w).cel = s.cel := rfl
@[simp] theorem setShadow_mal (s : State) (p o : Nat) (w : Word) : (s.setShadow p o w).mal = s.mal := rfl
@[simp] theorem setShadow_que (s : State) (p o : Nat) (w : Word) : (s.setShadow p o w).que = s.que := rfl
@[simp] theorem setShadow_kiln (s : State) (p o : Nat) (w : Word) : (s.setShadow p o w).kiln = s.kiln := rfl
@[simp] theorem setShadow_ports (s : State) (p o : Nat) (w : Word) : (s.setShadow p o w).ports = s.ports := rfl
@[simp] theorem setShadow_tr (s : State) (p o : Nat) (w : Word) : (s.setShadow p o w).tr = s.tr := rfl
@[simp] theorem setShadow_twin (s : State) (p o : Nat) (w : Word) : (s.setShadow p o w).twin = s.twin := rfl
@[simp] theorem setShadow_steep (s : State) (p o : Nat) (w : Word) : (s.setShadow p o w).steep = s.steep := rfl
@[simp] theorem setShadow_store (s : State) (p o : Nat) (w : Word) : (s.setShadow p o w).store = s.store := rfl
@[simp] theorem setShadow_lgasp (s : State) (p o : Nat) (w : Word) : (s.setShadow p o w).lgasp = s.lgasp := rfl
@[simp] theorem setShadow_lgLast (s : State) (p o : Nat) (w : Word) : (s.setShadow p o w).lgLast = s.lgLast := rfl
@[simp] theorem setShadow_sys (s : State) (p o : Nat) (w : Word) : (s.setShadow p o w).sys = s.sys := rfl
@[simp] theorem setShadow_straps (s : State) (p o : Nat) (w : Word) : (s.setShadow p o w).straps = s.straps := rfl
@[simp] theorem setShadow_svStarted (s : State) (p o : Nat) (w : Word) : (s.setShadow p o w).svStarted = s.svStarted := rfl
@[simp] theorem setShadow_warmPend (s : State) (p o : Nat) (w : Word) : (s.setShadow p o w).warmPend = s.warmPend := rfl
@[simp] theorem setShadow_pins (s : State) (p o : Nat) (w : Word) : (s.setShadow p o w).pins = s.pins := rfl
@[simp] theorem setShadow_mgmt (s : State) (p o : Nat) (w : Word) : (s.setShadow p o w).mgmt = s.mgmt := rfl
@[simp] theorem setShadow_pwr (s : State) (p o : Nat) (w : Word) : (s.setShadow p o w).pwr = s.pwr := rfl
@[simp] theorem setShadow_msix (s : State) (p o : Nat) (w : Word) : (s.setShadow p o w).msix = s.msix := rfl
@[simp] theorem setShadow_msixTab (s : State) (p o : Nat) (w : Word) : (s.setShadow p o w).msixTab = s.msixTab := rfl
@[simp] theorem setShadow_hostOut (s : State) (p o : Nat) (w : Word) : (s.setShadow p o w).hostOut = s.hostOut := rfl
@[simp] theorem setShadow_dmaOut (s : State) (p o : Nat) (w : Word) : (s.setShadow p o w).dmaOut = s.dmaOut := rfl

/-! ### modCel -/

@[simp] theorem modCel_pending (s : State) (f : Cellar → Cellar) : (s.modCel f).pending = s.pending := rfl
@[simp] theorem modCel_free (s : State) (f : Cellar → Cellar) : (s.modCel f).free = s.free := rfl
@[simp] theorem modCel_cores (s : State) (f : Cellar → Cellar) : (s.modCel f).cores = s.cores := rfl
@[simp] theorem modCel_dram (s : State) (f : Cellar → Cellar) : (s.modCel f).dram = s.dram := rfl
@[simp] theorem modCel_clear (s : State) (f : Cellar → Cellar) : (s.modCel f).clear = s.clear := rfl
@[simp] theorem modCel_opened (s : State) (f : Cellar → Cellar) : (s.modCel f).opened = s.opened := rfl
@[simp] theorem modCel_kcache (s : State) (f : Cellar → Cellar) : (s.modCel f).kcache = s.kcache := rfl
@[simp] theorem modCel_ktWritten (s : State) (f : Cellar → Cellar) : (s.modCel f).ktWritten = s.ktWritten := rfl
@[simp] theorem modCel_installed (s : State) (f : Cellar → Cellar) : (s.modCel f).installed = s.installed := rfl
@[simp] theorem modCel_spd (s : State) (f : Cellar → Cellar) : (s.modCel f).spd = s.spd := rfl
@[simp] theorem modCel_pregs (s : State) (f : Cellar → Cellar) : (s.modCel f).pregs = s.pregs := rfl
@[simp] theorem modCel_shadows (s : State) (f : Cellar → Cellar) : (s.modCel f).shadows = s.shadows := rfl
@[simp] theorem modCel_staged (s : State) (f : Cellar → Cellar) : (s.modCel f).staged = s.staged := rfl
@[simp] theorem modCel_stagedV (s : State) (f : Cellar → Cellar) : (s.modCel f).stagedV = s.stagedV := rfl
@[simp] theorem modCel_mal (s : State) (f : Cellar → Cellar) : (s.modCel f).mal = s.mal := rfl
@[simp] theorem modCel_que (s : State) (f : Cellar → Cellar) : (s.modCel f).que = s.que := rfl
@[simp] theorem modCel_kiln (s : State) (f : Cellar → Cellar) : (s.modCel f).kiln = s.kiln := rfl
@[simp] theorem modCel_ports (s : State) (f : Cellar → Cellar) : (s.modCel f).ports = s.ports := rfl
@[simp] theorem modCel_tr (s : State) (f : Cellar → Cellar) : (s.modCel f).tr = s.tr := rfl
@[simp] theorem modCel_twin (s : State) (f : Cellar → Cellar) : (s.modCel f).twin = s.twin := rfl
@[simp] theorem modCel_steep (s : State) (f : Cellar → Cellar) : (s.modCel f).steep = s.steep := rfl
@[simp] theorem modCel_store (s : State) (f : Cellar → Cellar) : (s.modCel f).store = s.store := rfl
@[simp] theorem modCel_lgasp (s : State) (f : Cellar → Cellar) : (s.modCel f).lgasp = s.lgasp := rfl
@[simp] theorem modCel_lgLast (s : State) (f : Cellar → Cellar) : (s.modCel f).lgLast = s.lgLast := rfl
@[simp] theorem modCel_sys (s : State) (f : Cellar → Cellar) : (s.modCel f).sys = s.sys := rfl
@[simp] theorem modCel_straps (s : State) (f : Cellar → Cellar) : (s.modCel f).straps = s.straps := rfl
@[simp] theorem modCel_svStarted (s : State) (f : Cellar → Cellar) : (s.modCel f).svStarted = s.svStarted := rfl
@[simp] theorem modCel_warmPend (s : State) (f : Cellar → Cellar) : (s.modCel f).warmPend = s.warmPend := rfl
@[simp] theorem modCel_pins (s : State) (f : Cellar → Cellar) : (s.modCel f).pins = s.pins := rfl
@[simp] theorem modCel_mgmt (s : State) (f : Cellar → Cellar) : (s.modCel f).mgmt = s.mgmt := rfl
@[simp] theorem modCel_pwr (s : State) (f : Cellar → Cellar) : (s.modCel f).pwr = s.pwr := rfl
@[simp] theorem modCel_msix (s : State) (f : Cellar → Cellar) : (s.modCel f).msix = s.msix := rfl
@[simp] theorem modCel_msixTab (s : State) (f : Cellar → Cellar) : (s.modCel f).msixTab = s.msixTab := rfl
@[simp] theorem modCel_hostOut (s : State) (f : Cellar → Cellar) : (s.modCel f).hostOut = s.hostOut := rfl
@[simp] theorem modCel_dmaOut (s : State) (f : Cellar → Cellar) : (s.modCel f).dmaOut = s.dmaOut := rfl

/-! ### setQueue -/

@[simp] theorem setQueue_pending (s : State) (q : Nat) (c : QCtx) : (s.setQueue q c).pending = s.pending := rfl
@[simp] theorem setQueue_free (s : State) (q : Nat) (c : QCtx) : (s.setQueue q c).free = s.free := rfl
@[simp] theorem setQueue_cores (s : State) (q : Nat) (c : QCtx) : (s.setQueue q c).cores = s.cores := rfl
@[simp] theorem setQueue_dram (s : State) (q : Nat) (c : QCtx) : (s.setQueue q c).dram = s.dram := rfl
@[simp] theorem setQueue_clear (s : State) (q : Nat) (c : QCtx) : (s.setQueue q c).clear = s.clear := rfl
@[simp] theorem setQueue_opened (s : State) (q : Nat) (c : QCtx) : (s.setQueue q c).opened = s.opened := rfl
@[simp] theorem setQueue_kcache (s : State) (q : Nat) (c : QCtx) : (s.setQueue q c).kcache = s.kcache := rfl
@[simp] theorem setQueue_ktWritten (s : State) (q : Nat) (c : QCtx) : (s.setQueue q c).ktWritten = s.ktWritten := rfl
@[simp] theorem setQueue_installed (s : State) (q : Nat) (c : QCtx) : (s.setQueue q c).installed = s.installed := rfl
@[simp] theorem setQueue_spd (s : State) (q : Nat) (c : QCtx) : (s.setQueue q c).spd = s.spd := rfl
@[simp] theorem setQueue_pregs (s : State) (q : Nat) (c : QCtx) : (s.setQueue q c).pregs = s.pregs := rfl
@[simp] theorem setQueue_shadows (s : State) (q : Nat) (c : QCtx) : (s.setQueue q c).shadows = s.shadows := rfl
@[simp] theorem setQueue_staged (s : State) (q : Nat) (c : QCtx) : (s.setQueue q c).staged = s.staged := rfl
@[simp] theorem setQueue_stagedV (s : State) (q : Nat) (c : QCtx) : (s.setQueue q c).stagedV = s.stagedV := rfl
@[simp] theorem setQueue_cel (s : State) (q : Nat) (c : QCtx) : (s.setQueue q c).cel = s.cel := rfl
@[simp] theorem setQueue_mal (s : State) (q : Nat) (c : QCtx) : (s.setQueue q c).mal = s.mal := rfl
@[simp] theorem setQueue_kiln (s : State) (q : Nat) (c : QCtx) : (s.setQueue q c).kiln = s.kiln := rfl
@[simp] theorem setQueue_ports (s : State) (q : Nat) (c : QCtx) : (s.setQueue q c).ports = s.ports := rfl
@[simp] theorem setQueue_tr (s : State) (q : Nat) (c : QCtx) : (s.setQueue q c).tr = s.tr := rfl
@[simp] theorem setQueue_twin (s : State) (q : Nat) (c : QCtx) : (s.setQueue q c).twin = s.twin := rfl
@[simp] theorem setQueue_steep (s : State) (q : Nat) (c : QCtx) : (s.setQueue q c).steep = s.steep := rfl
@[simp] theorem setQueue_store (s : State) (q : Nat) (c : QCtx) : (s.setQueue q c).store = s.store := rfl
@[simp] theorem setQueue_lgasp (s : State) (q : Nat) (c : QCtx) : (s.setQueue q c).lgasp = s.lgasp := rfl
@[simp] theorem setQueue_lgLast (s : State) (q : Nat) (c : QCtx) : (s.setQueue q c).lgLast = s.lgLast := rfl
@[simp] theorem setQueue_sys (s : State) (q : Nat) (c : QCtx) : (s.setQueue q c).sys = s.sys := rfl
@[simp] theorem setQueue_straps (s : State) (q : Nat) (c : QCtx) : (s.setQueue q c).straps = s.straps := rfl
@[simp] theorem setQueue_svStarted (s : State) (q : Nat) (c : QCtx) : (s.setQueue q c).svStarted = s.svStarted := rfl
@[simp] theorem setQueue_warmPend (s : State) (q : Nat) (c : QCtx) : (s.setQueue q c).warmPend = s.warmPend := rfl
@[simp] theorem setQueue_pins (s : State) (q : Nat) (c : QCtx) : (s.setQueue q c).pins = s.pins := rfl
@[simp] theorem setQueue_mgmt (s : State) (q : Nat) (c : QCtx) : (s.setQueue q c).mgmt = s.mgmt := rfl
@[simp] theorem setQueue_pwr (s : State) (q : Nat) (c : QCtx) : (s.setQueue q c).pwr = s.pwr := rfl
@[simp] theorem setQueue_msix (s : State) (q : Nat) (c : QCtx) : (s.setQueue q c).msix = s.msix := rfl
@[simp] theorem setQueue_msixTab (s : State) (q : Nat) (c : QCtx) : (s.setQueue q c).msixTab = s.msixTab := rfl
@[simp] theorem setQueue_hostOut (s : State) (q : Nat) (c : QCtx) : (s.setQueue q c).hostOut = s.hostOut := rfl
@[simp] theorem setQueue_dmaOut (s : State) (q : Nat) (c : QCtx) : (s.setQueue q c).dmaOut = s.dmaOut := rfl

/-! ### setPort -/

@[simp] theorem setPort_pending (s : State) (p : Nat) (x : Port) : (s.setPort p x).pending = s.pending := rfl
@[simp] theorem setPort_free (s : State) (p : Nat) (x : Port) : (s.setPort p x).free = s.free := rfl
@[simp] theorem setPort_cores (s : State) (p : Nat) (x : Port) : (s.setPort p x).cores = s.cores := rfl
@[simp] theorem setPort_dram (s : State) (p : Nat) (x : Port) : (s.setPort p x).dram = s.dram := rfl
@[simp] theorem setPort_clear (s : State) (p : Nat) (x : Port) : (s.setPort p x).clear = s.clear := rfl
@[simp] theorem setPort_opened (s : State) (p : Nat) (x : Port) : (s.setPort p x).opened = s.opened := rfl
@[simp] theorem setPort_kcache (s : State) (p : Nat) (x : Port) : (s.setPort p x).kcache = s.kcache := rfl
@[simp] theorem setPort_ktWritten (s : State) (p : Nat) (x : Port) : (s.setPort p x).ktWritten = s.ktWritten := rfl
@[simp] theorem setPort_installed (s : State) (p : Nat) (x : Port) : (s.setPort p x).installed = s.installed := rfl
@[simp] theorem setPort_spd (s : State) (p : Nat) (x : Port) : (s.setPort p x).spd = s.spd := rfl
@[simp] theorem setPort_pregs (s : State) (p : Nat) (x : Port) : (s.setPort p x).pregs = s.pregs := rfl
@[simp] theorem setPort_shadows (s : State) (p : Nat) (x : Port) : (s.setPort p x).shadows = s.shadows := rfl
@[simp] theorem setPort_staged (s : State) (p : Nat) (x : Port) : (s.setPort p x).staged = s.staged := rfl
@[simp] theorem setPort_stagedV (s : State) (p : Nat) (x : Port) : (s.setPort p x).stagedV = s.stagedV := rfl
@[simp] theorem setPort_cel (s : State) (p : Nat) (x : Port) : (s.setPort p x).cel = s.cel := rfl
@[simp] theorem setPort_mal (s : State) (p : Nat) (x : Port) : (s.setPort p x).mal = s.mal := rfl
@[simp] theorem setPort_que (s : State) (p : Nat) (x : Port) : (s.setPort p x).que = s.que := rfl
@[simp] theorem setPort_kiln (s : State) (p : Nat) (x : Port) : (s.setPort p x).kiln = s.kiln := rfl
@[simp] theorem setPort_tr (s : State) (p : Nat) (x : Port) : (s.setPort p x).tr = s.tr := rfl
@[simp] theorem setPort_twin (s : State) (p : Nat) (x : Port) : (s.setPort p x).twin = s.twin := rfl
@[simp] theorem setPort_steep (s : State) (p : Nat) (x : Port) : (s.setPort p x).steep = s.steep := rfl
@[simp] theorem setPort_store (s : State) (p : Nat) (x : Port) : (s.setPort p x).store = s.store := rfl
@[simp] theorem setPort_lgasp (s : State) (p : Nat) (x : Port) : (s.setPort p x).lgasp = s.lgasp := rfl
@[simp] theorem setPort_lgLast (s : State) (p : Nat) (x : Port) : (s.setPort p x).lgLast = s.lgLast := rfl
@[simp] theorem setPort_sys (s : State) (p : Nat) (x : Port) : (s.setPort p x).sys = s.sys := rfl
@[simp] theorem setPort_straps (s : State) (p : Nat) (x : Port) : (s.setPort p x).straps = s.straps := rfl
@[simp] theorem setPort_svStarted (s : State) (p : Nat) (x : Port) : (s.setPort p x).svStarted = s.svStarted := rfl
@[simp] theorem setPort_warmPend (s : State) (p : Nat) (x : Port) : (s.setPort p x).warmPend = s.warmPend := rfl
@[simp] theorem setPort_pins (s : State) (p : Nat) (x : Port) : (s.setPort p x).pins = s.pins := rfl
@[simp] theorem setPort_mgmt (s : State) (p : Nat) (x : Port) : (s.setPort p x).mgmt = s.mgmt := rfl
@[simp] theorem setPort_pwr (s : State) (p : Nat) (x : Port) : (s.setPort p x).pwr = s.pwr := rfl
@[simp] theorem setPort_msix (s : State) (p : Nat) (x : Port) : (s.setPort p x).msix = s.msix := rfl
@[simp] theorem setPort_msixTab (s : State) (p : Nat) (x : Port) : (s.setPort p x).msixTab = s.msixTab := rfl
@[simp] theorem setPort_hostOut (s : State) (p : Nat) (x : Port) : (s.setPort p x).hostOut = s.hostOut := rfl
@[simp] theorem setPort_dmaOut (s : State) (p : Nat) (x : Port) : (s.setPort p x).dmaOut = s.dmaOut := rfl

/-! ### modTwin -/

@[simp] theorem modTwin_pending (s : State) (f : Twin → Twin) : (s.modTwin f).pending = s.pending := rfl
@[simp] theorem modTwin_free (s : State) (f : Twin → Twin) : (s.modTwin f).free = s.free := rfl
@[simp] theorem modTwin_cores (s : State) (f : Twin → Twin) : (s.modTwin f).cores = s.cores := rfl
@[simp] theorem modTwin_dram (s : State) (f : Twin → Twin) : (s.modTwin f).dram = s.dram := rfl
@[simp] theorem modTwin_clear (s : State) (f : Twin → Twin) : (s.modTwin f).clear = s.clear := rfl
@[simp] theorem modTwin_opened (s : State) (f : Twin → Twin) : (s.modTwin f).opened = s.opened := rfl
@[simp] theorem modTwin_kcache (s : State) (f : Twin → Twin) : (s.modTwin f).kcache = s.kcache := rfl
@[simp] theorem modTwin_ktWritten (s : State) (f : Twin → Twin) : (s.modTwin f).ktWritten = s.ktWritten := rfl
@[simp] theorem modTwin_installed (s : State) (f : Twin → Twin) : (s.modTwin f).installed = s.installed := rfl
@[simp] theorem modTwin_spd (s : State) (f : Twin → Twin) : (s.modTwin f).spd = s.spd := rfl
@[simp] theorem modTwin_pregs (s : State) (f : Twin → Twin) : (s.modTwin f).pregs = s.pregs := rfl
@[simp] theorem modTwin_shadows (s : State) (f : Twin → Twin) : (s.modTwin f).shadows = s.shadows := rfl
@[simp] theorem modTwin_staged (s : State) (f : Twin → Twin) : (s.modTwin f).staged = s.staged := rfl
@[simp] theorem modTwin_stagedV (s : State) (f : Twin → Twin) : (s.modTwin f).stagedV = s.stagedV := rfl
@[simp] theorem modTwin_cel (s : State) (f : Twin → Twin) : (s.modTwin f).cel = s.cel := rfl
@[simp] theorem modTwin_mal (s : State) (f : Twin → Twin) : (s.modTwin f).mal = s.mal := rfl
@[simp] theorem modTwin_que (s : State) (f : Twin → Twin) : (s.modTwin f).que = s.que := rfl
@[simp] theorem modTwin_kiln (s : State) (f : Twin → Twin) : (s.modTwin f).kiln = s.kiln := rfl
@[simp] theorem modTwin_ports (s : State) (f : Twin → Twin) : (s.modTwin f).ports = s.ports := rfl
@[simp] theorem modTwin_tr (s : State) (f : Twin → Twin) : (s.modTwin f).tr = s.tr := rfl
@[simp] theorem modTwin_steep (s : State) (f : Twin → Twin) : (s.modTwin f).steep = s.steep := rfl
@[simp] theorem modTwin_store (s : State) (f : Twin → Twin) : (s.modTwin f).store = s.store := rfl
@[simp] theorem modTwin_lgasp (s : State) (f : Twin → Twin) : (s.modTwin f).lgasp = s.lgasp := rfl
@[simp] theorem modTwin_lgLast (s : State) (f : Twin → Twin) : (s.modTwin f).lgLast = s.lgLast := rfl
@[simp] theorem modTwin_sys (s : State) (f : Twin → Twin) : (s.modTwin f).sys = s.sys := rfl
@[simp] theorem modTwin_straps (s : State) (f : Twin → Twin) : (s.modTwin f).straps = s.straps := rfl
@[simp] theorem modTwin_svStarted (s : State) (f : Twin → Twin) : (s.modTwin f).svStarted = s.svStarted := rfl
@[simp] theorem modTwin_warmPend (s : State) (f : Twin → Twin) : (s.modTwin f).warmPend = s.warmPend := rfl
@[simp] theorem modTwin_pins (s : State) (f : Twin → Twin) : (s.modTwin f).pins = s.pins := rfl
@[simp] theorem modTwin_mgmt (s : State) (f : Twin → Twin) : (s.modTwin f).mgmt = s.mgmt := rfl
@[simp] theorem modTwin_pwr (s : State) (f : Twin → Twin) : (s.modTwin f).pwr = s.pwr := rfl
@[simp] theorem modTwin_msix (s : State) (f : Twin → Twin) : (s.modTwin f).msix = s.msix := rfl
@[simp] theorem modTwin_msixTab (s : State) (f : Twin → Twin) : (s.modTwin f).msixTab = s.msixTab := rfl
@[simp] theorem modTwin_hostOut (s : State) (f : Twin → Twin) : (s.modTwin f).hostOut = s.hostOut := rfl
@[simp] theorem modTwin_dmaOut (s : State) (f : Twin → Twin) : (s.modTwin f).dmaOut = s.dmaOut := rfl

/-! ### modSteep -/

@[simp] theorem modSteep_pending (s : State) (f : Steep → Steep) : (s.modSteep f).pending = s.pending := rfl
@[simp] theorem modSteep_free (s : State) (f : Steep → Steep) : (s.modSteep f).free = s.free := rfl
@[simp] theorem modSteep_cores (s : State) (f : Steep → Steep) : (s.modSteep f).cores = s.cores := rfl
@[simp] theorem modSteep_dram (s : State) (f : Steep → Steep) : (s.modSteep f).dram = s.dram := rfl
@[simp] theorem modSteep_clear (s : State) (f : Steep → Steep) : (s.modSteep f).clear = s.clear := rfl
@[simp] theorem modSteep_opened (s : State) (f : Steep → Steep) : (s.modSteep f).opened = s.opened := rfl
@[simp] theorem modSteep_kcache (s : State) (f : Steep → Steep) : (s.modSteep f).kcache = s.kcache := rfl
@[simp] theorem modSteep_ktWritten (s : State) (f : Steep → Steep) : (s.modSteep f).ktWritten = s.ktWritten := rfl
@[simp] theorem modSteep_installed (s : State) (f : Steep → Steep) : (s.modSteep f).installed = s.installed := rfl
@[simp] theorem modSteep_spd (s : State) (f : Steep → Steep) : (s.modSteep f).spd = s.spd := rfl
@[simp] theorem modSteep_pregs (s : State) (f : Steep → Steep) : (s.modSteep f).pregs = s.pregs := rfl
@[simp] theorem modSteep_shadows (s : State) (f : Steep → Steep) : (s.modSteep f).shadows = s.shadows := rfl
@[simp] theorem modSteep_staged (s : State) (f : Steep → Steep) : (s.modSteep f).staged = s.staged := rfl
@[simp] theorem modSteep_stagedV (s : State) (f : Steep → Steep) : (s.modSteep f).stagedV = s.stagedV := rfl
@[simp] theorem modSteep_cel (s : State) (f : Steep → Steep) : (s.modSteep f).cel = s.cel := rfl
@[simp] theorem modSteep_mal (s : State) (f : Steep → Steep) : (s.modSteep f).mal = s.mal := rfl
@[simp] theorem modSteep_que (s : State) (f : Steep → Steep) : (s.modSteep f).que = s.que := rfl
@[simp] theorem modSteep_kiln (s : State) (f : Steep → Steep) : (s.modSteep f).kiln = s.kiln := rfl
@[simp] theorem modSteep_ports (s : State) (f : Steep → Steep) : (s.modSteep f).ports = s.ports := rfl
@[simp] theorem modSteep_tr (s : State) (f : Steep → Steep) : (s.modSteep f).tr = s.tr := rfl
@[simp] theorem modSteep_twin (s : State) (f : Steep → Steep) : (s.modSteep f).twin = s.twin := rfl
@[simp] theorem modSteep_store (s : State) (f : Steep → Steep) : (s.modSteep f).store = s.store := rfl
@[simp] theorem modSteep_lgasp (s : State) (f : Steep → Steep) : (s.modSteep f).lgasp = s.lgasp := rfl
@[simp] theorem modSteep_lgLast (s : State) (f : Steep → Steep) : (s.modSteep f).lgLast = s.lgLast := rfl
@[simp] theorem modSteep_sys (s : State) (f : Steep → Steep) : (s.modSteep f).sys = s.sys := rfl
@[simp] theorem modSteep_straps (s : State) (f : Steep → Steep) : (s.modSteep f).straps = s.straps := rfl
@[simp] theorem modSteep_svStarted (s : State) (f : Steep → Steep) : (s.modSteep f).svStarted = s.svStarted := rfl
@[simp] theorem modSteep_warmPend (s : State) (f : Steep → Steep) : (s.modSteep f).warmPend = s.warmPend := rfl
@[simp] theorem modSteep_pins (s : State) (f : Steep → Steep) : (s.modSteep f).pins = s.pins := rfl
@[simp] theorem modSteep_mgmt (s : State) (f : Steep → Steep) : (s.modSteep f).mgmt = s.mgmt := rfl
@[simp] theorem modSteep_pwr (s : State) (f : Steep → Steep) : (s.modSteep f).pwr = s.pwr := rfl
@[simp] theorem modSteep_msix (s : State) (f : Steep → Steep) : (s.modSteep f).msix = s.msix := rfl
@[simp] theorem modSteep_msixTab (s : State) (f : Steep → Steep) : (s.modSteep f).msixTab = s.msixTab := rfl
@[simp] theorem modSteep_hostOut (s : State) (f : Steep → Steep) : (s.modSteep f).hostOut = s.hostOut := rfl
@[simp] theorem modSteep_dmaOut (s : State) (f : Steep → Steep) : (s.modSteep f).dmaOut = s.dmaOut := rfl

/-! ### modMgmt -/

@[simp] theorem modMgmt_pending (s : State) (f : Mgmt → Mgmt) : (s.modMgmt f).pending = s.pending := rfl
@[simp] theorem modMgmt_free (s : State) (f : Mgmt → Mgmt) : (s.modMgmt f).free = s.free := rfl
@[simp] theorem modMgmt_cores (s : State) (f : Mgmt → Mgmt) : (s.modMgmt f).cores = s.cores := rfl
@[simp] theorem modMgmt_dram (s : State) (f : Mgmt → Mgmt) : (s.modMgmt f).dram = s.dram := rfl
@[simp] theorem modMgmt_clear (s : State) (f : Mgmt → Mgmt) : (s.modMgmt f).clear = s.clear := rfl
@[simp] theorem modMgmt_opened (s : State) (f : Mgmt → Mgmt) : (s.modMgmt f).opened = s.opened := rfl
@[simp] theorem modMgmt_kcache (s : State) (f : Mgmt → Mgmt) : (s.modMgmt f).kcache = s.kcache := rfl
@[simp] theorem modMgmt_ktWritten (s : State) (f : Mgmt → Mgmt) : (s.modMgmt f).ktWritten = s.ktWritten := rfl
@[simp] theorem modMgmt_installed (s : State) (f : Mgmt → Mgmt) : (s.modMgmt f).installed = s.installed := rfl
@[simp] theorem modMgmt_spd (s : State) (f : Mgmt → Mgmt) : (s.modMgmt f).spd = s.spd := rfl
@[simp] theorem modMgmt_pregs (s : State) (f : Mgmt → Mgmt) : (s.modMgmt f).pregs = s.pregs := rfl
@[simp] theorem modMgmt_shadows (s : State) (f : Mgmt → Mgmt) : (s.modMgmt f).shadows = s.shadows := rfl
@[simp] theorem modMgmt_staged (s : State) (f : Mgmt → Mgmt) : (s.modMgmt f).staged = s.staged := rfl
@[simp] theorem modMgmt_stagedV (s : State) (f : Mgmt → Mgmt) : (s.modMgmt f).stagedV = s.stagedV := rfl
@[simp] theorem modMgmt_cel (s : State) (f : Mgmt → Mgmt) : (s.modMgmt f).cel = s.cel := rfl
@[simp] theorem modMgmt_mal (s : State) (f : Mgmt → Mgmt) : (s.modMgmt f).mal = s.mal := rfl
@[simp] theorem modMgmt_que (s : State) (f : Mgmt → Mgmt) : (s.modMgmt f).que = s.que := rfl
@[simp] theorem modMgmt_kiln (s : State) (f : Mgmt → Mgmt) : (s.modMgmt f).kiln = s.kiln := rfl
@[simp] theorem modMgmt_ports (s : State) (f : Mgmt → Mgmt) : (s.modMgmt f).ports = s.ports := rfl
@[simp] theorem modMgmt_tr (s : State) (f : Mgmt → Mgmt) : (s.modMgmt f).tr = s.tr := rfl
@[simp] theorem modMgmt_twin (s : State) (f : Mgmt → Mgmt) : (s.modMgmt f).twin = s.twin := rfl
@[simp] theorem modMgmt_steep (s : State) (f : Mgmt → Mgmt) : (s.modMgmt f).steep = s.steep := rfl
@[simp] theorem modMgmt_store (s : State) (f : Mgmt → Mgmt) : (s.modMgmt f).store = s.store := rfl
@[simp] theorem modMgmt_lgasp (s : State) (f : Mgmt → Mgmt) : (s.modMgmt f).lgasp = s.lgasp := rfl
@[simp] theorem modMgmt_lgLast (s : State) (f : Mgmt → Mgmt) : (s.modMgmt f).lgLast = s.lgLast := rfl
@[simp] theorem modMgmt_sys (s : State) (f : Mgmt → Mgmt) : (s.modMgmt f).sys = s.sys := rfl
@[simp] theorem modMgmt_straps (s : State) (f : Mgmt → Mgmt) : (s.modMgmt f).straps = s.straps := rfl
@[simp] theorem modMgmt_svStarted (s : State) (f : Mgmt → Mgmt) : (s.modMgmt f).svStarted = s.svStarted := rfl
@[simp] theorem modMgmt_warmPend (s : State) (f : Mgmt → Mgmt) : (s.modMgmt f).warmPend = s.warmPend := rfl
@[simp] theorem modMgmt_pins (s : State) (f : Mgmt → Mgmt) : (s.modMgmt f).pins = s.pins := rfl
@[simp] theorem modMgmt_pwr (s : State) (f : Mgmt → Mgmt) : (s.modMgmt f).pwr = s.pwr := rfl
@[simp] theorem modMgmt_msix (s : State) (f : Mgmt → Mgmt) : (s.modMgmt f).msix = s.msix := rfl
@[simp] theorem modMgmt_msixTab (s : State) (f : Mgmt → Mgmt) : (s.modMgmt f).msixTab = s.msixTab := rfl
@[simp] theorem modMgmt_hostOut (s : State) (f : Mgmt → Mgmt) : (s.modMgmt f).hostOut = s.hostOut := rfl
@[simp] theorem modMgmt_dmaOut (s : State) (f : Mgmt → Mgmt) : (s.modMgmt f).dmaOut = s.dmaOut := rfl

/-! ### Reading back -/

@[simp] theorem modCel_cel (s : State) (f : Cellar → Cellar) : (s.modCel f).cel = f s.cel := rfl
@[simp] theorem modTwin_twin (s : State) (f : Twin → Twin) : (s.modTwin f).twin = f s.twin := rfl
@[simp] theorem modSteep_steep (s : State) (f : Steep → Steep) : (s.modSteep f).steep = f s.steep := rfl
@[simp] theorem modMgmt_mgmt (s : State) (f : Mgmt → Mgmt) : (s.modMgmt f).mgmt = f s.mgmt := rfl

@[simp] theorem core_modCore_same (s : State) (n : Nat) (f : Core → Core) : (s.modCore n f).core n = f (s.core n) := by
  simp [State.modCore]

theorem core_modCore_other (s : State) {n m : Nat} (f : Core → Core) (h : m ≠ n) : (s.modCore n f).core m = s.core m := by
  simp [State.modCore, core_setCore_other _ _ h]

@[simp] theorem core_setPreg (s : State) (p o n : Nat) (w : Word) : (s.setPreg p o w).core n = s.core n := rfl
@[simp] theorem core_setQueue (s : State) (q n : Nat) (c : QCtx) : (s.setQueue q c).core n = s.core n := rfl
@[simp] theorem core_modCel (s : State) (f : Cellar → Cellar) (n : Nat) : (s.modCel f).core n = s.core n := rfl
@[simp] theorem core_modTwin (s : State) (f : Twin → Twin) (n : Nat) : (s.modTwin f).core n = s.core n := rfl
@[simp] theorem core_modSteep (s : State) (f : Steep → Steep) (n : Nat) : (s.modSteep f).core n = s.core n := rfl

@[simp] theorem preg_setPreg_same (s : State) (p o : Nat) (w : Word) : (s.setPreg p o w).preg p o = w := by
  simp [State.preg, State.setPreg]

theorem preg_setPreg_other (s : State) {p o q u : Nat} (w : Word) (h : q * 256 + u ≠ p * 256 + o) :
    (s.setPreg p o w).preg q u = s.preg q u := by
  simp [State.preg, State.setPreg, tget_tset_other _ _ _ _ h]

@[simp] theorem preg_setCore (s : State) (n p o : Nat) (k : Core) : (s.setCore n k).preg p o = s.preg p o := rfl
@[simp] theorem preg_modCore (s : State) (n p o : Nat) (f : Core → Core) : (s.modCore n f).preg p o = s.preg p o := rfl
@[simp] theorem preg_modCel (s : State) (f : Cellar → Cellar) (p o : Nat) : (s.modCel f).preg p o = s.preg p o := rfl
@[simp] theorem preg_setQueue (s : State) (q p o : Nat) (c : QCtx) : (s.setQueue q c).preg p o = s.preg p o := rfl
@[simp] theorem preg_modTwin (s : State) (f : Twin → Twin) (p o : Nat) : (s.modTwin f).preg p o = s.preg p o := rfl
@[simp] theorem preg_modSteep (s : State) (f : Steep → Steep) (p o : Nat) : (s.modSteep f).preg p o = s.preg p o := rfl

@[simp] theorem queue_setQueue_same (s : State) (q : Nat) (c : QCtx) : (s.setQueue q c).queue q = c := by
  simp [State.queue, State.setQueue]

theorem queue_setQueue_other (s : State) {q r : Nat} (c : QCtx) (h : r ≠ q) : (s.setQueue q c).queue r = s.queue r := by
  simp [State.queue, State.setQueue, tget_tset_other _ _ _ _ h]

@[simp] theorem port_setPort_same (s : State) (p : Nat) (x : Port) : (s.setPort p x).port p = x := by
  simp [State.port, State.setPort]

theorem port_setPort_other (s : State) {p q : Nat} (x : Port) (h : q ≠ p) : (s.setPort p x).port q = s.port q := by
  simp [State.port, State.setPort, tget_tset_other _ _ _ _ h]

/-- A read of a memory word depends on the two memory tables alone. -/
theorem rd_congr {s t : State} (hd : t.dram = s.dram) (hc : t.clear = s.clear) (ho : t.opened = s.opened) (a : Nat) :
    t.rd a = s.rd a := by
  simp [State.rd, hd, hc, ho]

@[simp] theorem rd_setCore (s : State) (n : Nat) (k : Core) (a : Nat) : (s.setCore n k).rd a = s.rd a := rfl
@[simp] theorem rd_modCore (s : State) (n : Nat) (f : Core → Core) (a : Nat) : (s.modCore n f).rd a = s.rd a := rfl
@[simp] theorem rd_setPreg (s : State) (p o : Nat) (w : Word) (a : Nat) : (s.setPreg p o w).rd a = s.rd a := rfl

end Sys2Proof.Machine
end

