-- ==== Sys2Proof/Laws/Memory.lean ====
section
/-! SUPPORT. The laws of memory: a read after a write, and that every memory operation keeps the canonical form of the
memories (log entry 2). -/

namespace Sys2Proof.Machine

/-! ### A word read after a write -/

/-- Marking lines dirty opens and closes none. -/
theorem opened_any_mark (l : List (Nat × Bool)) (m n : Nat) :
    (l.map fun e => if e.1 == m then (e.1, true) else e).any (fun e => e.1 == n) = l.any fun e => e.1 == n := by
  induction l with
  | nil => rfl
  | cons e l ih =>
    simp only [List.map_cons, List.any_cons, ih]
    split <;> rfl

/-- A word reads as what was last written there. -/
@[simp] theorem rd_wr_same (s : State) (pa : Nat) (c : Cell) : (s.wr pa c).rd pa = c := by
  unfold State.wr
  split
  · next h => rw [State.rd, opened_any_mark, if_pos h, tget_tset_same]
  · next h => rw [State.rd, if_neg h, tget_tset_same]

/-- A write leaves every other word. -/
theorem rd_wr_other (s : State) {pa a : Nat} (c : Cell) (h : a ≠ pa) : (s.wr pa c).rd a = s.rd a := by
  unfold State.wr
  split
  · rw [State.rd, opened_any_mark, tget_tset_other _ _ _ _ h, State.rd]
  · rw [State.rd, tget_tset_other _ _ _ _ h, State.rd]

/-! ### The form, table by table -/

theorem memWf_iff (s : State) : s.memWf = true ↔
    tabWf Cell.zero s.dram = true ∧ tabWf Cell.zero s.clear = true ∧ tabWf 0 s.cel.ring = true ∧ tabWf 0 s.store = true := by
  simp [State.memWf, and_assoc]

/-- Two states hold the same memories. -/
def State.sameMem (s t : State) : Prop :=
  t.dram = s.dram ∧ t.clear = s.clear ∧ t.cel.ring = s.cel.ring ∧ t.store = s.store

theorem sameMem_refl (s : State) : s.sameMem s := ⟨rfl, rfl, rfl, rfl⟩

theorem sameMem_trans {s t u : State} (h : s.sameMem t) (g : t.sameMem u) : s.sameMem u :=
  ⟨g.1.trans h.1, g.2.1.trans h.2.1, g.2.2.1.trans h.2.2.1, g.2.2.2.trans h.2.2.2⟩

/-- The form rests on the memories alone. -/
theorem memWf_of_same {s t : State} (h : s.sameMem t) (hs : s.memWf = true) : t.memWf = true := by
  obtain ⟨h1, h2, h3, h4⟩ := h
  rw [memWf_iff] at hs ⊢
  rw [h1, h2, h3, h4]
  exact hs

/-- A run of changes, each of which keeps the form, keeps it. -/
theorem memWf_foldl {β : Type} (f : State → β → State) (hf : ∀ (s : State) (b : β), s.memWf = true → (f s b).memWf = true)
    (bs : List β) : ∀ {s : State}, s.memWf = true → (bs.foldl f s).memWf = true := by
  induction bs with
  | nil => exact fun h => h
  | cons b bs ih => exact fun h => ih (hf _ b h)

/-- A run of changes that leave the memories leaves them. -/
theorem sameMem_foldl {β : Type} (f : State → β → State) (hf : ∀ (s : State) (b : β), s.sameMem (f s b)) (bs : List β) :
    ∀ s : State, s.sameMem (bs.foldl f s) := by
  induction bs with
  | nil => exact sameMem_refl
  | cons b bs ih => exact fun s => sameMem_trans (hf s b) (ih _)

/-! ### What leaves the memories alone -/

theorem sameMem_modCore (s : State) (n : Nat) (f : Core → Core) : s.sameMem (s.modCore n f) := ⟨rfl, rfl, rfl, rfl⟩
theorem sameMem_setPreg (s : State) (p o : Nat) (w : Word) : s.sameMem (s.setPreg p o w) := ⟨rfl, rfl, rfl, rfl⟩
theorem sameMem_setPregF (s : State) (p o a b v : Nat) : s.sameMem (s.setPregF p o a b v) := ⟨rfl, rfl, rfl, rfl⟩
theorem sameMem_bump (s : State) (p o n : Nat) : s.sameMem (s.bump p o n) := ⟨rfl, rfl, rfl, rfl⟩
theorem sameMem_orPreg (s : State) (p o : Nat) (w : Word) : s.sameMem (s.orPreg p o w) := ⟨rfl, rfl, rfl, rfl⟩
theorem sameMem_pendInt (s : State) (n v : Nat) : s.sameMem (s.pendInt n v) := sameMem_modCore s n _

theorem sameMem_log (s : State) (k x y z : Nat) : s.sameMem (s.log k x y z) := by
  unfold State.log
  exact sameMem_trans (sameMem_trans (sameMem_trans (sameMem_setPreg _ _ _ _) (sameMem_setPreg _ _ _ _)) (sameMem_bump _ _ _ _))
    (sameMem_orPreg _ _ _ _)

theorem sameMem_mcheck (s : State) (n c d : Nat) : s.sameMem (s.mcheck n c d) := by
  unfold State.mcheck
  dsimp only
  refine sameMem_trans ?_ (sameMem_modCore _ _ _)
  split
  · exact sameMem_trans (sameMem_log _ _ _ _ _) (sameMem_bump _ _ _ _)
  · exact sameMem_log _ _ _ _ _

theorem sameMem_engineUe (s : State) (src : Nat) : s.sameMem (s.engineUe src) :=
  sameMem_trans (sameMem_mcheck _ _ _ _) (sameMem_bump _ _ _ _)

theorem sameMem_storeLost (s : State) (n : Nat) : s.sameMem (s.storeLost n) :=
  sameMem_trans (sameMem_trans (sameMem_log _ _ _ _ _) (sameMem_bump _ _ _ _)) (sameMem_mcheck _ _ _ _)

theorem sameMem_kev (s : State) (b : Nat) : s.sameMem (s.kev b) := by
  unfold State.kev
  dsimp only
  split
  · exact sameMem_trans (sameMem_orPreg _ _ _ _) (sameMem_pendInt _ _ _)
  · exact sameMem_orPreg _ _ _ _

theorem sameMem_needRefresh (s : State) (g : Nat) : s.sameMem (s.needRefresh g) := by
  unfold State.needRefresh
  split
  · exact sameMem_refl _
  · exact sameMem_trans ⟨rfl, rfl, rfl, rfl⟩ (sameMem_kev _ _)

theorem sameMem_countLine (s : State) (n f : Nat) : s.sameMem (s.countLine n f) := by
  unfold State.countLine
  dsimp only
  repeat' split
  all_goals exact ⟨rfl, rfl, rfl, rfl⟩

theorem sameMem_wakeDram (s : State) (pa : Nat) : s.sameMem (s.wakeDram pa) := by
  unfold State.wakeDram
  dsimp only
  split <;> exact ⟨rfl, rfl, rfl, rfl⟩

theorem sameMem_invalidate (s : State) (n line : Nat) : s.sameMem (s.invalidate n line) := by
  unfold State.invalidate
  refine sameMem_foldl _ (fun s b => ?_) _ _
  split <;> exact ⟨rfl, rfl, rfl, rfl⟩

/-! ### Words and strings of DRAM -/

theorem memWf_wr {s : State} (pa : Nat) (c : Cell) (h : s.memWf = true) : (s.wr pa c).memWf = true := by
  rw [memWf_iff] at h
  unfold State.wr
  split <;> rw [memWf_iff]
  · exact ⟨h.1, tabWf_tset _ _ _ h.2.1, h.2.2⟩
  · exact ⟨tabWf_tset _ _ _ h.1, h.2⟩

theorem memWf_setRawW {s : State} (pa : Nat) (w : Word) (h : s.memWf = true) : (s.setRawW pa w).memWf = true := by
  rw [memWf_iff] at h ⊢
  exact ⟨tabWf_tset _ _ _ h.1, h.2⟩

theorem memWf_strSet {s : State} (base start len v : Nat) (h : s.memWf = true) : (s.strSet base start len v).memWf = true :=
  memWf_foldl _ (fun _ _ h => memWf_setRawW _ _ h) _ h

/-! ### Sealed lines and the counter tree -/

theorem memWf_macFail {s : State} (h : s.memWf = true) : s.macFail.memWf = true := memWf_of_same (sameMem_bump _ _ _ _) h

theorem memWf_writeG {s : State} (n : GNode) (h : s.memWf = true) : (s.writeG n).memWf = true := by
  unfold State.writeG
  dsimp only
  split
  · exact memWf_of_same (sameMem_needRefresh _ _) h
  · exact memWf_foldl _ (fun _ _ h => memWf_setRawW _ _ h) _
      (memWf_strSet _ _ _ _ (memWf_strSet _ _ _ _ (memWf_foldl _ (fun _ _ h => memWf_strSet _ _ _ _ h) _
        (show State.memWf _ = true from h))))

theorem memWf_roomG {s : State} (g : Nat) (h : s.memWf = true) : (s.roomG g).memWf = true := by
  unfold State.roomG
  split
  · exact h
  · split
    · dsimp only
      split
      · exact memWf_writeG _ (show State.memWf _ = true from h)
      · exact h
    · exact h

theorem memWf_fetchG {s t : State} (g : Nat) (h : s.memWf = true) (ht : s.fetchG g = some t) : t.memWf = true := by
  unfold State.fetchG at ht
  split at ht
  · cases ht; exact h
  · dsimp only at ht
    split at ht
    · simp only [Option.some.injEq] at ht
      subst ht
      exact memWf_roomG g h
    · cases ht

theorem memWf_writeF {s : State} (n : FNode) (h : s.memWf = true) : (s.writeF n).memWf = true := by
  have put : ∀ (u : State) (g k c : Nat), u.memWf = true →
      (match u.gnode g with
        | some gn => u.putG { gn with fctrs := tset 0 gn.fctrs k c, dirty := true }
        | none => u).memWf = true := by
    intro u g k c hu
    split <;> exact hu
  unfold State.writeF
  split
  · exact memWf_of_same (sameMem_engineUe _ _) (memWf_macFail h)
  · next hg =>
    have h1 := memWf_fetchG _ h hg
    dsimp only
    split
    · exact memWf_of_same (sameMem_needRefresh _ _) h1
    · exact memWf_strSet _ _ _ _ (memWf_strSet _ _ _ _ (memWf_strSet _ _ _ _ (put _ _ _ _ h1)))

theorem memWf_roomF {s : State} (f : Nat) (h : s.memWf = true) : (s.roomF f).memWf = true := by
  unfold State.roomF
  split
  · exact h
  · split
    · dsimp only
      split
      · exact memWf_writeF _ (show State.memWf _ = true from h)
      · exact h
    · exact h

theorem memWf_fetchF {s t : State} (f : Nat) (h : s.memWf = true) (ht : s.fetchF f = some t) : t.memWf = true := by
  unfold State.fetchF at ht
  split at ht
  · cases ht
  · next hg =>
    have h1 := memWf_fetchG _ h hg
    split at ht
    · cases ht; exact h1
    · dsimp only at ht
      split at ht
      · simp only [Option.some.injEq] at ht
        subst ht
        exact memWf_roomF f h1
      · cases ht

/-- The states that the opening of a sealed line may answer keep the form. -/
theorem memWf_kilnOpen {s t : State} (line sl : Nat) (h : s.memWf = true)
    (ht : s.kilnOpen line sl = .opened t ∨ s.kilnOpen line sl = .checkFailed t) : t.memWf = true := by
  unfold State.kilnOpen at ht
  dsimp only at ht
  split at ht
  · rcases ht with ht | ht <;> cases ht
  · split at ht
    · rcases ht with ht | ht <;> cases ht
      exact h
    · next hf =>
      have h1 := memWf_fetchF _ h hf
      split at ht
      · rcases ht with ht | ht <;> cases ht
        rw [memWf_iff] at h1 ⊢
        exact ⟨h1.1, tabWf_foldl _ _ (fun _ _ ht => tabWf_tset _ _ _ ht) _ h1.2.1, h1.2.2⟩
      · rcases ht with ht | ht <;> cases ht
        exact h1

theorem memWf_remac {s : State} (f j sl : Nat) (h : s.memWf = true) : (s.remac f j sl).memWf = true := memWf_strSet _ _ _ _ h

theorem memWf_clearMins {s : State} (f : Nat) (h : s.memWf = true) : (s.clearMins f).memWf = true :=
  memWf_foldl _ (fun _ _ h => memWf_strSet _ _ _ _ h) _ h

theorem memWf_zeroMins {s : State} (f m : Nat) (h : s.memWf = true) : (s.zeroMins f m).memWf = true :=
  memWf_clearMins f (show State.memWf _ = true from memWf_roomF f h)

theorem memWf_advanceMin {s t : State} (f j sl : Nat) (h : s.memWf = true) (ht : s.advanceMin f j sl = some t) :
    t.memWf = true := by
  unfold State.advanceMin at ht
  dsimp only at ht
  split at ht
  · cases ht; exact memWf_strSet _ _ _ _ h
  · split at ht
    · cases ht; exact memWf_strSet _ _ _ _ (memWf_foldl _ (fun _ _ h => memWf_remac _ _ _ h) _ (memWf_zeroMins _ _ h))
    · cases ht

theorem memWf_dropOpen {s : State} (line : Nat) (h : s.memWf = true) : (s.dropOpen line).memWf = true := by
  rw [memWf_iff] at h ⊢
  exact ⟨h.1, tabWf_filter _ _ h.2.1, h.2.2⟩

theorem memWf_discardLine {s : State} (line sl : Nat) (h : s.memWf = true) : (s.discardLine line sl).memWf = true := by
  unfold State.discardLine
  exact memWf_of_same (sameMem_trans (sameMem_trans (sameMem_kev _ _) (sameMem_log _ _ _ _ _)) (sameMem_bump _ _ _ _))
    (memWf_dropOpen line h)

theorem memWf_sealLine {s : State} (line sl : Nat) (cells : List Cell) (h : s.memWf = true) :
    (s.sealLine line sl cells).memWf = true := by
  unfold State.sealLine
  refine memWf_remac _ _ _ ?_
  rw [memWf_iff] at h
  split <;> exact (memWf_iff _).2 ⟨tabWf_foldl _ _ (fun _ _ ht => tabWf_tset _ _ _ ht) _ h.1, h.2⟩

theorem memWf_takeOpen {s : State} (line : Nat) (d : Bool) (h : s.memWf = true) : (s.takeOpen line d).memWf = true := by
  unfold State.takeOpen
  split
  · exact h
  · rw [memWf_iff] at h ⊢
    exact ⟨h.1, tabWf_foldl _ _ (fun _ _ ht => tabWf_tset _ _ _ ht) _ h.2.1, h.2.2⟩

theorem memWf_kilnWrite {s : State} (line : Nat) (keep : Bool) (h : s.memWf = true) :
    (s.kilnWrite line keep).memWf = true := by
  have done : ∀ (u : State) (sl : Nat) (cells : List Cell), u.memWf = true →
      ((if keep = true then u.cleanOpen line else u.dropOpen line).sealLine line sl cells).memWf = true := by
    intro u sl cells hu
    refine memWf_sealLine _ _ _ ?_
    split
    · exact hu
    · exact memWf_dropOpen _ hu
  unfold State.kilnWrite
  split
  · exact h
  · split
    · exact h
    · exact memWf_dropOpen _ h
  · dsimp only
    split
    · exact memWf_foldl _ (fun _ _ h => memWf_wr _ _ h) _ (memWf_dropOpen _ h)
    · split
      · exact memWf_discardLine _ _ h
      · split
        · exact memWf_discardLine _ _ (memWf_of_same (sameMem_engineUe _ _) (memWf_macFail h))
        · next hf =>
          have h1 := memWf_fetchF _ h hf
          split
          · exact memWf_of_same (sameMem_needRefresh _ _) h1
          · next ha => exact done _ _ _ (memWf_advanceMin _ _ _ h1 ha)

theorem memWf_kilnClose {s : State} (line : Nat) (h : s.memWf = true) : (s.kilnClose line).memWf = true :=
  memWf_kilnWrite line false h

theorem memWf_openFor {s : State} {b : Bool} {t : State} (pa sl : Nat) (h : s.memWf = true)
    (ht : s.openFor pa sl = some (b, t)) : t.memWf = true := by
  unfold State.openFor at ht
  split at ht
  · simp only [Option.some.injEq, Prod.mk.injEq] at ht
    exact ht.2 ▸ h
  · split at ht
    · simp only [Option.some.injEq, Prod.mk.injEq] at ht
      exact ht.2 ▸ memWf_takeOpen _ _ h
    · split at ht
      · next ho =>
        simp only [Option.some.injEq, Prod.mk.injEq] at ht
        exact ht.2 ▸ memWf_kilnOpen _ _ h (.inl ho)
      · cases ht
      · next ho =>
        simp only [Option.some.injEq, Prod.mk.injEq] at ht
        exact ht.2 ▸ memWf_kilnOpen _ _ h (.inr ho)

/-! ### Key records -/

theorem memWf_kcWriteBack {s : State} (f : Nat) (kr : Word) (h : s.memWf = true) : (s.kcWriteBack f kr).memWf = true := by
  unfold State.kcWriteBack
  dsimp only
  split
  · exact memWf_wr _ _ h
  · exact h

theorem memWf_kcPut {s : State} (cl f : Nat) (kr : Word) (h : s.memWf = true) : (s.kcPut cl f kr).memWf = true := by
  unfold State.kcPut
  dsimp only
  split
  · exact h
  · split
    · exact memWf_kcWriteBack _ _ (show State.memWf _ = true from h)
    · exact h

theorem memWf_kcDrop {s : State} (f : Nat) (h : s.memWf = true) : (s.kcDrop f).memWf = true :=
  memWf_foldl _ (fun _ _ h => memWf_kcWriteBack _ _ h) _ (show State.memWf _ = true from h)

/-- The states that a key check may answer keep the form. -/
theorem memWf_keyCheck {s t : State} (n f key sl : Nat) (kind : AKind) (fill : Bool) (h : s.memWf = true)
    (ht : s.keyCheck n f key kind fill = .pass sl t ∨ s.keyCheck n f key kind fill = .refused t) : t.memWf = true := by
  have go : ∀ (kr w : Word) (cl : Nat) (x : KeyCheck),
      (if s.badRecord f kr = true then KeyCheck.reserved
        else if keyMatches key kr kind = true then
          (if bits kr 8 19 ≠ 0 ∧ (s.kcPut cl f w).slotEmpty (bits kr 8 19) = true then .refused (s.kcPut cl f w)
            else .pass (bits kr 8 19) (s.kcPut cl f w))
          else .refused (s.kcPut cl f w)) = x → (x = .pass sl t ∨ x = .refused t) → t.memWf = true := by
    intro kr w cl x hk hx
    have hp := memWf_kcPut cl f w h
    subst hk
    split at hx
    · rcases hx with hx | hx <;> cases hx
    · split at hx
      · split at hx <;> rcases hx with hx | hx <;> cases hx <;> exact hp
      · rcases hx with hx | hx <;> cases hx
        exact hp
  unfold State.keyCheck at ht
  dsimp only at ht
  split at ht
  · split at ht
    · exact go _ _ _ _ rfl ht
    · split at ht
      · rcases ht with ht | ht <;> cases ht
      · split at ht
        · exact go _ _ _ _ rfl ht
        · rcases ht with ht | ht <;> cases ht
  · rcases ht with ht | ht <;> cases ht
    exact h

/-! ### Caches, stores that become visible, and engines -/

theorem memWf_leave {s : State} (line : Nat) (h : s.memWf = true) : (s.leave line).memWf = true := by
  unfold State.leave
  split
  · exact h
  · exact memWf_kilnClose _ h

theorem memWf_dcEvict {s : State} (n : Nat) (l : Nat × Bool) (h : s.memWf = true) : (s.dcEvict n l).memWf = true := by
  have ends : ∀ u : State, u.memWf = true →
      (if u.heldElsewhere n l.1 = true then u
        else (if l.2 = true ∧ u.inWindow (l.1 / 128) = true ∧ u.sealFor (l.1 / 128) ≠ 0 then u.takeOpen l.1 true else u).kilnClose l.1).memWf = true := by
    intro u hu
    split
    · exact hu
    · refine memWf_kilnClose _ ?_
      split
      · exact memWf_takeOpen _ _ hu
      · exact hu
  unfold State.dcEvict
  refine ends _ ?_
  split
  · exact memWf_of_same (sameMem_countLine _ _ _) h
  · exact h

theorem memWf_dcPut {s : State} (n line : Nat) (d : Bool) (h : s.memWf = true) : (s.dcPut n line d).memWf = true := by
  have h1 : (if (s.core n).dcache.any (fun l => l.1 == line) then s else s.countLine n (line / 128)).memWf = true := by
    split
    · exact h
    · exact memWf_of_same (sameMem_countLine _ _ _) h
  unfold State.dcPut
  dsimp only
  split
  · exact memWf_of_same (sameMem_modCore _ _ _) h1
  · exact memWf_dcEvict _ _ (memWf_of_same (sameMem_modCore _ _ _) h1)

theorem memWf_writeThrough {s : State} (line : Nat) (h : s.memWf = true) : (s.writeThrough line).memWf = true := by
  unfold State.writeThrough
  split
  · exact h
  · exact memWf_kilnWrite _ _ h

/-- A store that becomes visible keeps the form (12 R291). -/
theorem memWf_storeWord {s : State} (n : Nat) (p : Phys) (mask : BitVec 4) (w : Word) (tag : Bool) (h : s.memWf = true) :
    (s.storeWord n p mask w tag).memWf = true := by
  have ends : ∀ u : State, u.memWf = true →
      (if (p.c && !(u.core n).resting && !p.wt) = true then u.dcPut n (p.pa / 16) true
        else if (p.c && !(u.core n).resting && (u.core n).dcache.any fun l => l.1 == p.pa / 16) = true then
          ((u.countLine n (p.pa / 2048)).dcPut n (p.pa / 16) false).writeThrough (p.pa / 16)
        else (u.countLine n (p.pa / 2048)).leave (p.pa / 16)).memWf = true := by
    intro u hu
    have hc := memWf_of_same (sameMem_countLine u n (p.pa / 2048)) hu
    split
    · exact memWf_dcPut _ _ _ hu
    · split
      · exact memWf_writeThrough _ (memWf_dcPut _ _ _ hc)
      · exact memWf_leave _ hc
  unfold State.storeWord
  split
  · exact h
  · split
    · next ho => exact memWf_of_same (sameMem_storeLost _ _) (memWf_openFor _ _ h ho)
    · exact memWf_discardLine _ _ h
    · next ho =>
      exact ends _ (memWf_of_same (sameMem_invalidate _ _ _) (memWf_wr _ _
        (memWf_of_same (sameMem_wakeDram _ _) (memWf_openFor _ _ h ho))))

theorem memWf_engineKey {s : State} (pa : Nat) (h : s.memWf = true) : (s.engineKey pa).2.memWf = true := by
  unfold State.engineKey
  dsimp only
  split
  · exact h
  · split
    · exact memWf_kcPut _ _ _ h
    · split
      · dsimp only
        split
        · exact h
        · exact memWf_kcPut _ _ _ h
      · exact memWf_of_same (sameMem_mcheck _ _ _ _) h

/-- A word read by an engine keeps the form, read or not. -/
theorem memWf_engineRead {s t : State} (pa : Nat) (h : s.memWf = true)
    (ht : (∃ c, s.engineRead pa = .ok (c, t)) ∨ s.engineRead pa = .error t) : t.memWf = true := by
  have hk := memWf_engineKey pa h
  unfold State.engineRead at ht
  split at ht
  · rcases ht with ⟨c, ht⟩ | ht <;> cases ht
    exact h
  · split at ht
    · next he =>
      rw [he] at hk
      rcases ht with ⟨c, ht⟩ | ht <;> cases ht
      exact hk
    · next he =>
      rw [he] at hk
      split at ht
      · next ho =>
        rcases ht with ⟨c, ht⟩ | ht <;> cases ht
        exact memWf_leave _ (memWf_of_same (sameMem_wakeDram _ _) (memWf_openFor _ _ hk ho))
      · next ho =>
        rcases ht with ⟨c, ht⟩ | ht <;> cases ht
        exact memWf_openFor _ _ hk ho
      · rcases ht with ⟨c, ht⟩ | ht <;> cases ht
        exact hk

/-- A word written by an engine keeps the form. -/
theorem memWf_engineCell {s : State} (pa : Nat) (c : Cell) (h : s.memWf = true) : (s.engineCell pa c).memWf = true := by
  have hk := memWf_engineKey pa h
  unfold State.engineCell
  split
  · exact h
  · split
    · next he => rw [he] at hk; exact hk
    · next he =>
      rw [he] at hk
      split
      · next ho =>
        exact memWf_leave _ (memWf_of_same (sameMem_invalidate _ _ _) (memWf_wr _ _
          (memWf_of_same (sameMem_wakeDram _ _) (memWf_openFor _ _ hk ho))))
      · next ho => exact memWf_of_same (sameMem_engineUe _ _) (memWf_openFor _ _ hk ho)
      · exact memWf_discardLine _ _ hk

theorem memWf_engineWrite {s : State} (pa : Nat) (w : Word) (h : s.memWf = true) : (s.engineWrite pa w).memWf = true :=
  memWf_engineCell _ _ h

theorem memWf_flushDcache {s : State} (n : Nat) (h : s.memWf = true) : (s.flushDcache n).memWf = true :=
  memWf_foldl _ (fun _ _ h => memWf_dcEvict _ _ h) _ (memWf_of_same (sameMem_modCore _ _ _) h)

/-- The refresh of a group keeps the form (14 R347). -/
theorem memWf_refreshFrame {s : State} (f : Nat) (h : s.memWf = true) : (s.refreshFrame f).2.memWf = true := by
  have hm : (s.macFail.engineUe pgKiln).memWf = true := memWf_of_same (sameMem_engineUe _ _) (memWf_macFail h)
  unfold State.refreshFrame
  split
  · exact hm
  · next hf => exact memWf_fetchF _ h hf

/-! ### The journal ring and the image store -/

theorem ringWf_write {c : Cellar} (p : Word) (i : Nat) (ws : List Word) (h : tabWf 0 c.ring = true) :
    tabWf 0 (c.write p i ws).ring = true :=
  tabWf_foldl _ _ (fun _ _ ht => tabWf_tset _ _ _ ht) _ h

theorem memWf_putBytes {s : State} (a : Nat) (bs : List Octet) (h : s.memWf = true) : (s.putBytes a bs).memWf = true := by
  rw [memWf_iff] at h ⊢
  exact ⟨h.1, h.2.1, h.2.2.1, tabWf_foldl _ _ (fun _ _ ht => tabWf_tset _ _ _ ht) _ h.2.2.2⟩

theorem memWf_clearArea {s : State} (a : Nat) (h : s.memWf = true) : (s.clearArea a).memWf = true := by
  rw [memWf_iff] at h ⊢
  exact ⟨h.1, h.2.1, h.2.2.1, tabWf_filter _ _ h.2.2.2⟩

theorem memWf_copyArea {s : State} (a b : Nat) (h : s.memWf = true) : (s.copyArea a b).memWf = true := by
  have h1 := (memWf_iff _).1 (memWf_clearArea b h)
  rw [memWf_iff]
  exact ⟨h1.1, h1.2.1, h1.2.2.1, tabWf_foldl _ _ (fun _ _ ht => tabWf_tset _ _ _ ht) _ h1.2.2.2⟩

end Sys2Proof.Machine
end

