-- ==== Sys2Proof/Laws/Ops.lean ====
section
/-! SUPPORT. What each shared operation of the meanings can do, said once: its answer, or why it stops. -/

namespace Sys2Proof.Machine

/-! ### Reading and changing a core -/

@[simp] theorem getC_run (n : Nat) (s : State) : (getC n).run s = .ok (s.core n) s := rfl
@[simp] theorem modC_run (n : Nat) (f : Core → Core) (s : State) : (modC n f).run s = .ok () (s.modCore n f) := rfl
@[simp] theorem gr_run (n r : Nat) (s : State) : (gr n r).run s = .ok ((s.core n).g r) s := rfl
@[simp] theorem setGr_run (n r : Nat) (v : Word) (s : State) :
    (setGr n r v).run s = .ok () (s.modCore n fun k => k.setG r v) := rfl
@[simp] theorem pure_run {α : Type} (a : α) (s : State) : (pure a : M α).run s = .ok a s := rfl
@[simp] theorem raise_run {α : Type} (vec sub detail : Nat) (s : State) :
    (raise vec sub detail : M α).run s = .error (.trap { vec, sub, detail, badins := none, tlb := none }) s := rfl
@[simp] theorem await_run {α : Type} (w : Why) (s : State) : (await w : M α).run s = .error (.wait w) s := rfl
@[simp] theorem alignFault_run {α : Type} (role r : Nat) (s : State) :
    (alignFault role r : M α).run s = .error (.trap { vec := 11, sub := 0, detail := roleReg role r, badins := none, tlb := none }) s :=
  rfl
@[simp] theorem accessFault_run {α : Type} (vec sub : Nat) (kind : AKind) (va asid role off : Nat) (miss : Bool) (s : State) :
    (accessFault vec sub kind va asid role off miss : M α).run s = .error (.trap
      { vec, sub, detail := roleOff role off, badins := none
        tlb := some (decide (kind = .fetch), va, asid, miss) }) s := rfl
@[simp] theorem modify_run (f : State → State) (s : State) : (modify f : M Unit).run s = .ok () (f s) := rfl

theorem run_ite {α : Type} (c : Prop) [Decidable c] (a b : M α) (s : State) :
    (if c then a else b).run s = if c then a.run s else b.run s := by
  split <;> rfl

/-! ### The store buffer (12 R288, R292, R295) -/

/-- An operation that needs an empty store buffer goes on, or waits for it, and changes nothing. -/
theorem needEmpty_run (n : Nat) (s : State) :
    (needEmpty n).run s = if (s.core n).sb.isEmpty then .ok () s else .error (.wait .storeBuffer) s := by
  unfold needEmpty
  rw [run_bind_ok (getC_run n s), run_ite]
  rfl

/-- Room for m more entries is there, or waited for; nothing changes. -/
theorem needRoom_run (n m : Nat) (s : State) :
    (needRoom n m).run s = if (s.core n).sb.length + m ≤ 8 then .ok () s else .error (.wait .storeBuffer) s := by
  unfold needRoom
  rw [run_bind_ok (getC_run n s), run_ite]
  rfl

/-- A store enters the buffer as its youngest entry, but where the fabric has answered with an error. -/
theorem pushStore_run (n : Nat) (p : Phys) (mask : BitVec 4) (w : Word) (tag : Bool) (s : State) :
    (pushStore n p mask w tag).run s = .ok () (if p.bad then s else s.modCore n fun k =>
      { k with sb := k.sb ++ [{ addr := p.pa, mask, data := w, tag, dev := p.dev, cached := p.c, wt := p.wt }] }) := by
  unfold pushStore
  rw [run_ite]
  split <;> rfl

/-! ### A translated access (11 R267-R269, R275) -/

/-- What an access whose page has been found comes to, where it answers. -/
theorem access_tail {n : Nat} {dom : Tok} {kind : AKind} {sub : Nat} {o : AOpt} {va role off : Nat} {s t : State} {p : Phys}
    {e : TlbEntry} {right : Bool}
    (h : (if !right || ((o.cross || !dom.system) && !e.u) || (e.dev && !o.devOk) then
        accessFault 9 sub kind va dom.dom role off false
      else if dom.system && e.u && !o.cross then accessFault 10 sub kind va dom.dom role off false
      else if e.dev then (pure { pa := e.phys va, c := false, wt := false, dev := true, sl := 0, bad := false } : M Phys)
      else do
        match (← get).keyCheck n (e.phys va / 2048) dom.key kind o.inline with
        | .reserved => raise 4 6 (roleOff role off)
        | .refused s =>
          set s
          accessFault 6 sub kind va dom.dom role off false
        | .missing cl => await (.keyRecord cl (e.phys va / 2048))
        | .noTable =>
          modify (·.mcheck n 3 1023)
          return { pa := e.phys va, c := e.c, wt := e.wt, dev := false, sl := 0, bad := true }
        | .pass sl s =>
          set s
          if s.populated n (e.phys va) then
            return { pa := e.phys va, c := e.c, wt := e.wt, dev := false, sl, bad := false }
          else
            modify (·.mcheck n 3 1023)
            return { pa := e.phys va, c := e.c, wt := e.wt, dev := false, sl, bad := true }).run s = .ok p t) :
    p.pa = e.phys va ∧ p.dev = e.dev ∧ right = true ∧
      ((o.cross || !dom.system) = true → e.u = true) ∧ (e.dev = true → o.devOk = true) ∧
      (dom.system = true → o.cross = false → e.u = false) ∧
      ((e.dev = true ∧ t = s ∧ p.bad = false) ∨
        (e.dev = false ∧ p.c = e.c ∧ p.wt = e.wt ∧
          ((s.keyCheck n (p.pa / 2048) dom.key kind o.inline = .noTable ∧ t = s.mcheck n 3 1023 ∧ p.bad = true) ∨
            ∃ u, s.keyCheck n (p.pa / 2048) dom.key kind o.inline = .pass p.sl u ∧
              ((u.populated n p.pa = true ∧ t = u ∧ p.bad = false) ∨
                (u.populated n p.pa = false ∧ t = u.mcheck n 3 1023 ∧ p.bad = true))))) := by
  rw [run_ite] at h
  split at h
  · cases h
  · next h1 =>
    rw [run_ite] at h
    split at h
    · cases h
    · next h2 =>
      have hright : right = true := by
        revert h1
        cases right <;> simp
      have huser : (o.cross || !dom.system) = true → e.u = true := by
        intro hu
        rw [hu] at h1
        revert h1
        cases e.u <;> simp
      have hdev : e.dev = true → o.devOk = true := by
        intro hu
        rw [hu] at h1
        revert h1
        cases o.devOk <;> simp
      have hsys : dom.system = true → o.cross = false → e.u = false := by
        intro h3 h4
        rw [h3, h4] at h2
        revert h2
        cases e.u <;> simp
      rw [run_ite] at h
      split at h
      · next hd =>
        cases h
        exact ⟨rfl, hd.symm, hright, huser, hdev, hsys, .inl ⟨hd, rfl, rfl⟩⟩
      · next hd =>
        have hd' : e.dev = false := by simpa using hd
        rw [run_bind_ok (show (get : M State).run s = .ok s s from rfl)] at h
        cases hk : s.keyCheck n (e.phys va / 2048) dom.key kind o.inline with
        | reserved => rw [hk] at h; cases h
        | refused u => rw [hk] at h; cases h
        | missing cl => rw [hk] at h; cases h
        | noTable =>
          rw [hk] at h
          cases h
          exact ⟨rfl, hd'.symm, hright, huser, hdev, hsys, .inr ⟨hd', rfl, rfl, .inl ⟨hk, rfl, rfl⟩⟩⟩
        | pass sl u =>
          rw [hk] at h
          dsimp only at h
          rw [run_bind_ok (show (set u : M PUnit).run s = .ok ⟨⟩ u from rfl), run_ite] at h
          split at h
          · next hp =>
            cases h
            exact ⟨rfl, hd'.symm, hright, huser, hdev, hsys,
              .inr ⟨hd', rfl, rfl, .inr ⟨_, hk, .inl ⟨hp, rfl, rfl⟩⟩⟩⟩
          · next hp =>
            cases h
            exact ⟨rfl, hd'.symm, hright, huser, hdev, hsys,
              .inr ⟨hd', rfl, rfl, .inr ⟨_, hk, .inr ⟨by simpa using hp, rfl, rfl⟩⟩⟩⟩

/-- An access that answers found a translation with the right, a page it may be on and the physical word; a page that is
not a device's passed the key check, and a word that is not populated leaves a machine check behind. -/
theorem access_ok {n : Nat} {dom : Tok} {kind : AKind} {sub : Nat} {o : AOpt} {va role off : Nat} {s t : State} {p : Phys}
    (h : (access n dom kind sub o va role off).run s = .ok p t) :
    ∃ e, (s.core n).lookup kind va dom.dom = some e ∧ p.pa = e.phys va ∧ p.dev = e.dev ∧
      (kind = .read → e.r = true) ∧ (kind = .write → e.w = true) ∧ (kind = .fetch → e.x = true) ∧
      ((o.cross || !dom.system) = true → e.u = true) ∧ (e.dev = true → o.devOk = true) ∧
      (dom.system = true → o.cross = false → e.u = false) ∧
      ((e.dev = true ∧ t = s ∧ p.bad = false) ∨
        (e.dev = false ∧ p.c = e.c ∧ p.wt = e.wt ∧
          ((s.keyCheck n (p.pa / 2048) dom.key kind o.inline = .noTable ∧ t = s.mcheck n 3 1023 ∧ p.bad = true) ∨
            ∃ u, s.keyCheck n (p.pa / 2048) dom.key kind o.inline = .pass p.sl u ∧
              ((u.populated n p.pa = true ∧ t = u ∧ p.bad = false) ∨
                (u.populated n p.pa = false ∧ t = u.mcheck n 3 1023 ∧ p.bad = true))))) := by
  unfold access at h
  rw [run_bind_ok (getC_run n s)] at h
  cases hl : (s.core n).lookup kind va dom.dom with
  | none => simp [hl] at h
  | some e =>
    simp only [hl] at h
    obtain ⟨h1, h2, h3, h4⟩ := access_tail h
    refine ⟨e, rfl, h1, h2, ?_, ?_, ?_, h4⟩ <;> rintro rfl <;> exact h3

/-- An access that answers keeps the form of the memories. -/
theorem access_memWf {n : Nat} {dom : Tok} {kind : AKind} {sub : Nat} {o : AOpt} {va role off : Nat} {s t : State} {p : Phys}
    (h : (access n dom kind sub o va role off).run s = .ok p t) (hs : s.memWf = true) : t.memWf = true := by
  obtain ⟨e, -, -, -, -, -, -, -, -, -, ⟨-, rfl, -⟩ | ⟨-, -, -, ⟨-, rfl, -⟩ | ⟨u, hk, ⟨-, rfl, -⟩ | ⟨-, rfl, -⟩⟩⟩⟩ := access_ok h
  · exact hs
  · exact memWf_of_same (sameMem_mcheck _ _ _ _) hs
  · exact memWf_keyCheck _ _ _ _ _ _ hs (.inl hk)
  · exact memWf_of_same (sameMem_mcheck _ _ _ _) (memWf_keyCheck _ _ _ _ _ _ hs (.inl hk))

/-- A word read past its checks: zero where the fabric has answered with an error, else the word as the state with the
line open and its caches filled holds it. -/
theorem fetchWord_ok {n : Nat} {p : Phys} {va asid role off : Nat} {s t : State} {c : Cell}
    (h : (fetchWord n p va asid role off).run s = .ok c t) :
    (p.bad = true ∧ c = Cell.zero ∧ t = s) ∨
      (p.bad = false ∧ ∃ u v, s.openFor p.pa p.sl = some (true, u) ∧
        v = (if p.c && !((u.wakeDram p.pa).core n).resting then (u.wakeDram p.pa).dcPut n (p.pa / 16) false
          else (u.wakeDram p.pa).countLine n (p.pa / 2048)) ∧
        c = v.rd p.pa ∧ t = v.leave (p.pa / 16)) := by
  unfold fetchWord at h
  rw [run_ite] at h
  split at h
  · next hb =>
    cases h
    exact .inl ⟨hb, rfl, rfl⟩
  · next hb =>
    have hb' : p.bad = false := by simpa using hb
    refine .inr ⟨hb', ?_⟩
    rw [run_bind_ok (show (get : M State).run s = .ok s s from rfl)] at h
    cases ho : s.openFor p.pa p.sl with
    | none => rw [ho] at h; cases h
    | some r =>
      obtain ⟨b, u⟩ := r
      rw [ho] at h
      cases b with
      | false => cases h
      | true =>
        refine ⟨u, _, rfl, rfl, ?_⟩
        dsimp only at h
        rw [run_bind_ok (show (set (u.wakeDram p.pa) : M PUnit).run s = .ok ⟨⟩ (u.wakeDram p.pa) from rfl),
          run_bind_ok (getC_run n _)] at h
        split at h
        · next hc =>
          cases h
          rw [if_pos hc]
          exact ⟨rfl, rfl⟩
        · next hc =>
          cases h
          rw [if_neg hc]
          exact ⟨rfl, rfl⟩

/-- A word read keeps the form of the memories. -/
theorem fetchWord_memWf {n : Nat} {p : Phys} {va asid role off : Nat} {s t : State} {c : Cell}
    (h : (fetchWord n p va asid role off).run s = .ok c t) (hs : s.memWf = true) : t.memWf = true := by
  obtain ⟨-, -, rfl⟩ | ⟨-, u, v, ho, rfl, -, rfl⟩ := fetchWord_ok h
  · exact hs
  · have h1 := memWf_of_same (sameMem_wakeDram u p.pa) (memWf_openFor _ _ hs ho)
    refine memWf_leave _ ?_
    split
    · exact memWf_dcPut _ _ _ h1
    · exact memWf_of_same (sameMem_countLine _ _ _) h1

/-! ### Issuing -/

/-- An instruction always answers a next state. -/
theorem issue_next (c : CoreId) (i : Ins) (body : M Flow) (s : State) : issue c i body s = .next (s.issue c.val i body) := rfl

/-- A core that does not issue is left as it is by an instruction. -/
theorem issue_idle {s s1 : State} {n : Nat} {i : Ins} {body : M Flow} (hw : s.wake n = some s1) (hc : s1.canIssue n = false) :
    s.issue n i body = s1 := by
  unfold State.issue
  rw [hw]
  simp [hc]

/-! ### Completion -/

/-- A debug step that ends changes only its own core. -/
theorem endStep_core_other (s : State) {n m : Nat} (h : m ≠ n) : (s.endStep n).core m = s.core m := by
  unfold State.endStep
  split
  · exact core_modCore_other _ _ h
  · rfl

theorem sameMem_endStep (s : State) (n : Nat) : s.sameMem (s.endStep n) := by
  unfold State.endStep
  split
  · exact sameMem_modCore _ _ _
  · exact sameMem_refl _

/-! ### A write of a control page (17 R424, R474) -/

/-- A page's answer is the effect where the code is 0, and the record of the rejection where it is not. -/
theorem wrPage_eq (s : State) (w : Writer) (p off : Nat) (v : Word) :
    s.wrPage w p off v = if (s.pageAnswer w p off v).1 = 0 then (s.pageAnswer w p off v).2
      else (s.pageAnswer w p off v).2.reject w p off (s.pageAnswer w p off v).1 := by
  unfold State.wrPage State.pageWrite
  split
  · next h => simp [h]
  · next c t hc h =>
    have : c ≠ 0 := hc
    simp [h, this]

/-- A rejection leaves the memories. -/
theorem sameMem_reject (s : State) (w : Writer) (p off code : Nat) : s.sameMem (s.reject w p off code) :=
  sameMem_trans (sameMem_setPreg _ _ _ _) (sameMem_orPreg _ _ _ _)

/-! ### A step -/

/-- A step runs the command at the front, or lets a cycle pass. -/
theorem step_cons (s : State) (c : Instr) (rest : List Instr) (h : s.pending = c :: rest) :
    step s = exec c { s with pending := rest } := by
  simp [step, h]

theorem step_nil (s : State) (h : s.pending = []) : step s = .next (tick s) := by
  simp [step, h]

end Sys2Proof.Machine
end

