-- ==== Sys2Proof/Laws/PerInstr.lean ====
section
/-! SUPPORT. Laws said per command, about its operands: a well-formed command carries only well-formed content. -/

namespace Sys2Proof.Laws

/-- The message a command brings, if it brings one (15 R371). -/
def carried : Instr → Option Arrival
  | .shippedTicket m | .directoryUpdate m | .wholeDirectory m | .fence m | .endToEndAcknowledgement m | .relayedPiece m
  | .messageRouting m => some m
  | _ => none

namespace WellFormedContent

/-- A well-formed command carries no message but a well-formed one. -/
def Statement (i : Instr) : Prop := wellFormed i = true → ∀ m, carried i = some m → arrivalWf m = true

theorem wait (c : CoreId) (o : SX) : Statement (.wait c o) := fun _ _ h => nomatch h
theorem sync (c : CoreId) (o : SX) : Statement (.sync c o) := fun _ _ h => nomatch h
theorem iflush (c : CoreId) (o : SX) : Statement (.iflush c o) := fun _ _ h => nomatch h
theorem fbar (c : CoreId) (o : SX) : Statement (.fbar c o) := fun _ _ h => nomatch h
theorem reti (c : CoreId) (o : SX) : Statement (.reti c o) := fun _ _ h => nomatch h
theorem enter (c : CoreId) (o : SX) : Statement (.enter c o) := fun _ _ h => nomatch h
theorem leave (c : CoreId) (o : SX) : Statement (.leave c o) := fun _ _ h => nomatch h
theorem trap (c : CoreId) (o : SX) : Statement (.trap c o) := fun _ _ h => nomatch h
theorem tlbw (c : CoreId) (o : SX) : Statement (.tlbw c o) := fun _ _ h => nomatch h
theorem tlbi (c : CoreId) (o : SX) : Statement (.tlbi c o) := fun _ _ h => nomatch h
theorem kinv (c : CoreId) (o : SX) : Statement (.kinv c o) := fun _ _ h => nomatch h
theorem jr (c : CoreId) (o : SX) : Statement (.jr c o) := fun _ _ h => nomatch h
theorem bc (c : CoreId) (o : BranchForm) : Statement (.bc c o) := fun _ _ h => nomatch h
theorem bal (c : CoreId) (o : LBSlot) : Statement (.bal c o) := fun _ _ h => nomatch h
theorem loop (c : CoreId) (o : SLEnd) : Statement (.loop c o) := fun _ _ h => nomatch h
theorem add (c : CoreId) (o : Alu3) : Statement (.add c o) := fun _ _ h => nomatch h
theorem addc (c : CoreId) (o : SR) : Statement (.addc c o) := fun _ _ h => nomatch h
theorem sub (c : CoreId) (o : SR) : Statement (.sub c o) := fun _ _ h => nomatch h
theorem subc (c : CoreId) (o : SR) : Statement (.subc c o) := fun _ _ h => nomatch h
theorem addv (c : CoreId) (o : SR) : Statement (.addv c o) := fun _ _ h => nomatch h
theorem subv (c : CoreId) (o : SR) : Statement (.subv c o) := fun _ _ h => nomatch h
theorem and (c : CoreId) (o : Alu2) : Statement (.and c o) := fun _ _ h => nomatch h
theorem or (c : CoreId) (o : Alu2) : Statement (.or c o) := fun _ _ h => nomatch h
theorem xor (c : CoreId) (o : Alu2) : Statement (.xor c o) := fun _ _ h => nomatch h
theorem not (c : CoreId) (o : SR) : Statement (.not c o) := fun _ _ h => nomatch h
theorem neg (c : CoreId) (o : SR) : Statement (.neg c o) := fun _ _ h => nomatch h
theorem cmp (c : CoreId) (o : Alu3) : Statement (.cmp c o) := fun _ _ h => nomatch h
theorem tst (c : CoreId) (o : Alu2) : Statement (.tst c o) := fun _ _ h => nomatch h
theorem mov (c : CoreId) (o : SR) : Statement (.mov c o) := fun _ _ h => nomatch h
theorem sprMove (c : CoreId) (o : SprMove) : Statement (.sprMove c o) := fun _ _ h => nomatch h
theorem mul (c : CoreId) (o : SR) : Statement (.mul c o) := fun _ _ h => nomatch h
theorem mulw (c : CoreId) (o : SR) : Statement (.mulw c o) := fun _ _ h => nomatch h
theorem mulwu (c : CoreId) (o : SR) : Statement (.mulwu c o) := fun _ _ h => nomatch h
theorem div (c : CoreId) (o : SR) : Statement (.div c o) := fun _ _ h => nomatch h
theorem divu (c : CoreId) (o : SR) : Statement (.divu c o) := fun _ _ h => nomatch h
theorem shl (c : CoreId) (o : ShiftForm) : Statement (.shl c o) := fun _ _ h => nomatch h
theorem shr (c : CoreId) (o : ShiftForm) : Statement (.shr c o) := fun _ _ h => nomatch h
theorem sha (c : CoreId) (o : ShiftForm) : Statement (.sha c o) := fun _ _ h => nomatch h
theorem rot (c : CoreId) (o : ShiftForm) : Statement (.rot c o) := fun _ _ h => nomatch h
theorem li (c : CoreId) (o : LiForm) : Statement (.li c o) := fun _ _ h => nomatch h
theorem liH (c : CoreId) (o : LI) : Statement (.liH c o) := fun _ _ h => nomatch h
theorem ld (c : CoreId) (o : MemForm) : Statement (.ld c o) := fun _ _ h => nomatch h
theorem ld2 (c : CoreId) (o : LM) : Statement (.ld2 c o) := fun _ _ h => nomatch h
theorem ld4 (c : CoreId) (o : LM) : Statement (.ld4 c o) := fun _ _ h => nomatch h
theorem ldh (c : CoreId) (o : HalfForm) : Statement (.ldh c o) := fun _ _ h => nomatch h
theorem ldc (c : CoreId) (o : MemForm) : Statement (.ldc c o) := fun _ _ h => nomatch h
theorem ldp (c : CoreId) (o : LP) : Statement (.ldp c o) := fun _ _ h => nomatch h
theorem xld (c : CoreId) (o : LX) : Statement (.xld c o) := fun _ _ h => nomatch h
theorem cld (c : CoreId) (o : LM) : Statement (.cld c o) := fun _ _ h => nomatch h
theorem st (c : CoreId) (o : MemForm) : Statement (.st c o) := fun _ _ h => nomatch h
theorem st2 (c : CoreId) (o : LM) : Statement (.st2 c o) := fun _ _ h => nomatch h
theorem st4 (c : CoreId) (o : LM) : Statement (.st4 c o) := fun _ _ h => nomatch h
theorem sth (c : CoreId) (o : HalfForm) : Statement (.sth c o) := fun _ _ h => nomatch h
theorem stc (c : CoreId) (o : MemForm) : Statement (.stc c o) := fun _ _ h => nomatch h
theorem cst (c : CoreId) (o : LM) : Statement (.cst c o) := fun _ _ h => nomatch h
theorem xst (c : CoreId) (o : LX) : Statement (.xst c o) := fun _ _ h => nomatch h
theorem stk (c : CoreId) (o : LM) : Statement (.stk c o) := fun _ _ h => nomatch h
theorem storeDrain (c : CoreId) (ue : Bool) : Statement (.storeDrain c ue) := fun _ _ h => nomatch h
theorem lineFill (c : CoreId) (instrSide : Bool) (line : BitVec 36) (check : LineCheck) : Statement (.lineFill c instrSide line check) := fun _ _ h => nomatch h
theorem keyRecordRead (cluster : Fin 8) (frame : BitVec 29) : Statement (.keyRecordRead cluster frame) := fun _ _ h => nomatch h
theorem fadd (c : CoreId) (d : Bool) (o : SR) : Statement (.fadd c d o) := fun _ _ h => nomatch h
theorem fsub (c : CoreId) (d : Bool) (o : SR) : Statement (.fsub c d o) := fun _ _ h => nomatch h
theorem fmul (c : CoreId) (d : Bool) (o : SR) : Statement (.fmul c d o) := fun _ _ h => nomatch h
theorem fdiv (c : CoreId) (d : Bool) (o : SR) : Statement (.fdiv c d o) := fun _ _ h => nomatch h
theorem fsqrt (c : CoreId) (d : Bool) (o : SR) : Statement (.fsqrt c d o) := fun _ _ h => nomatch h
theorem fcmp (c : CoreId) (d : Bool) (o : SR) : Statement (.fcmp c d o) := fun _ _ h => nomatch h
theorem fcvt (c : CoreId) (k : Cvt) (o : SR) : Statement (.fcvt c k o) := fun _ _ h => nomatch h
theorem fma (c : CoreId) (d : Bool) (o : LR) : Statement (.fma c d o) := fun _ _ h => nomatch h
theorem floatingCompletion (c : CoreId) (idx : Nat) : Statement (.floatingCompletion c idx) := fun _ _ h => nomatch h
theorem dadd (c : CoreId) (o : SD) : Statement (.dadd c o) := fun _ _ h => nomatch h
theorem dsub (c : CoreId) (o : SD) : Statement (.dsub c o) := fun _ _ h => nomatch h
theorem dmul (c : CoreId) (o : SD) (stop : Bool) : Statement (.dmul c o stop) := fun _ _ h => nomatch h
theorem ddiv (c : CoreId) (o : SD) (stop : Bool) : Statement (.ddiv c o stop) := fun _ _ h => nomatch h
theorem dcmp (c : CoreId) (o : SD) : Statement (.dcmp c o) := fun _ _ h => nomatch h
theorem dshf (c : CoreId) (o : SD) : Statement (.dshf c o) := fun _ _ h => nomatch h
theorem drnd (c : CoreId) (o : SD) : Statement (.drnd c o) := fun _ _ h => nomatch h
theorem dcvb (c : CoreId) (o : SD) (stop : Bool) : Statement (.dcvb c o stop) := fun _ _ h => nomatch h
theorem dcvd (c : CoreId) (o : SD) (stop : Bool) : Statement (.dcvd c o stop) := fun _ _ h => nomatch h
theorem dld (c : CoreId) (o : LR) (stop : Bool) : Statement (.dld c o stop) := fun _ _ h => nomatch h
theorem dst (c : CoreId) (o : LR) (stop : Bool) : Statement (.dst c o stop) := fun _ _ h => nomatch h
theorem daddm (c : CoreId) (o : LR) (stop : Bool) : Statement (.daddm c o stop) := fun _ _ h => nomatch h
theorem dsubm (c : CoreId) (o : LR) (stop : Bool) : Statement (.dsubm c o stop) := fun _ _ h => nomatch h
theorem dmulm (c : CoreId) (o : LR) (stop : Bool) : Statement (.dmulm c o stop) := fun _ _ h => nomatch h
theorem dcmpm (c : CoreId) (o : LR) (stop : Bool) : Statement (.dcmpm c o stop) := fun _ _ h => nomatch h
theorem zpk (c : CoreId) (o : LR) (stop : Bool) : Statement (.zpk c o stop) := fun _ _ h => nomatch h
theorem pkz (c : CoreId) (o : LR) (stop : Bool) : Statement (.pkz c o stop) := fun _ _ h => nomatch h
theorem ckd (c : CoreId) (o : LR) (stop : Bool) : Statement (.ckd c o stop) := fun _ _ h => nomatch h
theorem mvs (c : CoreId) (o : LR) (stop : Option Nat) : Statement (.mvs c o stop) := fun _ _ h => nomatch h
theorem mvsr (c : CoreId) (o : LR) (stop : Option Nat) : Statement (.mvsr c o stop) := fun _ _ h => nomatch h
theorem cms (c : CoreId) (o : LR) (stop : Option Nat) : Statement (.cms c o stop) := fun _ _ h => nomatch h
theorem scs (c : CoreId) (o : LR) (stop : Option Nat) : Statement (.scs c o stop) := fun _ _ h => nomatch h
theorem trs (c : CoreId) (o : LR) (stop : Option Nat) : Statement (.trs c o stop) := fun _ _ h => nomatch h
theorem fill (c : CoreId) (o : LR) (stop : Option Nat) : Statement (.fill c o stop) := fun _ _ h => nomatch h
theorem edit (c : CoreId) (o : LR) (stop : Option Nat) : Statement (.edit c o stop) := fun _ _ h => nomatch h
theorem edmk (c : CoreId) (o : LR) (stop : Option Nat) : Statement (.edmk c o stop) := fun _ _ h => nomatch h
theorem post (c : CoreId) (o : LR) (stop : Option Nat) : Statement (.post c o stop) := fun _ _ h => nomatch h
theorem prep (c : CoreId) (o : LR) (stop : Option Nat) : Statement (.prep c o stop) := fun _ _ h => nomatch h
theorem conf (c : CoreId) (o : LR) : Statement (.conf c o) := fun _ _ h => nomatch h
theorem abrt (c : CoreId) (o : LR) : Statement (.abrt c o) := fun _ _ h => nomatch h
theorem jrd (c : CoreId) (o : LR) (stop : Option Nat) : Statement (.jrd c o stop) := fun _ _ h => nomatch h
theorem lockWaitEnd (c : CoreId) : Statement (.lockWaitEnd c) := fun _ _ h => nomatch h
theorem admission (c : CoreId) : Statement (.admission c) := fun _ _ h => nomatch h
theorem recordDurable : Statement .recordDurable := fun _ _ h => nomatch h
theorem lone (c : CoreId) : Statement (.lone c) := fun _ _ h => nomatch h
theorem tailScan : Statement .tailScan := fun _ _ h => nomatch h
theorem mramFailure : Statement .mramFailure := fun _ _ h => nomatch h
theorem archivePos (w : Writer) (v : Word) : Statement (.archivePos w v) := fun _ _ h => nomatch h
theorem cmov (c : CoreId) (o : LR) : Statement (.cmov c o) := fun _ _ h => nomatch h
theorem cnarrow (c : CoreId) (o : LR) : Statement (.cnarrow c o) := fun _ _ h => nomatch h
theorem cseal (c : CoreId) (o : LR) : Statement (.cseal c o) := fun _ _ h => nomatch h
theorem cunseal (c : CoreId) (o : LR) : Statement (.cunseal c o) := fun _ _ h => nomatch h
theorem ctest (c : CoreId) (o : LR) : Statement (.ctest c o) := fun _ _ h => nomatch h
theorem take (c : CoreId) (o : SX) : Statement (.take c o) := fun _ _ h => nomatch h
theorem give (c : CoreId) (o : SX) : Statement (.give c o) := fun _ _ h => nomatch h
theorem qack (c : CoreId) (o : SX) : Statement (.qack c o) := fun _ _ h => nomatch h
theorem vdadd (c : CoreId) (o : SV) : Statement (.vdadd c o) := fun _ _ h => nomatch h
theorem vdsub (c : CoreId) (o : SV) : Statement (.vdsub c o) := fun _ _ h => nomatch h
theorem vcmp (c : CoreId) (view : VView) (o : SV) : Statement (.vcmp c view o) := fun _ _ h => nomatch h
theorem vmrg (c : CoreId) (o : SV) : Statement (.vmrg c o) := fun _ _ h => nomatch h
theorem vclr (c : CoreId) (o : SV) : Statement (.vclr c o) := fun _ _ h => nomatch h
theorem vmov (c : CoreId) (o : SV) : Statement (.vmov c o) := fun _ _ h => nomatch h
theorem vadd (c : CoreId) (w : Bool) (o : SV) : Statement (.vadd c w o) := fun _ _ h => nomatch h
theorem vsub (c : CoreId) (w : Bool) (o : SV) : Statement (.vsub c w o) := fun _ _ h => nomatch h
theorem vand (c : CoreId) (o : SV) : Statement (.vand c o) := fun _ _ h => nomatch h
theorem vor (c : CoreId) (o : SV) : Statement (.vor c o) := fun _ _ h => nomatch h
theorem vxor (c : CoreId) (o : SV) : Statement (.vxor c o) := fun _ _ h => nomatch h
theorem vnot (c : CoreId) (o : SV) : Statement (.vnot c o) := fun _ _ h => nomatch h
theorem vld (c : CoreId) (o : LV) : Statement (.vld c o) := fun _ _ h => nomatch h
theorem vst (c : CoreId) (o : LV) : Statement (.vst c o) := fun _ _ h => nomatch h
theorem vgc (c : CoreId) (o : LV) (stop : Option Nat) : Statement (.vgc c o stop) := fun _ _ h => nomatch h
theorem vgcf (c : CoreId) (o : LV) (stop : Option Nat) : Statement (.vgcf c o stop) := fun _ _ h => nomatch h
theorem vgw (c : CoreId) (o : LV) (stop : Option Nat) : Statement (.vgw c o stop) := fun _ _ h => nomatch h
theorem vgwf (c : CoreId) (o : LV) (stop : Option Nat) : Statement (.vgwf c o stop) := fun _ _ h => nomatch h
theorem vsc (c : CoreId) (o : LV) (stop : Option Nat) : Statement (.vsc c o stop) := fun _ _ h => nomatch h
theorem vcls (c : CoreId) (o : LV) : Statement (.vcls c o) := fun _ _ h => nomatch h
theorem vtr (c : CoreId) (o : LV) : Statement (.vtr c o) := fun _ _ h => nomatch h
theorem vectorUnitGate (c : CoreId) : Statement (.vectorUnitGate c) := fun _ _ h => nomatch h
theorem vectorUnitWake (c : CoreId) : Statement (.vectorUnitWake c) := fun _ _ h => nomatch h
theorem vgate (w : Writer) (n : Fin 64) (v : Word) : Statement (.vgate w n v) := fun _ _ h => nomatch h
theorem aese (c : CoreId) (o : LA) : Statement (.aese c o) := fun _ _ h => nomatch h
theorem aesd (c : CoreId) (o : LA) : Statement (.aesd c o) := fun _ _ h => nomatch h
theorem gcms (c : CoreId) (o : LA) : Statement (.gcms c o) := fun _ _ h => nomatch h
theorem gcmo (c : CoreId) (o : LA) : Statement (.gcmo c o) := fun _ _ h => nomatch h
theorem sign (c : CoreId) (o : LA) : Statement (.sign c o) := fun _ _ h => nomatch h
theorem verp256 (c : CoreId) (o : LA) : Statement (.verp256 c o) := fun _ _ h => nomatch h
theorem verp384 (c : CoreId) (o : LA) : Statement (.verp384 c o) := fun _ _ h => nomatch h
theorem vered (c : CoreId) (o : LA) : Statement (.vered c o) := fun _ _ h => nomatch h
theorem kload (c : CoreId) (o : LA) : Statement (.kload c o) := fun _ _ h => nomatch h
theorem kgen (c : CoreId) (o : LA) : Statement (.kgen c o) := fun _ _ h => nomatch h
theorem kclr (c : CoreId) (o : LA) : Statement (.kclr c o) := fun _ _ h => nomatch h
theorem kpub (c : CoreId) (o : LA) : Statement (.kpub c o) := fun _ _ h => nomatch h
theorem sha256 (c : CoreId) (o : LA) : Statement (.sha256 c o) := fun _ _ h => nomatch h
theorem sha384 (c : CoreId) (o : LA) : Statement (.sha384 c o) := fun _ _ h => nomatch h
theorem sha512 (c : CoreId) (o : LA) : Statement (.sha512 c o) := fun _ _ h => nomatch h
theorem sha3x256 (c : CoreId) (o : LA) : Statement (.sha3x256 c o) := fun _ _ h => nomatch h
theorem sha3x384 (c : CoreId) (o : LA) : Statement (.sha3x384 c o) := fun _ _ h => nomatch h
theorem sha3x512 (c : CoreId) (o : LA) : Statement (.sha3x512 c o) := fun _ _ h => nomatch h
theorem hmacSha256 (c : CoreId) (o : LA) : Statement (.hmacSha256 c o) := fun _ _ h => nomatch h
theorem hmacSha384 (c : CoreId) (o : LA) : Statement (.hmacSha384 c o) := fun _ _ h => nomatch h
theorem hmacSha512 (c : CoreId) (o : LA) : Statement (.hmacSha512 c o) := fun _ _ h => nomatch h
theorem crc32 (c : CoreId) (o : LA) : Statement (.crc32 c o) := fun _ _ h => nomatch h
theorem crc32c (c : CoreId) (o : LA) : Statement (.crc32c c o) := fun _ _ h => nomatch h
theorem rand (c : CoreId) (o : LA) : Statement (.rand c o) := fun _ _ h => nomatch h
theorem reseed (c : CoreId) (o : LA) : Statement (.reseed c o) := fun _ _ h => nomatch h
theorem kilnRequestCompletion (c : CoreId) : Statement (.kilnRequestCompletion c) := fun _ _ h => nomatch h
theorem ax (c : CoreId) (slot : Fin 4) (opc : BitVec 8) (o : LA) : Statement (.ax c slot opc o) := fun _ _ h => nomatch h
theorem arsp (f : Flit) : Statement (.arsp f) := fun _ _ h => nomatch h
theorem aint (f : Flit) : Statement (.aint f) := fun _ _ h => nomatch h
theorem adjunctTimeout (c : CoreId) : Statement (.adjunctTimeout c) := fun _ _ h => nomatch h
theorem fullEntry (c : CoreAt) : Statement (.fullEntry c) := fun _ _ h => nomatch h
theorem holdEnd (c : CoreId) : Statement (.holdEnd c) := fun _ _ h => nomatch h
theorem machineCheck (c : CoreId) (cls : Fin 7) (detail : BitVec 10) : Statement (.machineCheck c cls detail) := fun _ _ h => nomatch h
theorem breakpoint (c : CoreAt) : Statement (.breakpoint c) := fun _ _ h => nomatch h
theorem doorbell (fn : BitVec 7) (q : BitVec 14) (w3 : Word) : Statement (.doorbell fn q w3) := fun _ _ h => nomatch h
theorem retireWord (fn : BitVec 7) (q : BitVec 14) (v : Word) : Statement (.retireWord fn q v) := fun _ _ h => nomatch h
theorem intakeRouting (q : BitVec 14) : Statement (.intakeRouting q) := fun _ _ h => nomatch h
theorem shippedTicket (m : Arrival) : Statement (.shippedTicket m) := by
  intro h x hx
  cases hx
  simp only [wellFormed, Bool.and_eq_true] at h
  exact h.1
theorem ticketRackTimeout (q : BitVec 14) : Statement (.ticketRackTimeout q) := fun _ _ h => nomatch h
theorem qCtl (w : Writer) (v : Word) : Statement (.qCtl w v) := fun _ _ h => nomatch h
theorem qrel (w : Writer) (v : Word) : Statement (.qrel w v) := fun _ _ h => nomatch h
theorem ring (w : Writer) : Statement (.ring w) := fun _ _ h => nomatch h
theorem dirEnt (w : Writer) (v : Word) : Statement (.dirEnt w v) := fun _ _ h => nomatch h
theorem directoryUpdate (m : Arrival) : Statement (.directoryUpdate m) := by
  intro h x hx
  cases hx
  simp only [wellFormed, Bool.and_eq_true] at h
  exact h.1
theorem wholeDirectory (m : Arrival) : Statement (.wholeDirectory m) := by
  intro h x hx
  cases hx
  simp only [wellFormed, Bool.and_eq_true] at h
  exact h.1
theorem epochEnd : Statement .epochEnd := fun _ _ h => nomatch h
theorem frameMove : Statement .frameMove := fun _ _ h => nomatch h
theorem homeChange (frame : BitVec 29) (good : Bool) : Statement (.homeChange frame good) := fun _ _ h => nomatch h
theorem place (w : Writer) : Statement (.place w) := fun _ _ h => nomatch h
theorem evict (w : Writer) : Statement (.evict w) := fun _ _ h => nomatch h
theorem bmove (w : Writer) : Statement (.bmove w) := fun _ _ h => nomatch h
theorem fence (m : Arrival) : Statement (.fence m) := by
  intro h x hx
  cases hx
  simp only [wellFormed, Bool.and_eq_true] at h
  exact h.1
theorem drain : Statement .drain := fun _ _ h => nomatch h
theorem copy (good : Bool) : Statement (.copy good) := fun _ _ h => nomatch h
theorem ship (room : Bool) : Statement (.ship room) := fun _ _ h => nomatch h
theorem flipOut : Statement .flipOut := fun _ _ h => nomatch h
theorem babort (w : Writer) : Statement (.babort w) := fun _ _ h => nomatch h
theorem bforce (w : Writer) : Statement (.bforce w) := fun _ _ h => nomatch h
theorem thr (w : Writer) : Statement (.thr w) := fun _ _ h => nomatch h
theorem evq (w : Writer) : Statement (.evq w) := fun _ _ h => nomatch h
theorem commitApply (page : Fin 100) (group : BitVec 6) : Statement (.commitApply page group) := fun _ _ h => nomatch h
theorem window (w : Writer) : Statement (.window w) := fun _ _ h => nomatch h
theorem format (w : Writer) : Statement (.format w) := fun _ _ h => nomatch h
theorem init (w : Writer) : Statement (.init w) := fun _ _ h => nomatch h
theorem reseal (w : Writer) : Statement (.reseal w) := fun _ _ h => nomatch h
theorem release (w : Writer) : Statement (.release w) := fun _ _ h => nomatch h
theorem kekload (w : Writer) : Statement (.kekload w) := fun _ _ h => nomatch h
theorem kilnCommandCompletion : Statement .kilnCommandCompletion := fun _ _ h => nomatch h
theorem groupRefresh (group : BitVec 13) : Statement (.groupRefresh group) := fun _ _ h => nomatch h
theorem healthTestFailure : Statement .healthTestFailure := fun _ _ h => nomatch h
theorem tamperMesh (pair : Fin 4) : Statement (.tamperMesh pair) := fun _ _ h => nomatch h
theorem meshPatternChange : Statement .meshPatternChange := fun _ _ h => nomatch h
theorem voltageDetector (vbat : Bool) : Statement (.voltageDetector vbat) := fun _ _ h => nomatch h
theorem clockDetector (refclk : Bool) : Statement (.clockDetector refclk) := fun _ _ h => nomatch h
theorem temperatureDetector : Statement .temperatureDetector := fun _ _ h => nomatch h
theorem zeroizeN : Statement .zeroizeN := fun _ _ h => nomatch h
theorem tampCtl (w : Writer) (v : Word) : Statement (.tampCtl w v) := fun _ _ h => nomatch h
theorem portCtl (w : Writer) (p : Fin 8) (v : Word) : Statement (.portCtl w p v) := fun _ _ h => nomatch h
theorem farEndDetection (p : Fin 9) : Statement (.farEndDetection p) := fun _ _ h => nomatch h
theorem clockRecovery (p : Fin 9) (lanes : BitVec 8) : Statement (.clockRecovery p lanes) := fun _ _ h => nomatch h
theorem blockSync (p : Fin 9) : Statement (.blockSync p) := fun _ _ h => nomatch h
theorem blockSyncLoss (p : Fin 9) : Statement (.blockSyncLoss p) := fun _ _ h => nomatch h
theorem idle (p : Fin 9) (f : Flit) : Statement (.idle p f) := fun _ _ h => nomatch h
theorem ack (p : Fin 9) (f : Flit) : Statement (.ack p f) := fun _ _ h => nomatch h
theorem nak (p : Fin 9) (f : Flit) : Statement (.nak p f) := fun _ _ h => nomatch h
theorem param (p : Fin 9) (f : Flit) (peer : PeerJournal) : Statement (.param p f peer) := fun _ _ h => nomatch h
theorem hbeat (f : Flit) : Statement (.hbeat f) := fun _ _ h => nomatch h
theorem heartbeatSend : Statement .heartbeatSend := fun _ _ h => nomatch h
theorem heartbeatMiss : Statement .heartbeatMiss := fun _ _ h => nomatch h
theorem rackedRecord (h : Flit) (d : List Flit) : Statement (.rackedRecord h d) := fun _ _ h => nomatch h
theorem racka (f : Flit) : Statement (.racka f) := fun _ _ h => nomatch h
theorem arch (f : Flit) : Statement (.arch f) := fun _ _ h => nomatch h
theorem ticketEntry (f g : Flit) : Statement (.ticketEntry f g) := fun _ _ h => nomatch h
theorem newRet (f : Flit) : Statement (.newRet f) := fun _ _ h => nomatch h
theorem qrackAcknowledgement (f : Flit) : Statement (.qrackAcknowledgement f) := fun _ _ h => nomatch h
theorem streamStart (f : Flit) : Statement (.streamStart f) := fun _ _ h => nomatch h
theorem preparedLeg (f : Flit) : Statement (.preparedLeg f) := fun _ _ h => nomatch h
theorem durableQueueContext (f : Flit) : Statement (.durableQueueContext f) := fun _ _ h => nomatch h
theorem streamEnd (f : Flit) : Statement (.streamEnd f) := fun _ _ h => nomatch h
theorem resynchronise (f : Flit) : Statement (.resynchronise f) := fun _ _ h => nomatch h
theorem endToEndAcknowledgement (m : Arrival) : Statement (.endToEndAcknowledgement m) := by
  intro h x hx
  cases hx
  simp only [wellFormed, Bool.and_eq_true] at h
  exact h.1
theorem messageResend (dst : BitVec 5) : Statement (.messageResend dst) := fun _ _ h => nomatch h
theorem unreachable (dst : BitVec 5) : Statement (.unreachable dst) := fun _ _ h => nomatch h
theorem settleTime : Statement .settleTime := fun _ _ h => nomatch h
theorem handoverNotice : Statement .handoverNotice := fun _ _ h => nomatch h
theorem detachNotice : Statement .detachNotice := fun _ _ h => nomatch h
theorem twWaitExpiry : Statement .twWaitExpiry := fun _ _ h => nomatch h
theorem attach (w : Writer) : Statement (.attach w) := fun _ _ h => nomatch h
theorem detach (w : Writer) : Statement (.detach w) := fun _ _ h => nomatch h
theorem handover (w : Writer) : Statement (.handover w) := fun _ _ h => nomatch h
theorem twTake (w : Writer) : Statement (.twTake w) := fun _ _ h => nomatch h
theorem accept (w : Writer) : Statement (.accept w) := fun _ _ h => nomatch h
theorem resync (w : Writer) : Statement (.resync w) := fun _ _ h => nomatch h
theorem twinCommandCompletion (code : BitVec 9) : Statement (.twinCommandCompletion code) := fun _ _ h => nomatch h
theorem mbSubmit (v : Word) : Statement (.mbSubmit v) := fun _ _ h => nomatch h
theorem relayedPiece (m : Arrival) : Statement (.relayedPiece m) := by
  intro h x hx
  cases hx
  simp only [wellFormed, Bool.and_eq_true] at h
  exact h.1
theorem build : Statement .build := fun _ _ h => nomatch h
theorem activate (w : Writer) : Statement (.activate w) := fun _ _ h => nomatch h
theorem engineTableSwitch : Statement .engineTableSwitch := fun _ _ h => nomatch h
theorem confirm (w : Writer) : Statement (.confirm w) := fun _ _ h => nomatch h
theorem abort (w : Writer) : Statement (.abort w) := fun _ _ h => nomatch h
theorem revert (w : Writer) : Statement (.revert w) := fun _ _ h => nomatch h
theorem relay (w : Writer) : Statement (.relay w) := fun _ _ h => nomatch h
theorem lapse : Statement .lapse := fun _ _ h => nomatch h
theorem powerOnReset (straps : Straps) (selfTest copyA copyB : Bool) : Statement (.powerOnReset straps selfTest copyA copyB) := fun _ _ h => nomatch h
theorem dramTraining (pop : DramPop) : Statement (.dramTraining pop) := fun _ _ h => nomatch h
theorem pcieLinkTraining (gen : BitVec 4) (width : BitVec 5) : Statement (.pcieLinkTraining gen width) := fun _ _ h => nomatch h
theorem ready : Statement .ready := fun _ _ h => nomatch h
theorem svStart (v : Word) : Statement (.svStart v) := fun _ _ h => nomatch h
theorem warmrstN : Statement .warmrstN := fun _ _ h => nomatch h
theorem rstCmd (w : Writer) (v : Word) : Statement (.rstCmd w v) := fun _ _ h => nomatch h
theorem warmReset (selfTest copyA copyB : Bool) : Statement (.warmReset selfTest copyA copyB) := fun _ _ h => nomatch h
theorem reset (w : Writer) (n : Fin 64) (v : Word) : Statement (.reset w n v) := fun _ _ h => nomatch h
theorem coreRelease (n : Fin 64) : Statement (.coreRelease n) := fun _ _ h => nomatch h
theorem pitch (w : Writer) (n : Fin 64) : Statement (.pitch w n) := fun _ _ h => nomatch h
theorem pitchCompletion (n : Fin 64) : Statement (.pitchCompletion n) := fun _ _ h => nomatch h
theorem ici (w : Writer) (n : Fin 64) : Statement (.ici w n) := fun _ _ h => nomatch h
theorem taskArea (w : Writer) (c : CoreId) (v : Word) : Statement (.taskArea w c v) := fun _ _ h => nomatch h
theorem tgroup (w : Writer) (c : CoreId) (v : Word) : Statement (.tgroup w c v) := fun _ _ h => nomatch h
theorem perstN (low : Bool) : Statement (.perstN low) := fun _ _ h => nomatch h
theorem pwrGood : Statement .pwrGood := fun _ _ h => nomatch h
theorem pwrFailN : Statement .pwrFailN := fun _ _ h => nomatch h
theorem pwrFailNRelease : Statement .pwrFailNRelease := fun _ _ h => nomatch h
theorem srLgasp (w : Writer) (v : Word) : Statement (.srLgasp w v) := fun _ _ h => nomatch h
theorem clPwr (w : Writer) (n : Fin 8) (v : Word) : Statement (.clPwr w n v) := fun _ _ h => nomatch h
theorem ioPwr (w : Writer) (v : Word) : Statement (.ioPwr w v) := fun _ _ h => nomatch h
theorem domainWake (d : Domain) : Statement (.domainWake d) := fun _ _ h => nomatch h
theorem clFreq (w : Writer) (n : Fin 8) : Statement (.clFreq w n) := fun _ _ h => nomatch h
theorem frequencySwitch (n : Fin 8) : Statement (.frequencySwitch n) := fun _ _ h => nomatch h
theorem dramClk (w : Writer) : Statement (.dramClk w) := fun _ _ h => nomatch h
theorem adjClk (w : Writer) : Statement (.adjClk w) := fun _ _ h => nomatch h
theorem coreTiming (w : Writer) (n : Fin 8) : Statement (.coreTiming w n) := fun _ _ h => nomatch h
theorem turnTiming (w : Writer) (n : Fin 8) : Statement (.turnTiming w n) := fun _ _ h => nomatch h
theorem refTiming (w : Writer) (n : Fin 8) : Statement (.refTiming w n) := fun _ _ h => nomatch h
theorem scrubTiming (w : Writer) (n : Fin 8) : Statement (.scrubTiming w n) := fun _ _ h => nomatch h
theorem patrolScrub (line : BitVec 36) (check : LineCheck) : Statement (.patrolScrub line check) := fun _ _ h => nomatch h
theorem voltageSample (mv : List Nat) : Statement (.voltageSample mv) := fun _ _ h => nomatch h
theorem cluUnfence (w : Writer) (n : Fin 8) (v : Word) : Statement (.cluUnfence w n v) := fun _ _ h => nomatch h
theorem gradientStep (degc : List Int) : Statement (.gradientStep degc) := fun _ _ h => nomatch h
theorem throttleStep (degc : List Int) : Statement (.throttleStep degc) := fun _ _ h => nomatch h
theorem prochotN (low : Bool) : Statement (.prochotN low) := fun _ _ h => nomatch h
theorem thermtrip : Statement .thermtrip := fun _ _ h => nomatch h
theorem lockstepMismatch : Statement .lockstepMismatch := fun _ _ h => nomatch h
theorem timerExpiry (n : Fin 8) : Statement (.timerExpiry n) := fun _ _ h => nomatch h
theorem watchdog : Statement .watchdog := fun _ _ h => nomatch h
theorem wdogKick (w : Writer) (v : Word) : Statement (.wdogKick w v) := fun _ _ h => nomatch h
theorem wdogCtl (w : Writer) (v : Word) : Statement (.wdogCtl w v) := fun _ _ h => nomatch h
theorem dmaPtr (w : Writer) (n : Fin 4) (v : Word) : Statement (.dmaPtr w n v) := fun _ _ h => nomatch h
theorem dmaDescriptor (n : Fin 4) (host : List Octet) (answered : Nat) : Statement (.dmaDescriptor n host answered) := fun _ _ h => nomatch h
theorem aperture (how : SlotAccess) (index : Nat) (v : BitVec 64) : Statement (.aperture how index v) := fun _ _ h => nomatch h
theorem hostDb (c : CoreId) (v : Word) : Statement (.hostDb c v) := fun _ _ h => nomatch h
theorem setWindowPointer (page off : Octet) (pecGood : Bool) : Statement (.setWindowPointer page off pecGood) := fun _ _ h => nomatch h
theorem windowRead : Statement .windowRead := fun _ _ h => nomatch h
theorem windowWrite (bytes : List Octet) (pecGood : Bool) : Statement (.windowWrite bytes pecGood) := fun _ _ h => nomatch h
theorem readResult : Statement .readResult := fun _ _ h => nomatch h
theorem pieceBufferWrite (off : Nat) (bytes : List Octet) (pecGood : Bool) : Statement (.pieceBufferWrite off bytes pecGood) := fun _ _ h => nomatch h
theorem smbusSubmit (number : Nat) (pecGood : Bool) : Statement (.smbusSubmit number pecGood) := fun _ _ h => nomatch h
theorem alertResponse : Statement .alertResponse := fun _ _ h => nomatch h
theorem bypass : Statement .bypass := fun _ _ h => nomatch h
theorem idcode : Statement .idcode := fun _ _ h => nomatch h
theorem samplePreload : Statement .samplePreload := fun _ _ h => nomatch h
theorem extest : Statement .extest := fun _ _ h => nomatch h
theorem extestPulse : Statement .extestPulse := fun _ _ h => nomatch h
theorem extestTrain : Statement .extestTrain := fun _ _ h => nomatch h
theorem clamp : Statement .clamp := fun _ _ h => nomatch h
theorem highz : Statement .highz := fun _ _ h => nomatch h
theorem dbgSel (core : Octet) : Statement (.dbgSel core) := fun _ _ h => nomatch h
theorem halt : Statement .halt := fun _ _ h => nomatch h
theorem step : Statement .step := fun _ _ h => nomatch h
theorem resume : Statement .resume := fun _ _ h => nomatch h
theorem readRegister (r : DbgReg) : Statement (.readRegister r) := fun _ _ h => nomatch h
theorem writeRegister (r : DbgReg) (v : Word) : Statement (.writeRegister r v) := fun _ _ h => nomatch h
theorem readMemory (ptr : Word) : Statement (.readMemory ptr) := fun _ _ h => nomatch h
theorem writeMemory (ptr : Word) (v : Word) : Statement (.writeMemory ptr v) := fun _ _ h => nomatch h
theorem readTrace : Statement .readTrace := fun _ _ h => nomatch h
theorem dbgCtl (w : Writer) (high : Bool) (v : Word) : Statement (.dbgCtl w high v) := fun _ _ h => nomatch h
theorem brk (w : Writer) (n : Fin 64) (v : Word) : Statement (.brk w n v) := fun _ _ h => nomatch h
theorem lock (w : Writer) (page : Fin 100) (v : Word) : Statement (.lock w page v) := fun _ _ h => nomatch h
theorem mode (w : Writer) (page : Fin 100) (v : Word) : Statement (.mode w page v) := fun _ _ h => nomatch h
theorem pageWrite (w : Writer) (page : Fin 100) (off : BitVec 8) (v : Word) : Statement (.pageWrite w page off v) := fun _ _ h => nomatch h
theorem undefinedInstruction (c : CoreId) (p0 : Parcel) (p1 : Parcel) : Statement (.undefinedInstruction c p0 p1) := fun _ _ h => nomatch h
theorem flitCrcFailure (p : Fin 9) : Statement (.flitCrcFailure p) := fun _ _ h => nomatch h
theorem protocolError (p : Fin 9) (f : Flit) : Statement (.protocolError p f) := fun _ _ h => nomatch h
theorem messageRouting (m : Arrival) : Statement (.messageRouting m) := by
  intro h x hx
  cases hx
  simp only [wellFormed] at h
  exact h
theorem zeroizeNRelease : Statement .zeroizeNRelease := fun _ _ h => nomatch h
theorem steepCommandCompletion (code : BitVec 9) : Statement (.steepCommandCompletion code) := fun _ _ h => nomatch h
theorem porstN : Statement .porstN := fun _ _ h => nomatch h
theorem hostWrite (fn : BitVec 7) (off : Nat) (v : HostAccess) (size : Nat) : Statement (.hostWrite fn off v size) := fun _ _ h => nomatch h

end WellFormedContent

end Sys2Proof.Laws
end

