-- ==== Sys2Proof/Tests/Slice0.lean ====
section
/-! SUPPORT. Tests of one step each, on small states. A theorem shows that the hypotheses of a statement's clause are met
there, and that the next state is the one the manual's rules give by hand. -/

set_option Elab.async false

namespace Sys2Proof.Tests

open Sys2Proof.Machine

/-- Core 0 runs, after reset, with memory installed. -/
def start : State := ({ State.reset with installed := 2 ^ 30 } : State).modCore 0 fun k => { k with run := .running }

/-- The same with core 0 changed by f. -/
def startWith (f : Core → Core) : State := start.modCore 0 f

/-- The same with values in G1 and G2. -/
def start2 (a b : Word) : State := startWith fun k => (k.setG 1 a).setG 2 b

/-- A command answers a next state in which p holds. -/
def gives (c : Instr) (s : State) (p : State → Bool) : Bool :=
  match exec c s with
  | .next t => p t
  | _ => false

/-- What a test compares of two states: core 0's registers, PSW, PC, CAUSE, FSR, DSR and store buffer, and memory. -/
def view (t : State) : List Nat :=
  let k := t.core 0
  [k.psw.toNat, k.pc.toNat, (k.npc.getD 0).toNat, k.slot.toNat, k.cause.toNat, k.fsr.toNat, k.dsr.toNat, k.prog.toNat,
    k.sb.length, k.fpu.length] ++ k.regs.flatMap (fun e => [e.1, e.2.toNat]) ++ t.dram.flatMap (fun e => [e.1, e.2.w.toNat])

/-- A command answers a next state that looks like t. -/
def leaves (c : Instr) (s t : State) : Bool := gives c s fun u => decide (view u = view t)

/-- Instruction i of core 0 comes to its own work, in a state in which p holds. -/
def meets (s : State) (i : Ins) (p : State → Bool) : Bool :=
  match s.issued 0 i with
  | some s1 => p s1
  | none => false

/-- Instruction c, which the decoder sees as i, comes to its own work where p holds, and leaves what f says. -/
def does (c : Instr) (i : Ins) (s : State) (f : State → State) (p : State → Bool := fun _ => true) : Bool :=
  meets s i fun s1 => p s1 && leaves c s (f s1)

/-- Word r is written to G1 with flags v and c (04 R78). -/
def arith (r : Word) (v c : Bool) (s1 : State) : State := coreDone s1 0 1 (putArith 1 r v c)

def rr : SR := ⟨1, 2⟩
def minWord : Word := 0o400000000000
def maxWord : Word := 0o377777777777
def ones : Word := 0o777777777777

/-! ### Binary sums and differences (04 R78-R80) -/

theorem test_add : does (.add 0 (.sr rr)) (alu3Ins 0o01 0 0o04 2 (.sr rr)) (start2 5 7) (arith 12 false false) = true ∧
    does (.add 0 (.si ⟨1, 0o377⟩)) (alu3Ins 0o01 0 0o04 2 (.si ⟨1, 0o377⟩)) (start2 5 7) (arith 4 false true) = true := by
  decide +kernel
theorem test_add_wraps : does (.add 0 (.li ⟨1, 1⟩)) (alu3Ins 0o01 0 0o04 2 (.li ⟨1, 1⟩)) (start2 maxWord 0)
    (fun s1 => coreDone s1 0 2 (putArith 1 minWord true false)) (fun s1 => !bit (s1.core 0).seenPsw 16) = true := by decide +kernel
theorem test_add_traps : does (.add 0 (.sr rr)) (alu3Ins 0o01 0 0o04 2 (.sr rr))
    (startWith fun k => ((k.setG 1 maxWord).setG 2 1).setPsw 16 16 1) (fun s1 => trapped s1 0 (plainExc 15 0 0))
    (fun s1 => bit (s1.core 0).seenPsw 16 && sumOverflows ((s1.core 0).g 1) ((s1.core 0).g 2)) = true := by decide +kernel
theorem test_sub : does (.sub 0 rr) (insSR 0o01 2 rr) (start2 5 7) (arith (0 - 2) false false) = true ∧
    does (.sub 0 rr) (insSR 0o01 2 rr) (start2 7 7) (arith 0 false true) = true := by decide +kernel
theorem test_sub_traps : does (.sub 0 rr) (insSR 0o01 2 rr) (startWith fun k => ((k.setG 1 minWord).setG 2 1).setPsw 16 16 1)
    (fun s1 => trapped s1 0 (plainExc 15 0 0)) (fun s1 => bit (s1.core 0).seenPsw 16) = true := by decide +kernel
theorem test_addv : does (.addv 0 rr) (insSR 0o01 4 rr) (start2 5 7) (arith 12 false false) = true := by decide +kernel
theorem test_addv_traps : does (.addv 0 rr) (insSR 0o01 4 rr) (start2 maxWord 1) (fun s1 => trapped s1 0 (plainExc 15 0 0))
    (fun s1 => !bit (s1.core 0).seenPsw 16) = true := by decide +kernel
theorem test_subv : does (.subv 0 rr) (insSR 0o01 5 rr) (start2 5 7) (arith (0 - 2) false false) = true := by decide +kernel
theorem test_subv_traps : does (.subv 0 rr) (insSR 0o01 5 rr) (start2 minWord 1)
    (fun s1 => trapped s1 0 (plainExc 15 0 0)) = true := by decide +kernel
theorem test_neg : does (.neg 0 rr) (insSR 0o02 2 rr) (start2 9 7) (arith (0 - 7) false false) = true ∧
    does (.neg 0 rr) (insSR 0o02 2 rr) (start2 9 0) (arith 0 false true) = true := by decide +kernel
theorem test_neg_least : does (.neg 0 rr) (insSR 0o02 2 rr) (start2 9 minWord) (arith minWord true false) = true ∧
    does (.neg 0 rr) (insSR 0o02 2 rr) (startWith fun k => ((k.setG 1 9).setG 2 minWord).setPsw 16 16 1)
      (fun s1 => trapped s1 0 (plainExc 15 0 0)) = true := by decide +kernel
theorem test_cmp : does (.cmp 0 (.sr rr)) (alu3Ins 0o02 3 0o05 3 (.sr rr)) (start2 minWord 1)
    (fun s1 => coreDone s1 0 1 fun k => k.setFlags (some false) (some false) (some true) (some true)) = true := by decide +kernel
theorem test_addc : does (.addc 0 rr) (insSR 0o01 1 rr) (startWith fun k => ((k.setG 1 ones).setG 2 0).setPsw 0 3 0b0101)
    (fun s1 => coreDone s1 0 1 fun k =>
      (k.setG 1 0).setFlags (some false) (some true) (some false) (some true)) = true := by decide +kernel
theorem test_subc : does (.subc 0 rr) (insSR 0o01 3 rr) (start2 7 6)
    (fun s1 => coreDone s1 0 1 fun k =>
      (k.setG 1 0).setFlags (some false) (some false) (some false) (some true)) = true := by decide +kernel

/-! ### Logic, moves and constants (04 R79; 03 R54) -/

/-- G1 receives r, of the low bits of which nothing is carried or overflows; C stays. -/
def logic (r : Word) (s1 : State) : State := coreDone s1 0 1 (putLogic 1 r)

theorem test_and : does (.and 0 (.sr rr)) (alu2Ins 0o01 6 4 (.sr rr)) (start2 0b1100 0b1010) (logic 0b1000) = true := by decide +kernel
theorem test_or : does (.or 0 (.sr rr)) (alu2Ins 0o01 7 5 (.sr rr)) (start2 0b1100 0b1010) (logic 0b1110) = true := by decide +kernel
theorem test_xor : does (.xor 0 (.sr rr)) (alu2Ins 0o02 0 6 (.sr rr)) (start2 0b1100 0b1010) (logic 0b0110) = true := by decide +kernel
theorem test_not : does (.not 0 rr) (insSR 0o02 1 rr) (start2 0 1) (logic 0o777777777776) = true := by decide +kernel
theorem test_tst : does (.tst 0 (.sr rr)) (alu2Ins 0o02 4 7 (.sr rr)) (start2 0b1100 0b0011)
    (fun s1 => coreDone s1 0 1 fun k => k.setFlags (some false) (some true) (some false) none) = true := by decide +kernel
theorem test_mov : does (.mov 0 rr) (insSR 0o02 5 rr) (start2 5 7)
    (fun s1 => coreDone s1 0 1 fun k => k.setG 1 7) = true := by decide +kernel
theorem test_li : does (.li 0 (.si ⟨1, 0o377⟩)) (insSI 0o07 ⟨1, 0o377⟩) start
    (fun s1 => coreDone s1 0 1 fun k => k.setG 1 ones) = true := by decide +kernel
theorem test_li_long : does (.li 0 (.li ⟨1, 0o10000000⟩)) (insLI 0 ⟨1, 0o10000000⟩) start
    (fun s1 => coreDone s1 0 2 fun k => k.setG 1 0o777770000000) = true := by decide +kernel
theorem test_liH : does (.liH 0 ⟨1, 0o123456⟩) { insLI 1 ⟨1, 0o123456⟩ with fields := [(14, false)] } (start2 0o654321 0)
    (fun s1 => coreDone s1 0 2 fun k => k.setG 1 0o123456654321) = true := by decide +kernel

/-! ### Products, quotients, shifts (04 R81, R82, R85) -/

/-- G1 and G2 receive a pair; G3 is the other source. -/
def pairOf (q r : Word) (n z v : Bool) (s1 : State) : State :=
  coreDone s1 0 1 fun k => ((k.setG 2 q).setG 3 r).setFlags (some n) (some z) (some v) (some false)
def p2 : SR := ⟨2, 1⟩

theorem test_mul : does (.mul 0 rr) (insSR 0o02 6 rr) (start2 6 7) (arith 42 false false) = true ∧
    does (.mul 0 rr) (insSR 0o02 6 rr) (start2 minWord 2) (arith 0 true false) = true := by decide +kernel
theorem test_mul_traps : does (.mul 0 rr) (insSR 0o02 6 rr) (startWith fun k => ((k.setG 1 minWord).setG 2 2).setPsw 16 16 1)
    (fun s1 => trapped s1 0 (plainExc 15 0 0)) = true := by decide +kernel
theorem test_mulw : does (.mulw 0 p2) (pairIns 0o02 7 p2) (start2 ones 3) (pairOf ones (0 - 3) true false false) = true := by
  decide +kernel
theorem test_mulwu : does (.mulwu 0 p2) (pairIns 0o03 0 p2) (start2 ones 3) (pairOf 2 (0 - 3) false false false) = true := by
  decide +kernel
theorem test_div : does (.div 0 p2) (pairIns 0o03 1 p2) (start2 2 (0 - 7)) (pairOf (0 - 3) (0 - 1) true false false) = true ∧
    does (.div 0 p2) (pairIns 0o03 1 p2) (start2 ones minWord) (pairOf minWord 0 true false true) = true := by decide +kernel
theorem test_div_by_zero : does (.div 0 p2) (pairIns 0o03 1 p2) (startWith fun k => (k.setG 2 5).setPsw 15 15 1)
    (fun s1 => trapped (s1.modCore 0 fun k => { k with fsr := setBit k.fsr 21 true }) 0 (plainExc 16 0 0)) = true ∧
    does (.div 0 p2) (pairIns 0o03 1 p2) (start2 0 5)
      (fun s1 => pairOf 5 0 false false true (s1.modCore 0 fun k => { k with fsr := setBit k.fsr 21 true })) = true := by decide +kernel
theorem test_divu : does (.divu 0 p2) (pairIns 0o03 2 p2) (start2 2 ones) (pairOf maxWord 1 false false false) = true := by decide +kernel
theorem test_divu_by_zero : does (.divu 0 p2) (pairIns 0o03 2 p2) (startWith fun k => (k.setG 2 5).setPsw 15 15 1)
    (fun s1 => trapped (s1.modCore 0 fun k => { k with fsr := setBit k.fsr 21 true }) 0 (plainExc 16 0 0)) = true ∧
    does (.divu 0 p2) (pairIns 0o03 2 p2) (start2 0 5)
      (fun s1 => pairOf 5 0 false false true (s1.modCore 0 fun k => { k with fsr := setBit k.fsr 21 true })) = true := by decide +kernel

/-- G1 receives r; C follows c, if the count is not zero. -/
def shifted (r : Word) (c : Option Bool) (s1 : State) : State :=
  coreDone s1 0 1 fun k => (k.setG 1 r).setFlags (some r.msb) (some (decide (r = 0))) (some false) c

theorem test_shl : does (.shl 0 (.sh ⟨1, 35⟩)) (shiftIns 0 (.sh ⟨1, 35⟩)) (start2 3 0) (shifted minWord (some true)) = true ∧
    does (.shl 0 (.sr rr)) (shiftIns 0 (.sr rr)) (start2 3 36) (shifted 0 (some false)) = true := by decide +kernel
theorem test_shr : does (.shr 0 (.sh ⟨1, 1⟩)) (shiftIns 1 (.sh ⟨1, 1⟩)) (start2 3 0) (shifted 1 (some true)) = true ∧
    does (.shr 0 (.sr rr)) (shiftIns 1 (.sr rr)) (start2 3 256) (shifted 3 none) = true := by decide +kernel
theorem test_sha : does (.sha 0 (.sh ⟨1, 4⟩)) (shiftIns 2 (.sh ⟨1, 4⟩)) (start2 minWord 0)
      (shifted 0o760000000000 (some false)) = true ∧
    does (.sha 0 (.sr rr)) (shiftIns 2 (.sr rr)) (start2 minWord 200) (shifted ones (some true)) = true := by decide +kernel
theorem test_rot : does (.rot 0 (.sh ⟨1, 3⟩)) (shiftIns 3 (.sh ⟨1, 3⟩)) (start2 0o123456701234 0)
      (shifted 0o234567012341 (some true)) = true ∧
    does (.rot 0 (.sr rr)) (shiftIns 3 (.sr rr)) (start2 5 72) (shifted 5 none) = true := by decide +kernel

/-! ### Branches and loops (03 R56, R59, R60, R62, R70; 12 R303) -/

/-- The parcel pointer p parcels after word 0's first. -/
def at_ (p : Nat) : Word := mkPtr (p / 2) (p % 2)

theorem test_bc : does (.bc 0 (.sb ⟨0, 3⟩)) (insSB 0o13 ⟨0, 3⟩) start (fun s1 => finish
    (s1.modCore 0 Core.releaseIb) 0 1 (.delayed (some (at_ 3)))) = true := by decide +kernel
theorem test_bc_not_taken : does (.bc 0 (.sb ⟨1, 3⟩)) (insSB 0o13 ⟨1, 3⟩) start (fun s1 => finish
    (s1.modCore 0 fun k => k.predict false) 0 1 (.delayed none)) = true := by decide +kernel
theorem test_bc_long : does (.bc 0 (.lb ⟨0, 0, 0o1234, 1, 0⟩)) (insLB 0 ⟨0, 0, 0o1234, 1, 0⟩ false) start (fun s1 => finish
    (s1.modCore 0 Core.releaseIb) 0 2 (.delayed (some (mkPtr 0o1234 1)))) = true := by decide +kernel
theorem test_bal : gives (.bal 0 ⟨⟨0, 7, 0o1234, 0, 0⟩, false⟩) start (fun t =>
    (t.core 0).g 7 == at_ 3 && (t.core 0).npc == some (mkPtr 0o1234 0) && (t.core 0).pc == at_ 2) = true ∧
    meets start (insLB 1 ⟨0, 7, 0o1234, 0, 0⟩ true) (fun _ => true) = true := by decide +kernel
theorem test_jr : does (.jr 0 ⟨2⟩) { insSX 0 0o014 ⟨2⟩ with barred := true } (start2 0 (mkPtr 0o3000777 1)) (fun s1 =>
    finish (s1.modCore 0 fun k => { k with ib := 0o14, ibHeld := none }) 0 1 (.delayed (some (mkPtr 0o3000777 1))))
    (fun s1 => decide (ptrNib ((s1.core 0).g 2) ≤ 1)) = true := by decide +kernel
theorem test_jr_alignment : does (.jr 0 ⟨2⟩) { insSX 0 0o014 ⟨2⟩ with barred := true } (start2 0 (mkPtr 8 2)) (fun s1 =>
    trapped s1 0 (plainExc 11 0 2)) = true := by decide +kernel
def loopIns : Ins := { insSL 0o16 ⟨2, 3⟩ with place := [(1, false), (3, false)] }
theorem test_loop : does (.loop 0 ⟨⟨2, 3⟩, false⟩) loopIns (start2 0 5) (fun s1 => coreDone s1 0 1 fun k =>
    ({ k with lc := 5, ls := wd (bankOff (at_ 1)), le := wd (bankOff (at_ 4)) }).setPsw 24 24 1)
    (fun s1 => decide ((s1.core 0).g 2 ≠ 0)) = true := by decide +kernel
theorem test_loop_empty : does (.loop 0 ⟨⟨2, 3⟩, false⟩) loopIns (start2 0 0) (fun s1 => finish s1 0 1 (.jump (at_ 5)))
    (fun s1 => decide ((s1.core 0).g 2 = 0)) = true := by decide +kernel

/-- At a loop's end, with a turn left and with none. -/
theorem test_loop_end :
    (let k : Core := { (start.core 0) with pc := at_ 4, ls := wd (bankOff (at_ 1)), le := wd (bankOff (at_ 4)), lc := 2 }
     let k := k.setPsw 24 24 1
     k.atLoopEnd && decide ((k.advancePc 1 .seq).pc = at_ 1) && decide ((k.advancePc 1 .seq).lc = 1)) = true ∧
    (let k : Core := { (start.core 0) with pc := at_ 4, ls := wd (bankOff (at_ 1)), le := wd (bankOff (at_ 4)), lc := 1 }
     let k := k.setPsw 24 24 1
     k.atLoopEnd && decide ((k.advancePc 1 .seq).pc = at_ 5) && !bit (k.advancePc 1 .seq).psw 24) = true := by decide +kernel

/-! ### Gates, returns, traps and barriers (09 R205, R208-R210, R217; 10 R231; 12 R294, R299) -/

/-- Core 0 in a gate of bank T, window 0, EN[3] leading to domain 5 at parcel 0o100 of bank 0. -/
def inT (en : Word) (res : Nat) (c15 : Tok) : State := startWith fun k =>
  { (k.setPsw 18 19 0).setTok 15 c15 with tRing := ⟨0, 0, res⟩, en := tset 0 k.en 3 en }
def gate5 : Word := fld 0 0 1 ||| fld 1 12 5 ||| fld 18 34 0o100
def enterIns (ra : BitVec 5) : Ins := { insSX0 0 7 16 ⟨ra⟩ with barred := true, grp := 9, place := [(4, false)] }
def leaveIns : Ins := { insSX0 0 6 1 ⟨0⟩ with barred := true, grp := 9, place := [(4, false)] }

theorem test_enter : meets (inT gate5 1 Tok.clear) (enterIns 3) (fun _ => true) = true ∧
    gives (.enter 0 ⟨3⟩) (inT gate5 1 Tok.clear) (fun t => let k := t.core 0
      k.pc == mkPtr 0o100 0 && k.tRing == ⟨1, 0, 2⟩ && k.domTok.dom == 5 && (k.tok 15).tag && (k.tok 15).type == 2 &&
      (k.tok 15).stype == 15 && ptrWord (k.tok 15).b == 0) = true := by decide +kernel
theorem test_enter_refused : does (.enter 0 ⟨3⟩) (enterIns 3) (inT 0 1 Tok.clear) (fun s1 => trapped s1 0 (plainExc 5 2 3)) = true ∧
    does (.enter 0 ⟨3⟩) (enterIns 3) (inT gate5 10 Tok.clear) (fun s1 => trapped s1 0 (plainExc 18 0 0)) = true ∧
    does (.enter 0 ⟨3⟩) (enterIns 3) (inT gate5 1 { a := fld 0 3 2, b := 0, tag := true }) (fun s1 =>
      trapped s1 0 (plainExc 5 2 3)) = true := by decide +kernel

/-- A sealed return to parcel 9 of domain 6. -/
def returnTok : Tok :=
  { a := fld 0 3 2 ||| fld 4 4 1 ||| fld 17 17 1 ||| fld 24 35 6, b := mkPtr 4 15, tag := true }
theorem test_leave : meets (inT 0 2 returnTok) leaveIns (fun s1 => decide ((s1.core 0).tRing.res ≠ 1)) = true ∧
    gives (.leave 0 ⟨0⟩) (inT 0 2 returnTok) (fun t => let k := t.core 0
      k.pc == at_ 9 && k.tRing == ⟨10, 0, 1⟩ && k.domTok.dom == 6) = true := by decide +kernel
theorem test_leave_refused : does (.leave 0 ⟨0⟩) leaveIns (inT 0 2 Tok.clear) (fun s1 => trapped s1 0 (plainExc 5 2 16)) = true ∧
    does (.leave 0 ⟨0⟩) leaveIns (inT 0 1 returnTok) (fun s1 => trapped s1 0 (plainExc 19 0 10)) = true := by decide +kernel

/-- RETI's checks pass in bank F, in a trap window, at bank E's frame, and in bank H at depth 1. -/
def retiIns : Ins := { insSX0 0 5 1 ⟨0⟩ with barred := true, place := [(4, false), (5, false)] }
def savedAt (pc psw : Word) : Hidden :=
  { live := true, under := false, cause := 0, pc := at_ 6, npc := pc, psw := psw }
def inF : State := startWith fun k => { k.setPsw 18 19 2 with hidF := savedAt (at_ 7) (fld 9 12 3 ||| fld 25 25 1) }
theorem test_reti_refill : meets inF retiIns (fun s1 => decide ((s1.core 0).bank = 2)) = true ∧
    gives (.reti 0 ⟨0⟩) inF (fun t => let k := t.core 0
      k.pc == at_ 6 && k.npc == some (at_ 7) && k.slot && k.bank == 0 && bits k.psw 9 12 == 3 && !k.hidF.live) = true := by
  decide +kernel
theorem test_trap : does (.trap 0 ⟨21⟩) { insSX0 0 0o010 32 ⟨21⟩ with barred := true } start (fun s1 =>
    coreDone s1 0 1 fun k => { k with after := some (24, 21) }) = true ∧
    meets inF { insSX0 0 0o010 32 ⟨21⟩ with barred := true } (fun s1 => decide (2 ≤ (s1.core 0).bank)) = true := by decide +kernel

/-- Words of main memory. -/
def withMem (ws : List (Nat × Word)) (s : State) : State :=
  { s with dram := ws.foldl (fun m e => tset Cell.zero m e.1 { w := e.2, tag := false }) s.dram }

/-- In bank H, at depth 1, a full frame at word 0o4000 that returns to bank T's window 0. -/
def inH : State := withMem [(0o4000, at_ 8), (0o4001, at_ 9), (0o4002, fld 9 12 3), (0o4003, 0o77), (0o4004, 6)]
  (startWith fun k => ({ k with regs := tset 0 k.regs 15 (mkPtr 0o4000 0) } : Core).setPsw 14 14 0)
theorem test_reti_full : meets inH retiIns (fun s1 => decide ((s1.core 0).bank = 1 ∧ (s1.core 0).inTrap = false ∧
      ptrNib (s1.core 0).hg7 = 0) && (match (readFrame 0 0 12).run s1 with
        | .ok w _ => decide (w.length = 12 ∧ w.getD 0 0 = at_ 8 ∧ w.getD 3 0 = 0o77)
        | .error _ _ => false)) = true ∧
    gives (.reti 0 ⟨0⟩) inH (fun t => let k := t.core 0
      k.pc == at_ 8 && k.npc == some (at_ 9) && k.bank == 0 && bits k.psw 9 12 == 3 && k.depth == 0 && k.prog == 0o77 &&
      k.lc == 6 && k.hg7 == mkPtr (0o4000 + 0o3300 / 16) 0) = true := by decide +kernel
/-- An interrupt of vector 35 is due as the frame returns: RETI leads to its handler instead, at the same depth. -/
def inHChained : State := withMem [(0o4002, fld 8 8 1), (70, at_ 5), (71, fld 24 27 4)]
  (inH.modCore 0 fun k => ({ k with pend := BitVec.ofNat 32 (2 ^ 28) } : Core).setPsw 14 14 1)
theorem test_reti_chained : meets inHChained retiIns (fun s1 => bit (s1.core 0).psw 14 && !(s1.core 0).mark.after &&
      !s1.deferred 0 && decide (s1.eligibleInt 0 (fld 8 8 1) = some 35)) = true ∧
    gives (.reti 0 ⟨0⟩) inHChained (fun t => let k := t.core 0
      k.pc == at_ 5 && k.bank == 1 && bits k.psw 9 12 == 4 && k.depth == 1 && k.cause == mkCause 35 0 0) = true := by decide +kernel

def inTrapWindow : State := startWith fun k => { (k.setPsw 18 19 0).setPsw 20 23 11 with
  hidT := { savedAt (at_ 7) (fld 20 23 0) with under := true }, tRing := ⟨0, 3, 2⟩ }
theorem test_reti_window : meets inTrapWindow retiIns (fun s1 => (s1.core 0).inTrap) = true ∧
    gives (.reti 0 ⟨0⟩) inTrapWindow (fun t => let k := t.core 0
      k.pc == at_ 6 && k.npc == some (at_ 7) && k.tRing == ⟨0, 2, 3⟩ && !k.hidT.live) = true := by decide +kernel

/-- Bank E with a frame at ESP 0o20000. -/
def inE : State := withMem [(0o20000, at_ 8), (0o20001, at_ 9), (0o20002, fld 9 12 3 ||| fld 18 19 0), (0o20003, 0o77)]
  (startWith fun k => { k.setPsw 18 19 3 with esp := fld 0 31 (0o20000 / 256) ||| fld 32 32 1 })
theorem test_reti_machine_check : meets inE retiIns (fun s1 => decide ((s1.core 0).bank = 3 ∧
      (s1.rd (bits (s1.core 0).esp 0 31 * 256 + 2)).w = fld 9 12 3)) = true ∧
    gives (.reti 0 ⟨0⟩) inE (fun t => let k := t.core 0
      k.pc == at_ 8 && k.npc == some (at_ 9) && k.bank == 0 && k.prog == 0o77) = true := by decide +kernel

theorem test_sync : does (.sync 0 ⟨0⟩) (insSX0 0 2 1 ⟨0⟩) start (fun s1 => finish s1 0 1 .seq)
    (fun s1 => decide ((s1.core 0).sb = [])) = true := by decide +kernel
/-- A word waiting in the store buffer. -/
def stored : State := startWith fun k => { k with sb := [⟨0o4000, 0b1111, 0o55, false, false, false, false⟩] }
theorem test_sync_waits : does (.sync 0 ⟨0⟩) (insSX0 0 2 1 ⟨0⟩) stored (fun s1 => waitsFor s1 0 .storeBuffer) = true ∧
    does (.iflush 0 ⟨0⟩) (insSX0 0 3 1 ⟨0⟩) stored (fun s1 => waitsFor s1 0 .storeBuffer) = true ∧
    does (.wait 0 ⟨0⟩) { insSX0 0 1 1 ⟨0⟩ with place := [(4, false)] } stored (fun s1 => waitsFor s1 0 .storeBuffer) = true := by
  decide +kernel
theorem test_iflush : does (.iflush 0 ⟨0⟩) (insSX0 0 3 1 ⟨0⟩) (startWith fun k => { k with icache := [3] })
    (fun s1 => coreDone s1 0 1 fun k => { k.settleInstr with icache := [] }) = true := by decide +kernel
theorem test_fbar : does (.fbar 0 ⟨0⟩) (insSX0 0 4 1 ⟨0⟩) start (fun s1 => finish s1 0 1 .seq) = true ∧
    does (.fbar 0 ⟨0⟩) (insSX0 0 4 1 ⟨0⟩) (startWith fun k => { k with fsr := fld 19 19 1 })
      (fun s1 => trapped s1 0 (plainExc 17 0 0)) = true := by decide +kernel
theorem test_wait : does (.wait 0 ⟨0⟩) { insSX0 0 1 1 ⟨0⟩ with place := [(4, false)] } start (fun s1 =>
    waitsFor (s1.modCore 0 fun k => { k with run := .waiting }) 0 .interrupt) = true := by decide +kernel

/-! ### Special registers and translation (03 R55, R60, R61, R65; 11 R270, R276-R278) -/

theorem test_tlbw : does (.tlbw 0 ⟨0⟩) (insSX0 0 0o011 1 ⟨0⟩)
    (startWith fun k => { k with tlbTag := fld 0 31 0o10000, tlbData := fld 0 28 3 ||| fld 29 29 1 })
    (fun s1 => coreDone s1 0 1 fun k => (k.tlbChange true false (.write 0 (tlbEntryOf 0 (fld 0 31 0o10000)
      (fld 0 28 3 ||| fld 29 29 1)))).endIdentity)
    (fun s1 => (s1.core 0).domTok.system && (tlbwFault 0 ((s1.core 0).sprSeen 49 0) 0).isNone) = true := by decide +kernel
/-- A core whose C0 has no SYSTEM, in a page that its domain 5 may use, its frames at word 0o3000. -/
def page0 : TlbEntry := ⟨true, 0, 0, false, 5, 0, true, true, true, true, false, false, false⟩
def plain : State := startWith fun k => { k with
  c0H := domainToken 5 0 false, idI := false, idD := false, itlb := [(0, page0)], dtlb := [(0, page0)]
  regs := tset 0 k.regs 15 (mkPtr 0o3000 0) }
theorem test_tlbw_refused : does (.tlbw 0 ⟨0⟩) (insSX0 0 0o011 1 ⟨0⟩) plain (fun s1 => trapped s1 0 (plainExc 5 0 0))
      (fun s1 => !(s1.core 0).domTok.system) = true := by decide +kernel
theorem test_tlbi : does (.tlbi 0 ⟨2⟩) (insSX 0 0o012 ⟨2⟩) (start2 0 (fld 0 1 2))
    (fun s1 => coreDone s1 0 1 fun k => k.tlbChange true true .invAll) = true := by decide +kernel
theorem test_tlbi_refused : does (.tlbi 0 ⟨2⟩) (insSX 0 0o012 ⟨2⟩) (start2 0 1) (fun s1 => trapped s1 0 (plainExc 4 2 2)) = true ∧
    does (.tlbi 0 ⟨2⟩) (insSX 0 0o012 ⟨2⟩) plain (fun s1 => trapped s1 0 (plainExc 5 0 0)) = true := by decide +kernel
theorem test_kinv : does (.kinv 0 ⟨2⟩) (insSX 0 0o013 ⟨2⟩) (start2 0 (mkPtr 0o10000 0)) (fun s1 => finish (s1.kcDrop 2) 0 1 .seq)
    (fun s1 => match (s1.core 0).lookup .read 0o10000 (s1.core 0).domTok.dom with
      | some e => !e.dev
      | none => false) = true := by decide +kernel
theorem test_sprMove_reads : does (.sprMove 0 (.toG ⟨1, 3⟩)) (sprIns 0o14 ⟨1, 3⟩) (startWith fun k => { k with lc := 9 })
    (fun s1 => coreDone s1 0 1 fun k => k.setG 1 9) = true := by decide +kernel
theorem test_sprMove_writes : does (.sprMove 0 (.toS ⟨1, 6⟩)) (sprIns 0o15 ⟨1, 6⟩) (start2 0o77 0)
    (fun s1 => coreDone s1 0 1 fun k => k.sprWrite 6 0o77) (fun s1 => !(s1.core 0).sprBad 6 0o77) = true ∧
    does (.sprMove 0 (.toS ⟨1, 0⟩)) (sprIns 0o15 ⟨1, 0⟩) (start2 1 0) (fun s1 => trapped s1 0 (plainExc 4 1 0))
      (fun s1 => (s1.core 0).sprBad 0 1) = true := by decide +kernel
/-- A special register written with a distance still reads old inside it. -/
theorem test_sprMove_distance : (let e := (start.core 0).sprWrite 14 0o300; decide (e.loopSeen 14 (e.sprLive 14) = 0)) = true := by
  decide +kernel

/-! ### Floating point (04 R87-R96) -/

/-- 1, 2, 3 and the largest number of the single format (04 R88: 9 exponent bits, 26 of fraction). -/
def fl1 : Word := 255 * 2 ^ 26
def fl2 : Word := 256 * 2 ^ 26
def fl3 : Word := 256 * 2 ^ 26 + 2 ^ 25
def flMax : Word := 511 * 2 ^ 26 - 1

/-- The unit receives one single operation with destination register 1. -/
def queued (op : FOp) (dst x y z : Nat) (pair : Bool) (len : Nat) (d : Bool) (s1 : State) : State := coreDone s1 0 len fun k =>
  { k with fpu := [{ op, dbl := d, dst := (k.loc dst).getD 0, pair, x, y, z, rm := 0, ftz := false, en := 0, pc := 0 }] }

theorem test_fadd : does (.fadd 0 false rr) (fltIns 0o17 0 false false rr) (start2 fl1 fl2)
    (queued .add 1 fl1.toNat fl2.toNat 0 false 1 false) = true := by decide +kernel
theorem test_fsub : does (.fsub 0 false rr) (fltIns 0o17 1 false false rr) (start2 fl1 fl2)
    (queued .sub 1 fl1.toNat fl2.toNat 0 false 1 false) = true := by decide +kernel
theorem test_fmul : does (.fmul 0 true ⟨2, 4⟩) (fltIns 0o20 2 true true ⟨2, 4⟩) (startWith fun k => (k.setG 2 1).setG 5 7)
    (queued .mul 2 (2 ^ 36) 7 0 true 1 true) = true := by decide +kernel
theorem test_fdiv : does (.fdiv 0 false rr) (fltIns 0o17 3 false false rr) (start2 fl1 fl2)
    (queued .div 1 fl1.toNat fl2.toNat 0 false 1 false) = true := by decide +kernel
def busyOp (op : FOp) (dst x y : Nat) : FpuOp :=
  { op, dbl := false, dst, pair := false, x, y, z := 0, rm := 0, ftz := false, en := 0, pc := 0o44 }
theorem test_fdiv_waits : does (.fdiv 0 false rr) (fltIns 0o17 3 false false rr)
      (startWith fun k => { k with fpu := [busyOp .sqrt 7 0 0] }) (fun s1 => waitsFor s1 0 .floating) = true ∧
    does (.fsqrt 0 false rr) (fltIns 0o17 4 false false rr) (startWith fun k => { k with fpu := [busyOp .div 7 0 0] })
      (fun s1 => waitsFor s1 0 .floating) = true := by decide +kernel
theorem test_fsqrt : does (.fsqrt 0 false rr) (fltIns 0o17 4 false false rr) (start2 fl1 fl2)
    (queued .sqrt 1 0 fl2.toNat 0 false 1 false) = true := by decide +kernel
theorem test_fcvt : does (.fcvt 0 .dw ⟨2, 1⟩) (fltIns 0o21 2 true false ⟨2, 1⟩) (start2 7 0)
    (queued (.cvt .dw) 2 0 7 0 true 1 false) = true := by decide +kernel
theorem test_fma : does (.fma 0 false ⟨1, 2, 0, 3, 0o30⟩)
    { insLR 0o35 0o040 ⟨1, 2, 0, 3, 0o30⟩ with
      fields := [(5, false), (10, false), (15, false), (26, false), (33, false)]
      regs := [(5, 1), (10, 2), (26, 3)], flt := true } (start2 fl1 fl2)
    (queued (.fma true true) 1 fl2.toNat 0 fl1.toNat false 2 false) = true := by decide +kernel

/-- 1 + 2 = 3, nothing raised; 3 / 0 raises DZ and, enabled, its trap. -/
theorem test_floatingCompletion : gives (.floatingCompletion 0 0) (startWith fun k => { k with
      fpu := [busyOp .add 9 fl1.toNat fl2.toNat] }) (fun t =>
      tget 0 (t.core 0).regs 9 == fl3 && (t.core 0).fsr == 0 && (t.core 0).fpu == []) = true ∧
    gives (.floatingCompletion 0 1) start (fun t => view t == view start) = true := by decide +kernel
theorem test_floatingCompletion_traps : gives (.floatingCompletion 0 0) (startWith fun k => { k with
      fsr := fld 5 5 1, fpu := [{ busyOp .div 9 fl3.toNat 0 with en := fld 5 5 1 }] }) (fun t =>
      bit (t.core 0).fsr 19 && (t.core 0).fq == 0o44 && tget 0 (t.core 0).regs 9 == 0 && bit (t.core 0).fsr 10) = true ∧
    gives (.floatingCompletion 0 0) (startWith fun k => { k with
      fsr := fld 5 5 1 ||| fld 19 19 1, fpu := [{ busyOp .div 9 fl3.toNat 0 with en := fld 5 5 1 }] }) (fun t =>
      bit (t.core 0).fsr 20 && (t.core 0).fq == 0) = true := by decide +kernel
theorem test_fcmp : does (.fcmp 0 false rr) (fltIns 0o17 5 false false rr) (start2 fl1 fl2)
    (fun s1 => coreDone s1 0 1 fun k => k.setPsw 0 3 8)
    (fun s1 => decide ((fmtOf false).compare fl1.toNat fl2.toNat = (8, 0) ∧ (s1.core 0).fsr = 0)) = true := by decide +kernel
theorem test_special_operands :
    fmt36.compute .div 0 false false flMax.toNat 0 0 = (fmt36.infEnc false, fDZ) ∧
    fmt36.compute .sqrt 0 false false 0 (fl2.toNat * 2) 0 = fmt36.compute .sqrt 0 false false 0 (fl2.toNat * 2) 0 ∧
    fmt36.compute .add 3 false false 0 (2 ^ 35) 0 = (2 ^ 35, 0) := by decide +kernel

/-! ### Decimal arithmetic on accumulators (05 R105-R113) -/

/-- Accumulators D0 and D1 hold a and b; G1 and G2 hold x and y. -/
def dec (a b : Int) (x y : Word) : State := startWith fun k =>
  (((k.setAcc 0 (accOf (nibsOf 71 a).1)).setAcc 1 (accOf (nibsOf 71 b).1)).setG 1 x).setG 2 y
def holds (d : Nat) (v : Int) (s1 : State) : Bool :=
  let ns := accNibs ((s1.core 0).acc d)
  decide (badNib ns 71 = none ∧ v = nibsInt ns 71)
def dd (rg : BitVec 5) : SD := ⟨0, 1, rg⟩
def d0 (rg : BitVec 5) : SD := ⟨0, 0, rg⟩

theorem test_dadd : does (.dadd 0 (dd 0)) (insSD 0 (dd 0) true false) (dec 25 (-40) 0 0)
    (fun s1 => accResult s1 0 1 0 (-15) false) (fun s1 => holds 0 25 s1 && holds 1 (-40) s1) = true := by decide +kernel
theorem test_dsub : does (.dsub 0 (dd 0)) (insSD 1 (dd 0) true false) (dec 25 25 0 0) (fun s1 => accResult s1 0 1 0 0 false)
    (fun s1 => holds 0 25 s1 && holds 1 25 s1) = true := by decide +kernel
theorem test_dmul : does (.dmul 0 (dd 0) false) { insSD 2 (dd 0) true false with ctl := true } (dec 12 (-12) 0 0)
    (fun s1 => accResult s1 0 1 0 (-144) false) (fun s1 => holds 0 12 s1 && holds 1 (-12) s1) = true := by decide +kernel
def ddivIns (o : SD) : Ins :=
  { insSD 3 o true true with ctl := true, fields := (5, false) :: (insSD 3 o true true).fields }
theorem test_ddiv : does (.ddiv 0 (dd 1) false) (ddivIns (dd 1)) (dec (-7) 2 1 0) (fun s1 => accResult
      (s1.modCore 0 fun k => k.setAcc 1 (accOf (nibsOf 71 0).1)) 0 1 0 (-35) false)
    (fun s1 => holds 0 (-7) s1 && holds 1 2 s1) = true := by decide +kernel
theorem test_ddiv_by_zero : does (.ddiv 0 (dd 1) false) (ddivIns (dd 1)) (dec 7 0 71 0)
    (fun s1 => trapped s1 0 (plainExc 14 0 0)) (fun s1 => holds 1 0 s1) = true := by decide +kernel
theorem test_dcmp : does (.dcmp 0 (dd 0)) (insSD 4 (dd 0) true false) (dec (-7) 2 0 0) (fun s1 => coreDone s1 0 1 fun k =>
    k.setFlags (some true) (some false) (some false) (some false)) (fun s1 => holds 0 (-7) s1 && holds 1 2 s1) = true := by
  decide +kernel
theorem test_dshf : does (.dshf 0 (d0 1)) (insSD 5 (d0 1) false true) (dec (-125) 0 (0 - 1) 0)
      (fun s1 => accResult s1 0 1 0 (-12) true) (fun s1 => holds 0 (-125) s1 && decide (bits (s1.core 0).dsrSeen 0 1 = 0)) = true ∧
    does (.dshf 0 (d0 1)) (insSD 5 (d0 1) false true) (dec (-125) 0 2 0) (fun s1 => accResult s1 0 1 0 (-12500) false) = true := by
  decide +kernel
theorem test_drnd : does (.drnd 0 (d0 1)) (insSD 6 (d0 1) false true) (dec 1249 0 2 0)
      (fun s1 => accResult s1 0 1 0 1200 true) = true ∧
    does (.drnd 0 (d0 1)) (insSD 6 (d0 1) false true) (dec 1249 0 0 0) (fun s1 => coreDone s1 0 1 fun k =>
      k.setFlags (some false) (some false) none none) = true := by decide +kernel
theorem test_dcvb : does (.dcvb 0 (d0 2) false) (cvIns 7 (d0 2)) (dec (-1) 0 0 0) (fun s1 => decEnd
    (s1.modCore 0 fun k => (k.setG 2 ones).setG 3 ones) 0 1 true false false false) (fun s1 => holds 0 (-1) s1) = true := by
  decide +kernel
theorem test_dcvd : does (.dcvd 0 (d0 2) false) (cvIns 8 (d0 2)) (dec 0 0 0 1) (fun s1 => accResult s1 0 1 0 68719476736 false)
      = true ∧
    does (.dcvd 0 (d0 2) true) (cvIns 8 (d0 2)) (dec 0 0 0 1) (fun s1 => (waitsFor s1 0 .microTrap).endStep 0) = true := by
  decide +kernel
/-- An accumulator whose nibble 3 is no digit. -/
def badAcc : State := startWith fun k => k.setAcc 0 (accOf ([0, 0, 0, 10] ++ List.replicate 68 12))
theorem test_decimal_data : does (.dadd 0 (dd 0)) (insSD 0 (dd 0) true false) badAcc (fun s1 => trapped s1 0 (plainExc 12 2 3))
      (fun s1 => decide (badNib (accNibs ((s1.core 0).acc 0)) 71 = some 3)) = true ∧
    does (.dcmp 0 ⟨1, 0, 0⟩) (insSD 4 ⟨1, 0, 0⟩ true false)
      (badAcc.modCore 0 fun k => k.setAcc 1 (accOf (nibsOf 71 0).1))
      (fun s1 => trapped s1 0 (plainExc 12 3 3)) (holds 1 0) = true := by decide +kernel
theorem test_field_reads_back : nibsInt (nibsOf 3 (-1007)).1 3 = -7 ∧ (nibsOf 3 (-1007)).2 = true ∧
    packed26 (toPacked26 (-(10 ^ 26 - 1))) = some (-(10 ^ 26 - 1)) := by decide +kernel

/-! ### Decimal fields in memory (05 R114-R121) -/

/-- An operation on the state answers, and p holds of what it answers and leaves. -/
def yields {α : Type} (m : M α) (s : State) (p : α → State → Bool) : Bool :=
  match m.run s with
  | .ok a t => p a t
  | .error _ _ => false

/-- A word of nine digits, the first ones given. -/
def digits (ds : List Nat) : Word := wd ((ds ++ List.replicate (9 - ds.length) 0).foldl (fun r d => r * 16 + d) 0)
/-- A word of characters, the first ones given. -/
def chars (cs : List Nat) : Word := wd ((cs ++ List.replicate (4 - cs.length) 0).foldl (fun r d => r * 512 + d) 0)

/-- The field 125 at word 0o4000, minus 30 at 0o4010; G1 to G5 as given. -/
def fields (g1 g2 g3 g4 : Word) : State := withMem [(0o4000, digits [1, 2, 5, 12]), (0o4010, digits [3, 0, 13])]
  (startWith fun k => ((((k.setAcc 0 (accOf (nibsOf 71 1254).1)).setG 1 g1).setG 2 g2).setG 3 g3).setG 4 g4)
def at4000 : Word := mkPtr 0o4000 0
def at4010 : Word := mkPtr 0o4010 0
def at4020 : Word := mkPtr 0o4020 0

theorem test_dld : meets (fields 1 at4000 3 0) (dldIns 0 ⟨1, 2, 0, 3, 0⟩) (fun s1 =>
    yields (readPacked 0 at4000 3 1) s1 fun x s2 => decide (x = [1, 2, 5, 12]) &&
      leaves (.dld 0 ⟨1, 2, 0, 3, 0⟩ false) (fields 1 at4000 3 0) (accResult s2 0 2 0 1250 false)) = true := by decide +kernel
theorem test_dst : meets (fields 1 at4020 3 0) (dldIns 1 ⟨1, 2, 0, 3, 0⟩) (fun s1 => holds 0 1254 s1 &&
      yields (probeField 0 at4020 4 9 1) s1 fun ps s2 => yields (writePieces 0 at4020 9 ps setDigit [1, 2, 5, 12]) s2 fun _ s3 =>
        leaves (.dst 0 ⟨1, 2, 0, 3, 0⟩ false) (fields 1 at4020 3 0) (decResult s3 0 2 3 125 true)) = true := by decide +kernel
/-- The lengths word of three operands. -/
def lens (r a b : Nat) : Word := fld 12 19 r ||| fld 20 27 a ||| fld 28 35 b
def o5 : LR := ⟨1, 2, 0, 3, 4⟩
/-- A three-operand decimal instruction whose operands 125 and -30 give v in a field of 4 digits. -/
def threeOp (c : Instr) (i : Ins) (v : Int) : Bool :=
  let s := fields at4020 at4000 at4010 (lens 4 3 2)
  meets s i fun s1 => yields (readPacked 0 at4000 3 1) s1 fun x s2 => yields (readPacked 0 at4010 2 2) s2 fun y s3 =>
    decide (badNib x 3 = none ∧ nibsInt x 3 = 125 ∧ badNib y 2 = none ∧ nibsInt y 2 = -30) &&
    yields (probeField 0 at4020 5 9 0) s3 fun ps s4 => yields (writePieces 0 at4020 9 ps setDigit (nibsOf 4 v).1) s4 fun _ s5 =>
      leaves c s (decResult s5 0 2 4 v false)
theorem test_daddm : threeOp (.daddm 0 o5 false) (arithIns 2 true o5) 95 = true := by decide +kernel
theorem test_dsubm : threeOp (.dsubm 0 o5 false) (arithIns 3 true o5) 155 = true := by decide +kernel
theorem test_dmulm : threeOp (.dmulm 0 o5 false) (arithIns 4 true o5) (-3750) = true := by decide +kernel
theorem test_dcmpm : meets (fields 0 at4000 at4010 (lens 0 3 2)) (arithIns 5 false ⟨0, 2, 0, 3, 4⟩) (fun s1 =>
    yields (readPacked 0 at4000 3 1) s1 fun _ s2 => yields (readPacked 0 at4010 2 2) s2 fun _ s3 =>
      leaves (.dcmpm 0 ⟨0, 2, 0, 3, 4⟩ false) (fields 0 at4000 at4010 (lens 0 3 2)) (coreDone s3 0 2 fun k =>
        k.setFlags (some false) (some false) (some false) (some true))) = true := by decide +kernel
/-- Zoned 12 with a minus in its last character's zone, as PKZ writes it, and its packing. -/
theorem test_pkz : gives (.pkz 0 ⟨1, 2, 0, 3, 0⟩ false) (fields at4020 at4010 (lens 0 2 2) 0) (fun t =>
      yields (readZoned 0 at4020 2 1) t fun x _ => decide (zonedValue x false = .ok (-30))) = true ∧
    meets (fields at4020 at4010 (lens 0 2 2) 0) (zonedIns 7 ⟨1, 2, 0, 3, 0⟩) (fun _ => true) = true := by decide +kernel
theorem test_zpk : (match exec (.pkz 0 ⟨1, 2, 0, 3, 0⟩ false) (fields at4020 at4010 (lens 0 2 2) 0) with
    | .next t => gives (.zpk 0 ⟨1, 2, 0, 3, 0⟩ false) (t.modCore 0 fun k => (k.setG 1 (mkPtr 0o4030 0)).setG 2 at4020) fun u =>
        decide ((u.rd 0o4030).w = digits [3, 0, 13])
    | _ => false) = true := by decide +kernel
/-- 05 Table 05-8's Luhn check digit of 7992739871 is 3. -/
theorem test_ckd : gives (.ckd 0 ⟨1, 2, 0, 3, 0⟩ false)
    (withMem [(0o4000, digits [7, 9, 9, 2, 7, 3, 9, 8, 7]), (0o4001, digits [1, 3])] (fields 0 at4000 10 0)) (fun t =>
    (t.core 0).g 1 == 3 && bits (t.core 0).psw 0 2 == 0) = true ∧
    gives (.ckd 0 ⟨1, 2, 0, 3, 0b00100⟩ false)
      (withMem [(0o4000, digits [7, 9, 9, 2, 7, 3, 9, 8, 7]), (0o4001, digits [1, 3])] (fields 0 at4000 11 0)) (fun t =>
      (t.core 0).g 1 == 3 && bits (t.core 0).psw 0 2 == 2) = true := by decide +kernel

/-! ### Loads and stores (12 R287-R291; 11 R266, R280) -/

/-- Line 128, the words from 0o4000 to 0o4017, is in the data cache. -/
def cached (s : State) : State := s.modCore 0 fun k => { k with dcache := [(128, false)] }


theorem test_ld : does (.ld 0 (.lm ⟨1, 2, 128⟩)) (memIns 0o10 0 0o30 0 (.lm ⟨1, 2, 128⟩)) (cached (withMem [(0o4010, 0o77)] (start2 0 at4000)))
    (fun s1 => coreDone s1 0 2 fun k => k.setG 1 0o77)
    (fun s1 => yields (loadAt 0 (s1.core 0).domTok plainOpt true 0o4010 1) s1 fun ws t =>
      decide (ws = [⟨0o77, false⟩] ∧ view t = view s1)) = true := by decide +kernel
theorem test_ld_alignment : does (.ld 0 (.lm ⟨1, 2, 0⟩)) (memIns 0o10 0 0o30 0 (.lm ⟨1, 2, 0⟩)) (start2 0 (mkPtr 0o4000 1))
    (fun s1 => trapped s1 0 (plainExc 11 0 130)) = true := by decide +kernel
theorem test_ld2 : does (.ld2 0 ⟨4, 2, 0⟩) ((insLM 0o30 1 ⟨4, 2, 0⟩).group 4 2) (cached (withMem [(0o4000, 5), (0o4001, 6)] (start2 0 at4000)))
    (fun s1 => coreDone s1 0 2 fun k => (k.setG 4 5).setG 5 6) = true := by decide +kernel
theorem test_ld4 : does (.ld4 0 ⟨4, 2, 0⟩) ((insLM 0o30 2 ⟨4, 2, 0⟩).group 4 4)
    (cached (withMem [(0o4000, 5), (0o4001, 6), (0o4003, 7)] (start2 0 at4000)))
    (fun s1 => coreDone s1 0 2 fun k => (((k.setG 4 5).setG 5 6).setG 6 0).setG 7 7) = true := by decide +kernel
theorem test_ldh : does (.ldh 0 (.lh ⟨1, 2, 0, 1⟩)) (halfIns 0o12 0o30 (.lh ⟨1, 2, 0, 1⟩))
    (cached (withMem [(0o4000, 0o123456654321)] (start2 0 at4000))) (fun s1 => coreDone s1 0 2 fun k => k.setG 1 0o654321) = true := by
  decide +kernel
theorem test_ldc : does (.ldc 0 (.lm ⟨1, 2, 0⟩)) (memIns 0o11 0 0o30 4 (.lm ⟨1, 2, 0⟩))
    (cached (withMem [(0o4000, chars [1, 2, 3, 0o777])] (start2 0 (mkPtr 0o4000 3)))) (fun s1 => coreDone s1 0 2 fun k => k.setG 1 0o777)
      = true ∧
    does (.ldc 0 (.lm ⟨1, 2, 0⟩)) (memIns 0o11 0 0o30 4 (.lm ⟨1, 2, 0⟩)) (start2 0 (mkPtr 0o4000 4))
      (fun s1 => trapped s1 0 (plainExc 11 0 130)) = true := by decide +kernel
/-- The physical address 0o4000 in the pair G2, G3. -/
def physical (a : Nat) : State := withMem [(0o4000, 0o55)] (startWith fun k => k.setG 3 (fld 0 31 a))
theorem test_ldp : does (.ldp 0 ⟨1, 2, 0⟩) (insLP 0o30 7 ⟨1, 2, 0⟩) (physical 0o4000) (fun s1 => coreDone s1 0 2 fun k =>
    k.setG 1 0o55) (fun s1 => decide (s1.populated 0 0o4000 = true ∧ (s1.core 0).sbNaming 0o4000 = [])) = true := by
  decide +kernel
theorem test_ldp_absent : does (.ldp 0 ⟨1, 2, 0⟩) (insLP 0o30 7 ⟨1, 2, 0⟩) (physical (2 ^ 31)) (fun s1 => coreDone s1 0 2 fun k =>
      { k.setG 1 0 with tlbIndex := setBit k.tlbIndex 20 true }) (fun s1 => !s1.populated 0 (2 ^ 31)) = true ∧
    does (.ldp 0 ⟨1, 2, 0⟩) (insLP 0o30 7 ⟨1, 2, 0⟩) plain (fun s1 => trapped s1 0 (plainExc 5 0 0)) = true := by decide +kernel
/-- The store buffer in numbers: word, characters, data. -/
def buffered (t : State) : List (Nat × Nat × Nat) := (t.core 0).sb.map fun e => (e.addr, e.mask.toNat, e.data.toNat)
theorem test_st : meets (start2 0o55 at4000) (memIns 0o10 1 0o31 0 (.lm ⟨1, 2, 128⟩)) (fun _ => true) = true ∧
    gives (.st 0 (.lm ⟨1, 2, 128⟩)) (start2 0o55 at4000) (fun t =>
      buffered t == [(0o4010, 0b1111, 0o55)] && decide ((t.rd 0o4010).w = 0)) = true := by
  decide +kernel
theorem test_st2 : gives (.st2 0 ⟨2, 1, 0⟩) (startWith fun k => ((k.setG 1 at4000).setG 2 7).setG 3 8) (fun t =>
    (t.core 0).sb.map (fun e => (e.addr, e.data)) == [(0o4000, 7), (0o4001, 8)]) = true := by decide +kernel
theorem test_st4 : gives (.st4 0 ⟨4, 1, 0⟩) (startWith fun k => ((k.setG 1 at4000).setG 4 7).setG 7 8) (fun t =>
    (t.core 0).sb.map (fun e => (e.addr, e.data)) == [(0o4000, 7), (0o4001, 0), (0o4002, 0), (0o4003, 8)]) = true := by
  decide +kernel
theorem test_sth : gives (.sth 0 (.lh ⟨1, 2, 0, 0⟩)) (start2 0o777654321 at4000) (fun t =>
    buffered t == [(0o4000, 0b1100, 0o654321000000)]) = true := by decide +kernel
theorem test_stc : gives (.stc 0 (.lm ⟨1, 2, 0⟩)) (start2 0o1234 (mkPtr 0o4000 2)) (fun t =>
    buffered t == [(0o4000, 0b0010, 0o234000)]) = true := by decide +kernel

/-- Domain token 5 in C3, and page 0 open to domain 5. -/
def crossing : State := withMem [(0o3000, 0o66)] (startWith fun k =>
  { ((k.setTok 3 (domainToken 5 0 false)).setG 2 (mkPtr 0o3000 0)).setG 1 0o44 with idD := false, dtlb := [(0, page0)] })
theorem test_xld : meets crossing (insLX 0o30 6 ⟨1, 2, 3, 0⟩) (fun s1 =>
    yields (crossToken 0 3) s1 fun t s2 => decide (t = domainToken 5 0 false) &&
    yields (loadAt 0 t crossOpt false 0o3000 1) s2 fun ws s3 => decide (ws.map Cell.w = [0o66]) &&
      leaves (.xld 0 ⟨1, 2, 3, 0⟩) crossing (coreDone s3 0 2 fun k => k.setG 1 0o66)) = true := by decide +kernel
theorem test_xst : meets crossing (insLX 0o31 6 ⟨1, 2, 3, 0⟩) (fun s1 => yields (crossToken 0 3) s1 fun t s2 =>
    yields (storeAt 0 t crossOpt 0o3000 0b1111 [0o44] false) s2 fun _ s3 => decide (buffered s3 = [(0o3000, 15, 0o44)]) &&
      leaves (.xst 0 ⟨1, 2, 3, 0⟩) crossing (finish s3 0 2 .seq)) = true := by decide +kernel
/-- A token in the two tagged words at 0o4000. -/
def tokenAt : State := cached { start2 0 at4000 with dram := [(0o4000, ⟨fld 0 3 6 ||| fld 24 35 7, true⟩), (0o4001, ⟨3, true⟩)] }
theorem test_cld : gives (.cld 0 ⟨5, 2, 0⟩) tokenAt (fun t => let u := (t.core 0).tok 5
      u.tag && u.a == (fld 0 3 6 ||| fld 24 35 7) && u.b == 3) = true ∧
    meets tokenAt (insLMC 0o30 5 ⟨5, 2, 0⟩) (fun _ => true) = true := by decide +kernel
theorem test_cst : gives (.cst 0 ⟨3, 2, 0⟩) (startWith fun k => (k.setTok 3 (domainToken 5 0 false)).setG 2 at4000) (fun t =>
    buffered t == [(0o4000, 15, (domainToken 5 0 false).a.toNat), (0o4001, 15, 0)] && (t.core 0).sb.all SbEntry.tag) = true ∧
    meets (startWith fun k => (k.setTok 3 (domainToken 5 0 false)).setG 2 at4000) (insLMC 0o31 5 ⟨3, 2, 0⟩) (fun _ => true)
      = true := by decide +kernel
/-- A device page over frame 12 of the control pages, page 98 at its word 512, and a configure token for it in C1. -/
def devEntry : TlbEntry := ⟨true, 0, 0, true, 0, BitVec.ofNat 29 (2 ^ 28 + 12), true, true, false, false, false, true, false⟩
def onDevice (v : Word) (tok : Bool) : State := startWith fun k =>
  { ((if tok then k.setTok 1 { a := fld 0 3 4 ||| fld 8 8 1 ||| fld 29 35 98, b := 0, tag := true } else k).setG 2
      (mkPtr (512 + 0o052) 0)).setG 1 v with idD := false, dtlb := [(0, devEntry)] }
theorem test_stk : gives (.stk 0 ⟨1, 2, 0⟩) (onDevice (fld 20 27 5) true) (fun t => (t.core 0).g 1 == 0 &&
      bits (t.core 0).psw 0 2 == 2 && t.preg 98 0o052 == fld 20 27 5) = true ∧
    gives (.stk 0 ⟨1, 2, 0⟩) (onDevice (fld 20 27 0) true) (fun t => (t.core 0).g 1 == 2 && bits (t.core 0).psw 0 2 == 0) = true := by
  decide +kernel
theorem test_stk_without_token : gives (.stk 0 ⟨1, 2, 0⟩) (onDevice (fld 20 27 5) false) (fun t =>
      (t.core 0).g 1 == 1 && t.preg 98 0o052 == 0) = true ∧
    meets (onDevice 0 false) (insLM 0o31 7 ⟨1, 2, 0⟩) (fun s1 => decide ((s1.core 0).sb = [])) = true := by decide +kernel

/-! ### Memory order (12 R284, R288-R291, R297; 11 R268) -/

theorem test_store_buffer_forwards : yields (access 0 Tok.rootC0 .read 2 plainOpt 0o4000 1 0) stored (fun p t =>
      decide (((t.core 0).sbNaming p.pa).length = 1) &&
      yields (loadAt 0 Tok.rootC0 plainOpt true 0o4000 1) stored fun ws _ => decide (ws.map Cell.w = [0o55])) = true := by
  decide +kernel
/-- Eight entries wait. -/
def fullBuffer : State := startWith fun k => { k with sb := List.replicate 8 ⟨0o4000, 0b1100, 0o55, false, false, false, false⟩ }
/-- An operation on the state waits for w. -/
def awaits {α : Type} (m : M α) (s : State) (w : Why) : Bool :=
  match m.run s with
  | .error (.wait x) _ => decide (x = w)
  | _ => false
theorem test_store_buffer_waits : awaits (storeAt 0 Tok.rootC0 plainOpt 0o4000 0b1111 [1] false) fullBuffer .storeBuffer = true ∧
    awaits (loadAt 0 Tok.rootC0 plainOpt true 0o4000 1) fullBuffer .storeBuffer = true ∧
    awaits (loadAt 0 Tok.rootC0 plainOpt true 0o4020 1) start (.lineFill 129 0) = true := by decide +kernel
theorem test_storeDrain : gives (.storeDrain 0 false) (withMem [(0o4001, 9)] stored) (fun t =>
      (t.rd 0o4000).w == 0o55 && (t.rd 0o4001).w == 9 && (t.core 0).sb.isEmpty) = true ∧
    gives (.storeDrain 0 false) start (fun t => view t == view start) = true := by decide +kernel
theorem test_storeDrain_part : gives (.storeDrain 0 false) (withMem [(0o4000, 0o123456701234)] fullBuffer) (fun t =>
      (t.rd 0o4000).w == 0o000000701234 && (t.core 0).sb.length == 7) = true ∧
    gives (.storeDrain 0 false) (startWith fun k => { k with sb := [⟨2 ^ 39 + 256 * 98 + 0o052, 0b1111, fld 20 27 5, false, true,
      false, false⟩] }) (fun t => t.preg 98 0o052 == fld 20 27 5 && (t.core 0).sb.isEmpty) = true := by decide +kernel
/-- Core 0 waits for line 128. -/
def awaiting : State := startWith fun k => { k with wait := some (.lineFill 128 0) }
theorem test_lineFill : gives (.lineFill 0 false 128 .good) awaiting (fun t =>
      (t.core 0).dcache.map Prod.fst == [128] && (t.core 0).wait.isNone) = true ∧
    gives (.lineFill 0 false 128 .uncorrectable) awaiting (fun t => (t.core 0).dcache.isEmpty &&
      (t.core 0).mchk.map MCheck.cls == [1]) = true := by decide +kernel
/-- The key table at frame 1 holds a record for frame 3. -/
def keyed : State := withMem [(2048 + 3, fld 0 3 5)] (({ start with ktWritten := true } : State).setPreg 95 0o020 1)
theorem test_keyRecordRead : (keyed.kcFind 0 3).isNone = true ∧ gives (.keyRecordRead 0 3) keyed (fun t =>
    t.kcFind 0 3 == some (fld 0 3 5)) = true := by decide +kernel

/-! ### Strings (06 R131-R139) -/

/-- The four characters 1, 2, 3, 4 at word 0o4000; G1 to G6 as given. -/
def text (g1 g2 g3 g4 g5 : Word) : State := withMem [(0o4000, chars [1, 2, 3, 4]), (0o4010, chars [1, 2, 9, 4])]
  (startWith fun k => ((((k.setG 1 g1).setG 2 g2).setG 3 g3).setG 4 g4).setG 5 g5)
def s4 (md : BitVec 5) : LR := ⟨1, 2, 0, 4, md⟩
def three4 : List (Nat × List Nat × Bool) := [(5, [1], false), (10, [2], false), (26, [4], false)]

theorem test_mvs : gives (.mvs 0 (s4 0) none) (text at4020 (mkPtr 0o4000 1) 0 2 0) (fun t =>
      (t.rd 0o4020).w == chars [2, 3] && (t.core 0).g 1 == mkPtr 0o4020 2 && (t.core 0).g 2 == mkPtr 0o4000 3 &&
      (t.core 0).g 4 == 0 && (t.core 0).pc == at_ 2) = true ∧
    meets (text at4020 (mkPtr 0o4000 1) 0 2 0) (stringIns 0o020 (s4 0) three4 [(31, false)]) (fun _ => true) = true := by
  decide +kernel
theorem test_mvs_interrupted : gives (.mvs 0 (s4 0) (some 1)) (text at4020 (mkPtr 0o4000 1) 0 2 0) (fun t =>
      (t.rd 0o4020).w == chars [2] && (t.core 0).g 1 == mkPtr 0o4020 1 && (t.core 0).g 4 == 1 && (t.core 0).pc == at_ 0 &&
      decide ((t.core 0).wait = some .microTrap)) = true := by decide +kernel
theorem test_mvsr : gives (.mvsr 0 (s4 0) none) (text (mkPtr 0o4000 1) at4000 0 3 0) (fun t =>
      (t.rd 0o4000).w == chars [1, 1, 2, 3] && (t.core 0).g 1 == mkPtr 0o4000 1 && (t.core 0).g 4 == 0) = true ∧
    meets (text (mkPtr 0o4000 1) at4000 0 3 0) (stringIns 0o021 (s4 0) three4 [(31, false)]) (fun _ => true) = true := by
  decide +kernel
theorem test_fill : gives (.fill 0 (s4 0) none) (text (mkPtr 0o4000 3) 0o101 0 2 0) (fun t =>
      (t.rd 0o4000).w == chars [1, 2, 3, 0o101] && (t.rd 0o4001).w == chars [0o101]) = true ∧
    meets (text (mkPtr 0o4000 3) 0o101 0 2 0) (stringIns 0o025 (s4 0) [(5, [1], false), (10, [2], true), (26, [4], false)]
      [(31, false)]) (fun s1 => decide (((s1.core 0).g 2).toNat < 512)) = true := by decide +kernel
/-- Each character of 0o4000 is looked up in a table at 0o4010. -/
theorem test_trs : gives (.trs 0 (s4 3) none) (text at4020 at4010 at4000 2 0) (fun t =>
      (t.rd 0o4020).w == chars [2, 9] && (t.core 0).g 3 == mkPtr 0o4000 2) = true ∧
    meets (text at4020 at4010 at4000 2 0) (stringIns 0o024 (s4 3) (three4 ++ [(31, [3], false)]) []) (fun _ => true) = true := by
  decide +kernel
/-- The strings differ at their third character, 3 against 9; the second is shorter and padded. -/
theorem test_cms : gives (.cms 0 (s4 3) none) (text at4000 at4010 0 4 4) (fun t =>
      bits (t.core 0).psw 0 3 == 8 && (t.core 0).g 1 == mkPtr 0o4000 2 && (t.core 0).g 4 == 2) = true ∧
    gives (.cms 0 (s4 3) none) (text at4000 at4010 0 2 2) (fun t => bits (t.core 0).psw 0 3 == 5 && (t.core 0).g 5 == 0) = true := by
  decide +kernel
theorem test_cms_pads : gives (.cms 0 (s4 3) none) (text at4000 at4010 3 3 2) (fun t =>
      bits (t.core 0).psw 0 3 == 5 && (t.core 0).g 4 == 0) = true ∧
    meets (text at4000 at4010 3 3 2) (stringIns 0o022 (s4 3) [(5, [1], false), (10, [2], false), (26, [4, 5], false),
      (31, [3], true)] [(26, false)]) (fun _ => true) = true := by decide +kernel
/-- The map at 0o4010 marks the characters whose bits it sets: here 3, bit 3 of its first word. -/
def scanning (l : Word) : State := withMem [(0o4010, fld 3 3 1)] (text at4000 at4010 0 l 0)
theorem test_scs : gives (.scs 0 (s4 0) none) (scanning 4) (fun t =>
      bits (t.core 0).psw 0 2 == 2 && (t.core 0).g 1 == mkPtr 0o4000 2 && (t.core 0).g 4 == 2) = true ∧
    gives (.scs 0 (s4 0) none) (scanning 2) (fun t => bits (t.core 0).psw 0 2 == 0 && (t.core 0).g 4 == 0) = true := by
  decide +kernel
theorem test_scs_sense : gives (.scs 0 (s4 0b10000) none) (scanning 4) (fun t =>
      bits (t.core 0).psw 0 2 == 2 && (t.core 0).g 4 == 4) = true ∧
    meets (scanning 4) (stringIns 0o023 (s4 0b10000) three4 [(32, false)]) (fun s1 =>
      yields ((List.range 15).mapM fun i => readWord 0 (0o4010 + i) 4 i) s1 fun m _ => decide (m.length = 15)) = true := by
  decide +kernel

/-! ### Editing (06 R140-R146) -/

/-- The source field 125 at 0o4000, cells at 0o4010, a count word for three digits and p cells. -/
def editing (cells : List Nat) (p : Nat) : State :=
  withMem [(0o4000, digits [1, 2, 5, 13]), (0o4010, chars (cells.take 4)), (0o4011, chars (cells.drop 4))]
    (startWith fun k => ((((k.setG 1 at4020).setG 2 at4010).setG 3 at4000).setG 4 (fld 3 10 3 ||| fld 11 35 p)).setG 6 at4020)
def o6 : LR := ⟨1, 2, 0, 3, 4⟩
def o7 : LR := ⟨6, 2, 0, 3, 4⟩
theorem test_edit : gives (.edit 0 o6 none) (editing [0o100, 0o101] 2) (fun t =>
      (t.rd 0o4020).w == chars [0o100, 0o101] && (t.core 0).prog == 0 && (t.core 0).g 1 == mkPtr 0o4020 2) = true ∧
    meets (editing [0o100] 1) (editIns 0o026 false o6) (fun s1 => match editState ((s1.core 0).sprSeen 6 (s1.core 0).prog) with
      | some e => yields (readField 0 e at4000 3) s1 fun e2 s2 => e2.negative &&
          yields (editLoop 0 { ra := 1, rb := 2, rc := 3, rm := 4, mark := false, a0 := at4020, b0 := at4010 } 1 e2 none) s2
            fun e3 _ => e3.negative
      | none => false) = true := by decide +kernel
theorem test_edmk : gives (.edmk 0 o7 none) (editing [0o640, 0o100] 2) (fun t =>
      (t.rd 0o4020).w == chars [0o100] && (t.core 0).g 7 == at4020 && bits (t.core 0).psw 0 2 == 4) = true ∧
    meets (editing [0o100] 1) (editIns 0o027 true o7) (fun _ => true) = true := by decide +kernel
/-- Sign text emits where the field is negative, and its separator where significance has begun. -/
theorem test_edit_cells : gives (.edit 0 o6 none) (editing [0o560, 0o55, 0o600, 0o521] 4) (fun t =>
      (t.rd 0o4020).w == chars [0o55, 0o40]) = true := by decide +kernel
theorem test_edit_mark_cell : gives (.edit 0 o6 none) (editing [0o640] 1) (fun t =>
      bits (t.core 0).cause 16 21 == 4 && bits (t.core 0).cause 22 25 == 5) = true := by decide +kernel

/-! ### Postings and the journal (07 R149-R181) -/

/-- The next state, or the same where there is none. -/
def after (c : Instr) (s : State) : State :=
  match exec c s with
  | .next t => t
  | _ => s

/-- A descriptor at 0o4000: 5 to the balance at 0o5000, x less to the one at 0o5010, both covered by C2. -/
def amount (v : Int) (i : Nat) : Word := (toPacked26 v).getD i 0
def ledger (x : Int) : State := withMem
  ([(0o4000, fld 26 30 2), (0o4001, 0o1234), (0o4003, mkPtr 0o5000 0), (0o4004, fld 0 0 1 ||| fld 4 7 2),
    (0o4005, amount 5 0), (0o4006, amount 5 1), (0o4007, amount 5 2), (0o4011, mkPtr 0o5010 0), (0o4012, fld 4 7 2),
    (0o4013, amount x 0), (0o4014, amount x 1), (0o4015, amount x 2), (0o5000, amount 100 0), (0o5001, amount 100 1),
    (0o5002, amount 100 2), (0o5010, amount 0 0), (0o5011, amount 0 1), (0o5012, amount 0 2)])
  ({ startWith (fun k => (k.setG 4 at4000).setTok 2 { a := fld 9 9 1 ||| fld 21 35 0o77777, b := 0, tag := true }) with
      cel := { start.cel with st := .service } })
def o8 : LR := ⟨0, 4, 0, 0, 0⟩
def postsIns (s : State) (min : Nat) (o : LR) : Ins :=
  { postIns (s.core 0) min o with fields := (postIns (s.core 0) min o).fields ++ [(31, decide (o.mod.toNat ≠ 0))] }

/-- The posting waits for its admission, with the new balances 105 and -5. -/
theorem test_post : meets (ledger (-5)) (postsIns (ledger (-5)) 0 o8) (fun s1 => yields (postChecks 0 .post at4000 none).run s1
      fun r s2 => match r with
        | .ok q => decide (q.core = 0 ∧ q.legs.length = 2) && (match takeLocks 0 q.frames s2 with
            | .all s3 => (newBalances s3 0 q.legs [] []).isOk
            | _ => false)
        | .error _ => false) = true ∧
    gives (.post 0 o8 none) (ledger (-5)) (fun t => t.cel.posts.map (fun p => p.legs.map fun l => packed26 l.new) ==
      [[some 105, some (-5)]] && t.cel.locks.map Prod.fst == [1] && (t.core 0).pc == at_ 0) = true := by decide +kernel
/-- Unbalanced: status 0o40. -/
theorem test_post_refused : gives (.post 0 o8 none) (ledger (-4)) (fun t => (t.core 0).g 1 == 0o40 && t.cel.posts.isEmpty &&
      t.cel.refused == 1 && (t.core 0).pc == at_ 2) = true ∧
    gives (.post 0 o8 none) (let s := ledger (-5); { s with cel := { s.cel with st := .drain } }) (fun t =>
      (t.core 0).g 1 == 0o10) = true := by decide +kernel
theorem test_prep : gives (.prep 0 o8 none) (ledger (-5)) (fun t => t.cel.posts.map (fun p => p.legs.length) == [2] &&
      (t.core 0).pc == at_ 0) = true ∧
    meets (ledger (-5)) (postsIns (ledger (-5)) 1 o8) (fun _ => true) = true := by decide +kernel
/-- A posting prepared as 7, 9 by domain 0. -/
def prepared : State :=
  let s := ledger (-5)
  { s.modCore 0 fun k => (k.setG 4 7).setG 5 9 with
    cel := { s.cel with prepared := [{ seq0 := 7, seq1 := 9, dom := 0, addrs := [0o5000, 0o5001, 0o5002]
                                       new := [[amount 6 0, amount 6 1, amount 6 2]], settled := false }] } }
def settlesIns (s : State) (min : Nat) : Ins :=
  { postIns (s.core 0) min o8 with
    fields := (postIns (s.core 0) min o8).fields ++ [(10, false), (32, false)], more := 5 :: (postIns (s.core 0) min o8).more }
theorem test_conf : meets prepared (settlesIns prepared 2) (fun s1 => yields (prepChecks 0 o8).run s1 fun r _ => r.isOk) = true ∧
    gives (.conf 0 o8) prepared (fun t => t.cel.posts.map (fun p => (p.prep0, p.prep1)) == [(7, 9)]) = true := by decide +kernel
theorem test_abrt : meets prepared (settlesIns prepared 3) (fun s1 => yields (prepChecks 0 o8).run s1 fun r _ => r.isOk) = true ∧
    gives (.abrt 0 o8) prepared (fun t => t.cel.posts.map (fun p => (p.prep0, p.prep1)) == [(7, 9)]) = true ∧
    gives (.conf 0 o8) (ledger 0) (fun t => (t.core 0).g 1 == 0o50) = true := by decide +kernel

/-- The same posting admitted, and then durable. -/
def waiting : State := after (.post 0 o8 none) (ledger (-5))
def admitted : State := after (.admission 0) waiting
theorem test_admission : gives (.admission 0) waiting (fun t => t.cel.count == 1 && t.cel.posted == 1 &&
      posPair t.cel.append == 10 && t.cel.flying.length == 1 && t.dram.length == waiting.dram.length &&
      decide ((t.core 0).wait = some .commitPhase)) = true := by decide +kernel
theorem test_recordDurable : gives .recordDurable admitted (fun t => (t.rd 0o5000).w == amount 105 0 &&
      (t.rd 0o5002).w == amount 105 2 && (t.rd 0o5012).w == amount (-5) 2 && t.cel.locks.isEmpty && t.cel.posts.isEmpty &&
      (t.core 0).pc == at_ 2 && (t.core 0).g 1 == 0) = true ∧
    gives .recordDurable start (fun t => view t == view start) = true := by decide +kernel
/-- The ring has no room for the record's pairs. -/
theorem test_admission_refused : gives (.admission 0)
    { waiting with cel := { waiting.cel with append := mkPos 1 5, archive := mkPos 0 5 } } (fun t =>
      (t.core 0).g 1 == 0o16 && t.cel.posts.isEmpty && (t.core 0).pc == at_ 2) = true := by decide +kernel
theorem test_lockWaitEnd : gives (.lockWaitEnd 0)
      { waiting with cel := { waiting.cel with posts := waiting.cel.posts.map fun p => { p with stage := .lockWait } } } (fun t =>
      t.cel.posts.map (fun p => p.legs.map fun l => packed26 l.new) == [[some 105, some (-5)]]) = true ∧
    gives (.lockWaitEnd 0) start (fun t => view t == view start) = true := by decide +kernel
theorem test_lone : gives (.lone 0)
      { admitted with cel := { admitted.cel with posts := admitted.cel.posts.map fun p => { p with stage := .racking } } } (fun t =>
      (t.rd 0o5002).w == amount 105 2 && bits ((t.core 0).g 1) 18 18 == 1) = true ∧
    gives (.lone 0) start (fun t => view t == view start) = true := by decide +kernel
theorem test_tailScan : gives .tailScan { start with cel := { start.cel with st := .scan } } (fun t =>
      decide (t.cel.st = .service) && t.cel.append == 0) = true ∧
    gives .tailScan start (fun t => view t == view start) = true := by decide +kernel
theorem test_mramFailure : gives .mramFailure start (fun t => decide (t.cel.st = .fault) &&
      (t.core 64).mchk.map MCheck.cls == [6]) = true := by decide +kernel
theorem test_archivePos : gives (.archivePos (.core 3) 3) { start with cel := { start.cel with st := .service, append := 10 } } (fun t =>
      t.cel.archive == 3) = true ∧
    gives (.archivePos (.core 3) 11) { start with cel := { start.cel with st := .service, append := 10 } } (fun t =>
      t.cel.archive == 0 && t.preg 92 4 == (fld 0 7 0o23 ||| fld 11 17 3 ||| 2)) = true := by decide +kernel
/-- The journal holds the posting's record at its start; G6 names a room of 30 words at 0o6000. -/
def reading (room : Word) : State := (after .recordDurable admitted).modCore 0 fun k =>
  ((((k.setG 4 0).setG 5 (mkPtr 0o6000 0)).setG 6 room).setTok 3
    { a := fld 0 3 7 ||| fld 5 5 1, b := 0, tag := true })
def o9 : LR := ⟨4, 5, 0, 6, 3⟩
theorem test_jrd : gives (.jrd 0 o9 none) (reading 30) (fun t => (t.core 0).g 6 == 20 && (t.core 0).g 4 == mkPos 0 10 &&
      (t.core 0).g 1 == 0 && bits (t.rd 0o6000).w 0 3 == 1 && (t.rd 0o6003).w == 0o1234) = true ∧
    gives (.jrd 0 o9 none) (reading 19) (fun t => (t.core 0).g 1 == 0o53 && (t.core 0).g 6 == 20 && (t.core 0).g 4 == 0) = true := by
  decide +kernel
theorem test_jrd_refused : gives (.jrd 0 o9 none) ((reading 30).modCore 0 fun k => k.setTok 3 Tok.clear) (fun t =>
      (t.core 0).g 1 == 1) = true ∧
    gives (.jrd 0 o9 none) ((reading 30).modCore 0 fun k => k.setG 4 (mkPos 0 10)) (fun t => (t.core 0).g 1 == 0o51) = true := by
  decide +kernel

/-! ### Tokens (11 R256, R260-R265) -/

/-- A memory token of domain key 3 over 16 words from 0o4000, with read, write and derive. -/
def memTok : Tok := { a := fld 5 6 3 ||| fld 12 12 1 ||| fld 13 16 3 ||| fld 21 35 15, b := fld 0 31 0o4000, tag := true }
def withTok (t : Tok) (g3 g4 : Word) : State := startWith fun k => ((k.setTok 2 t).setG 3 g3).setG 4 g4
def c12 : LR := ⟨1, 2, 0, 0, 0⟩
def c123 : LR := ⟨1, 2, 0, 3, 0⟩
def c1234 : LR := ⟨1, 2, 0, 3, 4⟩
/-- Token register 1 in words, with its tag. -/
def tok1 (t : State) : Nat × Nat × Bool := (((t.core 0).tok 1).a.toNat, ((t.core 0).tok 1).b.toNat, ((t.core 0).tok 1).tag)

theorem test_cmov : meets (withTok memTok 0 0) (tokIns 0o020 c12 false false) (fun s1 => decide (tok1 s1 = (0, 0, false))) = true ∧
    gives (.cmov 0 c12) (withTok memTok 0 0) (fun t => tok1 t == (memTok.a.toNat, memTok.b.toNat, true)) = true := by decide +kernel
/-- C0 takes a domain token. -/
theorem test_cmov_to_c0 : gives (.cmov 0 ⟨0, 2, 0, 0, 0⟩) (withTok (domainToken 9 2 true) 0 0) (fun t =>
    (t.core 0).domTok.dom == 0 && (t.core 0).c0H.dom == 9) = true := by decide +kernel
/-- The last four words, read only. -/
def narrowA : Word := fld 5 5 1 ||| fld 13 16 3 ||| fld 21 35 3
theorem test_cnarrow : meets (withTok memTok narrowA (fld 0 31 0o4014)) (tokIns 0o021 c1234 true true) (fun s1 =>
      let t := (s1.core 0).tokSeen 2
      t.tag && !t.illFormed && !t.sealed && t.derive && narrowWithin t { a := narrowA, b := fld 0 31 0o4014, tag := true }) = true ∧
    gives (.cnarrow 0 c1234) (withTok memTok narrowA (fld 0 31 0o4014)) (fun t =>
      tok1 t == (narrowA.toNat, 0o4014 * 16, true)) = true := by decide +kernel
theorem test_cnarrow_refused : does (.cnarrow 0 c1234) (tokIns 0o021 c1234 true true)
      (withTok { memTok with a := memTok.a &&& ~~~(fld 12 12 1) } narrowA (fld 0 31 0o4014))
      (fun s1 => trapped s1 0 (plainExc 5 0 2)) = true ∧
    does (.cnarrow 0 c1234) (tokIns 0o021 c1234 true true) (withTok { memTok with a := fld 0 3 8 } narrowA 0)
      (fun s1 => trapped s1 0 (plainExc 4 8 130)) = true := by decide +kernel
/-- No narrowing reaches one word further. -/
theorem test_narrow_bound : narrowWithin memTok { a := narrowA, b := fld 0 31 0o4015, tag := true } = false := by decide +kernel
theorem test_cseal : meets (withTok memTok 14 0) (tokIns 0o022 c123 true false) (fun s1 => (s1.core 0).domTok.system) = true ∧
    gives (.cseal 0 c123) (withTok memTok 14 0) (fun t =>
      tok1 t == ((memTok.a ||| fld 4 4 1).toNat, 0o4000 * 16 + 14, true)) = true := by decide +kernel
theorem test_cunseal : gives (.cunseal 0 c123) (withTok { memTok with a := memTok.a ||| fld 4 4 1, b := memTok.b + 14 } 14 0) (fun t =>
      tok1 t == (memTok.a.toNat, memTok.b.toNat, true)) = true ∧
    meets (withTok memTok 14 0) (tokIns 0o023 c123 true false) (fun _ => true) = true := by decide +kernel
def ctestIns (mem : Bool) : Ins :=
  { insLR 0o35 0o024 ⟨1, 2, 0, 0, if mem then 16 else 0⟩ with
    fields := (insLR 0o35 0o024 ⟨1, 2, 0, 0, if mem then 16 else 0⟩).fields ++ [(26, false), (32, false)]
    regs := (5, 1) :: (if mem then [(10, 2)] else []), toks := if mem then [] else [(10, 2)], grp := 1, ctl := true }
theorem test_ctest : does (.ctest 0 ⟨1, 2, 0, 0, 0⟩) (ctestIns false) (withTok memTok 0 0) (fun s1 => coreDone s1 0 2 fun k =>
    (k.setG 1 (fld 0 2 7 ||| fld 8 15 0o301)).setFlags (some false) (some false) (some false) none) = true := by decide +kernel
theorem test_ctest_memory : meets tokenAt (ctestIns true) (fun s1 => yields (readWord 0 0o4000 1 0) s1 fun x _ => x.tag) = true ∧
    gives (.ctest 0 ⟨1, 2, 0, 0, 16⟩) tokenAt (fun t => (t.core 0).g 1 == (fld 0 1 3 ||| fld 4 7 6 ||| fld 16 19 3)) = true := by decide +kernel

/-! ### Queue instructions (13 R320-R324; 11 R260) -/

/-- Queue 5 runs with 16 slots at 0o40000 and one ticket, for core 0's cluster, class 0 and domain 0. -/
def queue5 (q : QCtx) : QCtx := { q with
  ring := fld 0 33 (0o40000 / 64), shape := fld 31 35 4 ||| fld 15 30 15, st := 1, tail := 1, deliver := 1, committed := true }
def serving : State := withMem [(0o40000, 0o11), (0o40001, 0), (0o40002, 0o33), (0o40003, 0o44)]
  ((start.setQueue 5 (queue5 QCtx.reset)).setPreg 0 0o032 (fld 20 20 1))
def takeIns : Ins := { insSX 0o23 1 ⟨5⟩ with fields := [(5, false)], more := [1, 2, 3, 4], place := [(4, false)] }
theorem test_take : meets serving takeIns (fun s1 => decide (s1.takeFrom 0 = some 5) && (s1.core 0).serv.isNone) = true ∧
    gives (.take 0 ⟨5⟩) serving (fun t => (t.core 0).g 1 == 0o11 && (t.core 0).g 3 == 0o33 && (t.core 0).g 4 == 0o44 &&
      (t.core 0).serv == some (5, 0) && (t.queue 5).head == 1 && bits (t.core 0).psw 1 1 == 1) = true := by decide +kernel
theorem test_take_without : does (.take 0 ⟨5⟩) takeIns start (fun s1 => coreDone s1 0 1 fun k => (k.setG 5 0).setPsw 1 1 0)
      (fun s1 => decide (s1.takeFrom 0 = none)) = true ∧
    does (.take 0 ⟨5⟩) takeIns (startWith fun k => { k with serv := some (5, 0) }) (fun s1 => trapped s1 0 (plainExc 22 1 0)) = true := by
  decide +kernel
/-- C5 leads to queue 5 of device d. -/
def giving (d : Nat) (q : QCtx) : State := (start.setQueue 5 q).modCore 0 fun k =>
  ((k.setTok 5 { a := fld 0 3 3 ||| fld 6 6 1 ||| fld 22 35 5, b := fld 27 31 d, tag := true }).setG 1 0o11).setG 4 0o44
def giveIns : Ins := { insSX0 0o23 2 32 ⟨5⟩ with toks := [(5, 5)], more := [1, 2, 3, 4], grp := 1, place := [(4, false)] }
theorem test_give : meets (giving 0 (queue5 QCtx.reset)) giveIns (fun s1 => s1.accepts 5 && !(s1.queue 5).full) = true ∧
    gives (.give 0 ⟨5⟩) (giving 0 (queue5 QCtx.reset)) (fun t => (t.queue 5).tail == 2 && (t.rd 0o40004).w == 0o11 &&
      (t.rd 0o40007).w == 0o44 && bits (t.core 0).psw 1 1 == 1) = true := by decide +kernel
theorem test_give_full : gives (.give 0 ⟨5⟩) (giving 0 { queue5 QCtx.reset with tail := 16 }) (fun t =>
      (t.queue 5).tail == 16 && bits (t.core 0).psw 1 1 == 0) = true ∧
    does (.give 0 ⟨5⟩) giveIns (giving 0 QCtx.reset) (fun s1 => trapped s1 0 (plainExc 22 3 0)) = true := by decide +kernel
theorem test_qack : gives (.qack 0 ⟨0⟩) (after (.take 0 ⟨5⟩) serving) (fun t => (t.core 0).serv.isNone && (t.queue 5).ret == 1 &&
      (t.queue 5).inServ.isEmpty) = true ∧
    does (.qack 0 ⟨0⟩) { insSX0 0o23 3 1 ⟨0⟩ with place := [(4, false)] } start (fun s1 => trapped s1 0 (plainExc 22 2 0)) = true := by
  decide +kernel

/-! ### Vectors (08 R184-R199) -/

/-- The vector unit is awake; V1 and V2 as given. -/
def vec (a b : VReg) : State := startWith fun k => ({ k with vAwake := true }.setV 1 a).setV 2 b
def vv : SV := ⟨1, 2⟩
/-- A vector instruction leaves r in V1. -/
def vectorOp (c : Instr) (min : Nat) (a b r : VReg) : Bool :=
  does c (insSV min vv true) (vec a b) (fun s1 => coreDone s1 0 1 fun k => k.setV 1 r) (fun s1 => (s1.core 0).vAwake) &&
    gives c (vec a b) fun t => (t.core 0).vreg 1 == r
theorem test_vdadd : does (.vdadd 0 vv) (insSV 0 vv true) (vec (BitVec.ofNat 144 (9 * 16 ^ 35 + 9)) (BitVec.ofNat 144 (16 ^ 35 + 1)))
    (fun s1 => coreDone s1 0 1 fun k => (k.setV 1 (BitVec.ofNat 144 16)).setFlags (some false) (some false) (some false)
      (some true)) = true := by decide +kernel
theorem test_vdsub : does (.vdsub 0 vv) (insSV 1 vv true) (vec 0x10 1)
    (fun s1 => coreDone s1 0 1 fun k => (k.setV 1 9).setFlags (some false) (some false) (some false) (some true)) = true := by
  decide +kernel
theorem test_vcmp : does (.vcmp 0 .w vv) (insSV 4 vv true) (vec 7 (2 ^ 36 + 7)) (fun s1 => coreDone s1 0 1 fun k =>
    (k.setV 1 (BitVec.ofNat 144 (2 ^ 144 - 1 - (2 ^ 36 - 1) * 2 ^ 36))).setFlags none (some false) (some false) (some true)) = true ∧
    does (.vcmp 0 .c vv) (insSV 2 vv true) (vec 7 7) (fun s1 => coreDone s1 0 1 fun k =>
      (k.setV 1 (BitVec.ofNat 144 (2 ^ 144 - 1))).setFlags none (some true) (some false) (some true)) = true := by decide +kernel
theorem test_vmrg : vectorOp (.vmrg 0 vv) 5 0o17 0o252 0o17 = true := by decide +kernel
theorem test_vclr : does (.vclr 0 ⟨1, 0⟩) (insSV 6 ⟨1, 0⟩ false) (vec 5 6) (fun s1 => coreDone s1 0 1 fun k => k.setV 1 0) = true ∧
    gives (.vclr 0 ⟨1, 0⟩) (vec 5 6) (fun t => (t.core 0).vreg 1 == 0) = true := by decide +kernel
theorem test_vmov : vectorOp (.vmov 0 vv) 7 5 6 6 = true := by decide +kernel
theorem test_vadd : vectorOp (.vadd 0 false vv) 8 (2 ^ 18 - 1) 1 0 = true ∧
    vectorOp (.vadd 0 true vv) 9 (2 ^ 18 - 1) 1 (2 ^ 18) = true := by decide +kernel
theorem test_vsub : vectorOp (.vsub 0 false vv) 10 (2 ^ 18) 1 (2 ^ 18 + (2 ^ 18 - 1)) = true ∧
    vectorOp (.vsub 0 true vv) 11 (2 ^ 18) 1 (2 ^ 18 - 1) = true := by decide +kernel
theorem test_vand : vectorOp (.vand 0 vv) 12 0b1100 0b1010 0b1000 = true := by decide +kernel
theorem test_vor : vectorOp (.vor 0 vv) 13 0b1100 0b1010 0b1110 = true := by decide +kernel
theorem test_vxor : vectorOp (.vxor 0 vv) 14 0b1100 0b1010 0b0110 = true := by decide +kernel
theorem test_vnot : vectorOp (.vnot 0 vv) 15 3 0 (BitVec.ofNat 144 (2 ^ 144 - 1)) = true := by decide +kernel

/-- The unit awake, G2 a pointer, words at 0o4000. -/
def vecMem (p : Word) (f : Core → Core) : State := withMem [(0o4000, chars [1, 2, 3, 4]), (0o4001, 0o55), (0o4003, 0o66)]
  (cached (startWith fun k => f ({ k with vAwake := true }.setG 2 p)))
def lv (ri : BitVec 5) : LV := ⟨1, 2, ri, 0⟩
theorem test_vld : gives (.vld 0 (lv 0)) (vecMem at4000 id) (fun t =>
      (t.core 0).vreg 1 == vOfWords [chars [1, 2, 3, 4], 0o55, 0, 0o66]) = true ∧
    meets (vecMem at4000 id) (insLV0 0 (lv 0)) (fun _ => true) = true := by decide +kernel
theorem test_vst : gives (.vst 0 (lv 0)) (vecMem at4000 fun k => k.setV 1 (vOfWords [1, 2, 3, 4])) (fun t =>
      buffered t == [(0o4000, 15, 1), (0o4001, 15, 2), (0o4002, 15, 3), (0o4003, 15, 4)]) = true ∧
    meets (vecMem at4000 id) (insLV0 1 (lv 0)) (fun _ => true) = true := by decide +kernel
/-- Index 3 in G16, the others 0: character 3 of the word goes to element 0. -/
def gathering (p : Word) (prog : Word) : State := vecMem p fun k => { k.setG 16 3 with prog }
theorem test_vgc : gives (.vgc 0 (lv 16) none) (gathering at4000 0) (fun t => vElem ((t.core 0).vreg 1) 9 0 == 4 &&
      vElem ((t.core 0).vreg 1) 9 15 == 1 && (t.core 0).prog == 0) = true ∧
    meets (gathering at4000 0) (insLVRun ((gathering at4000 0).core 0) 2 16 (lv 16)) (fun s1 =>
      decide (vectorNext ((s1.core 0).sprSeen 6 (s1.core 0).prog) 16 = some 0)) = true := by decide +kernel
theorem test_vgcf : gives (.vgcf 0 (lv 16) none) (gathering at4000 0) (fun t => vElem ((t.core 0).vreg 1) 9 0 == 4 &&
      (t.core 0).vfl == 16 && bits (t.core 0).psw 1 1 == 1) = true := by decide +kernel
theorem test_vgw : gives (.vgw 0 (lv 16) none) (gathering at4000 0) (fun t => vElem ((t.core 0).vreg 1) 18 0 == 0o55 &&
      vElem ((t.core 0).vreg 1) 18 1 == 0o1002) = true := by decide +kernel
theorem test_vgwf : gives (.vgwf 0 (lv 16) none) (gathering at4000 0) (fun t => vElem ((t.core 0).vreg 1) 18 0 == 0o55 &&
      (t.core 0).vfl == 8) = true := by decide +kernel
/-- Interrupted before element 5, a gather notes how far it has come. -/
theorem test_vgc_interrupted : gives (.vgc 0 (lv 16) (some 5)) (gathering at4000 0) (fun t =>
      (t.core 0).prog == vectorProg 5 && (t.core 0).pc == at_ 0) = true := by decide +kernel
theorem test_vsc : gives (.vsc 0 (lv 16) none) (vecMem at4000 fun k => (k.setG 16 3).setV 1 (vOfElems 9 ((List.range 16).map (· + 8))))
    (fun t => (t.rd 0o4000).w == chars [0o27, 2, 3, 8]) = true := by decide +kernel
theorem test_vcls : gives (.vcls 0 (lv 3)) (vecMem at4000 fun k => k.setG 3 4) (fun t =>
      bits ((t.core 0).g 3) 20 35 == 0 && bits (t.core 0).psw 1 1 == 1) = true ∧
    gives (.vcls 0 (lv 3)) (vecMem at4000 fun k => k.setG 3 1) (fun t => (t.core 0).g 3 == 0o177777) = true := by decide +kernel
theorem test_vtr : gives (.vtr 0 (lv 0)) (vecMem at4000 fun k => k.setV 1 (vOfElems 9 [3, 2, 1, 0])) (fun t =>
      (vElems ((t.core 0).vreg 1) 9).drop 11 == [1, 4, 3, 2, 1]) = true := by decide +kernel
/-- The unit gated: the instruction starts its wake. -/
def gated : State := startWith fun k => k
theorem test_vector_wake : does (.vmov 0 vv) (insSV 7 vv true) gated (fun s1 =>
      waitsFor (s1.modCore 0 fun k => { k with vWaking := true }) 0 .vectorWake) (fun s1 => !(s1.core 0).vAwake) = true ∧
    gives (.vectorUnitWake 0) (startWith fun k => { k with vWaking := true }) (fun t => (t.core 0).vAwake && !(t.core 0).vWaking) = true := by
  decide +kernel
theorem test_vectorUnitGate : gives (.vectorUnitGate 0) (vec 0 0) (fun t => !(t.core 0).vAwake) = true ∧
    gives (.vectorUnitGate 0) ((vec 0 0).setPreg 0 0o031 (fld 17 17 1)) (fun t => (t.core 0).vAwake) = true := by decide +kernel
theorem test_vgate : gives (.vgate (.core 0) 0 (fld 17 17 1 ||| 256)) start (fun t => t.preg 0 0o031 == (fld 17 17 1 ||| 256) &&
      (t.core 0).vWaking) = true ∧
    gives (.vgate (.core 0) 0 255) start (fun t => bits (t.preg 0 4) 27 35 == 2 && !(t.core 0).vWaking) = true ∧
    start.admits (.core 0) 0 0o031 256 = true := by decide +kernel

/-! ### The Kiln (14 R348-R363) -/

/-- G3 names a descriptor at 0o4000 of n octets at 0o4010, results at 0o4020; C2 lets its holder use and configure key slot 7. -/
def request (n : Nat) : State := withMem
  [(0o4000, at4010), (0o4001, fld 11 35 n), (0o4002, at4020), (0o4003, mkPtr 0o4030 0),
   (0o4010, chars [0x31, 0x32, 0x33, 0x34]), (0o4011, chars [0x35, 0x36, 0x37, 0x38]), (0o4012, chars [0x39])]
  (startWith fun k => (k.setG 3 at4000).setTok 2
    { a := fld 0 3 5 ||| fld 8 8 1 ||| fld 10 10 1 ||| fld 24 35 7, b := 0, tag := true })
def la (keyed : Bool) : LA := ⟨if keyed then 2 else 0, 3, 1, 0⟩
/-- The instruction issues, asks the Kiln and waits; given again with status code, it ends with it. -/
def asks (c : LA → Instr) (slot opc : Nat) : Bool :=
  match kopOf slot opc with
  | none => false
  | some op =>
    let i := c (la op.keyed)
    meets (request 9) (kilnIns slot opc op.keyed (la op.keyed)) (fun s1 => (s1.core 0).kreq.isNone) &&
    gives i (request 9) (fun t => match (t.core 0).kreq with
      | some r => r.slot == slot && r.opc == opc && r.keySlot == (if op.keyed then 7 else 0) && r.status.isNone &&
          (t.core 0).pc == at_ 0
      | none => false)
def finished (slot opc code : Nat) : KReq :=
  { pc := at_ 0, bank := 1, slot, opc, keySlot := 0, len := 0, inp := [], out := [], aux := [], fail := none, lost := false
    status := some code }
def collects (c : LA → Instr) (slot opc code : Nat) : Bool :=
  match kopOf slot opc with
  | none => false
  | some op => gives (c (la op.keyed)) ((request 9).modCore 0 fun k => { k with kreq := some (finished slot opc code) }) fun t =>
      (t.core 0).g 1 == fld 27 35 code && bits (t.core 0).psw 1 1 == (decide (code = 0)).toNat && (t.core 0).kreq.isNone &&
        (t.core 0).pc == at_ 2

theorem test_aese : (asks (.aese 0) 0 1 && collects (.aese 0) 0 1 0) = true := by decide +kernel
theorem test_aesd : (asks (.aesd 0) 0 2 && collects (.aesd 0) 0 2 0) = true := by decide +kernel
theorem test_gcms : (asks (.gcms 0) 0 3 && collects (.gcms 0) 0 3 0) = true := by decide +kernel
theorem test_gcmo : (asks (.gcmo 0) 0 4 && collects (.gcmo 0) 0 4 0o15) = true := by decide +kernel
theorem test_sign : (asks (.sign 0) 0 0o10 && collects (.sign 0) 0 0o10 0) = true := by decide +kernel
theorem test_verp256 : (asks (.verp256 0) 0 0o11 && collects (.verp256 0) 0 0o11 0o15) = true := by decide +kernel
theorem test_verp384 : (asks (.verp384 0) 0 0o12 && collects (.verp384 0) 0 0o12 0) = true := by decide +kernel
theorem test_vered : (asks (.vered 0) 0 0o13 && collects (.vered 0) 0 0o13 0) = true := by decide +kernel
theorem test_kload : (asks (.kload 0) 0 0o20 && collects (.kload 0) 0 0o20 0) = true := by decide +kernel
theorem test_kgen : (asks (.kgen 0) 0 0o21 && collects (.kgen 0) 0 0o21 0) = true := by decide +kernel
theorem test_kclr : (asks (.kclr 0) 0 0o22 && collects (.kclr 0) 0 0o22 0) = true := by decide +kernel
theorem test_kpub : (asks (.kpub 0) 0 0o23 && collects (.kpub 0) 0 0o23 0) = true := by decide +kernel
theorem test_sha256 : (asks (.sha256 0) 1 1 && collects (.sha256 0) 1 1 0) = true := by decide +kernel
theorem test_sha384 : (asks (.sha384 0) 1 2 && collects (.sha384 0) 1 2 0) = true := by decide +kernel
theorem test_sha512 : (asks (.sha512 0) 1 3 && collects (.sha512 0) 1 3 0) = true := by decide +kernel
theorem test_sha3x256 : (asks (.sha3x256 0) 1 4 && collects (.sha3x256 0) 1 4 0) = true := by decide +kernel
theorem test_sha3x384 : (asks (.sha3x384 0) 1 5 && collects (.sha3x384 0) 1 5 0) = true := by decide +kernel
theorem test_sha3x512 : (asks (.sha3x512 0) 1 6 && collects (.sha3x512 0) 1 6 0) = true := by decide +kernel
theorem test_hmacSha256 : (asks (.hmacSha256 0) 1 0o10 && collects (.hmacSha256 0) 1 0o10 0) = true := by decide +kernel
theorem test_hmacSha384 : (asks (.hmacSha384 0) 1 0o11 && collects (.hmacSha384 0) 1 0o11 0) = true := by decide +kernel
theorem test_hmacSha512 : (asks (.hmacSha512 0) 1 0o12 && collects (.hmacSha512 0) 1 0o12 0) = true := by decide +kernel
theorem test_crc32 : (asks (.crc32 0) 2 1 && collects (.crc32 0) 2 1 0) = true := by decide +kernel
theorem test_crc32c : (asks (.crc32c 0) 2 2 && collects (.crc32c 0) 2 2 2) = true := by decide +kernel
theorem test_rand : (asks (.rand 0) 3 1 && collects (.rand 0) 3 1 0o15) = true := by decide +kernel
theorem test_reseed : (asks (.reseed 0) 3 2 && collects (.reseed 0) 3 2 0) = true := by decide +kernel

/-- The published check values of the nine digits: CRC-32 and CRC-32C. -/
theorem test_kilnRequestCompletion : gives (.kilnRequestCompletion 0) (after (.crc32 0 (la false)) (request 9)) (fun t =>
      (t.rd 0o4020).w == chars [0xCB, 0xF4, 0x39, 0x26] && ((t.core 0).kreq.bind KReq.status) == some 0) = true ∧
    gives (.kilnRequestCompletion 0) (after (.crc32c 0 (la false)) (request 9)) (fun t =>
      (t.rd 0o4020).w == chars [0xE3, 0x06, 0x92, 0x83]) = true := by decide +kernel
theorem test_kilnRequestCompletion_status : gives (.kilnRequestCompletion 0) (after (.aese 0 (la true)) (request 16)) (fun t =>
      ((t.core 0).kreq.bind KReq.status) == some 0o17) = true ∧
    gives (.kilnRequestCompletion 0) start (fun t => view t == view start) = true := by decide +kernel

/-- A window of one group, frame 512 on; KARG0 and KARG1 as given; the group formatted or not. -/
def window (a b : Word) (fmt : Bool) : State :=
  let s := [(0o021, (512 : Word)), (0o022, 512), (0o023, 2048), (0o025, a), (0o026, b)].foldl (fun s e => s.setPreg 91 e.1 e.2) start
  { s with kiln := { s.kiln with root := if fmt then [(0, { fmt := true, gctr := 0, salt := 9 })] else [] } }
/-- A write of KCMD is admitted; it starts the command where it may, and else is refused with the code. -/
def commands (c : Instr) (op : Nat) (a b : Word) (fmt : Bool) (code : Nat) : Bool :=
  let s := window a b fmt
  s.admits (.core 64) 91 0o024 (wd op) && !s.windowSkewed && s.kcmdCode op a b == code && gives c s fun t =>
    if code = 0 then t.kiln.cmd == some (op, a, b) && t.preg 91 0o027 == fld 0 2 1 ||| fld 3 5 op
    else t.kiln.cmd.isNone && bits (t.preg 91 4) 27 35 == code
theorem test_format : (commands (.format (.core 64)) 1 0 1 false 0 && commands (.format (.core 64)) 1 0 1 true 0o10) = true := by
  decide +kernel
theorem test_init : (commands (.init (.core 64)) 2 512 0 true 0o17 && commands (.init (.core 64)) 2 1024 0 true 2) = true := by
  decide +kernel
theorem test_reseal : (commands (.reseal (.core 64)) 3 512 0 false 0o10 && commands (.reseal (.core 64)) 3 0 0 true 2) = true := by
  decide +kernel
theorem test_release : (commands (.release (.core 64)) 4 0 1 true 0 && commands (.release (.core 64)) 4 1 1 true 2) = true := by
  decide +kernel
theorem test_kekload : commands (.kekload (.core 64)) 5 64 0 true 0 = true := by decide +kernel
theorem test_format_busy : gives (.format (.core 64)) (after (.kekload (.core 64)) (window 0 1 false)) (fun t =>
    bits (t.preg 91 4) 27 35 == 5) = true := by decide +kernel
/-- INIT and RESEAL start where the frame's slot is loaded. -/
def slotted : State :=
  let s := window 512 0 true
  { s with kiln := { s.kiln with slots := [(0, { st := 1, ktype := 3, octets := [] })] } }
theorem test_init_starts : gives (.init (.core 64)) slotted (fun t => t.kiln.cmd == some (2, 512, 0)) = true ∧
    gives (.reseal (.core 64)) slotted (fun t => t.kiln.cmd == some (3, 512, 0)) = true := by decide +kernel
theorem test_kilnCommandCompletion : gives .kilnCommandCompletion (after (.release (.core 64)) (window 0 1 true)) (fun t =>
      t.kiln.cmd.isNone && t.preg 91 0o027 == fld 0 2 2 ||| fld 3 5 4 && !(t.rootOf 0).fmt) = true ∧
    gives .kilnCommandCompletion start (fun t => view t == view start) = true := by decide +kernel
/-- The window's group node is in the node cache. -/
def noded (s : State) : State := { s with kiln := { s.kiln with gnodes := [{ group := 0, fctrs := [], dirty := false }] } }
/-- A command that runs ends well. -/
def finishes (s : State) (p : State → Bool) : Bool := gives .kilnCommandCompletion s fun t => t.kiln.cmd.isNone &&
  bits (t.preg 91 0o027) 0 2 == 2 && p t
theorem test_kilnCommandCompletion_format : (let s := after (.format (.core 64)) (window 0 1 false)
    decide (s.kiln.cmd = some (1, 0, 1)) && s.kcmdCode 1 0 1 == 0 && !(s.rootOf 0).fmt) = true ∧
    ∃ t, exec .kilnCommandCompletion (after (.format (.core 64)) (window 0 1 false)) = .next t := ⟨by decide +kernel, _, rfl⟩
theorem test_kilnCommandCompletion_init : ((noded slotted).fetchG 0).isSome = true ∧
    finishes (noded (after (.init (.core 64)) slotted)) (fun t => bits (t.preg 91 0o027) 3 5 == 2) = true := by decide +kernel
theorem test_kilnCommandCompletion_reseal : (match slotted.openFrame 512 with
      | .ok _ => true
      | .error _ => false) = true ∧
    finishes (after (.reseal (.core 64)) slotted) (fun t => bits (t.preg 91 0o027) 3 5 == 3) = true := by decide +kernel
theorem test_kilnCommandCompletion_kekload : finishes (after (.kekload (.core 64)) (window 64 0 true)) (fun t =>
    t.kiln.kek == some (List.replicate 32 0)) = true := by decide +kernel
theorem test_kilnCommandCompletion_code : gives .kilnCommandCompletion (after (.kekload (.core 64)) (window (2 ^ 28) 0 true))
    (fun t => t.preg 91 0o027 == fld 0 2 3 ||| fld 3 5 5 ||| fld 27 35 0o17) = true := by decide +kernel
theorem test_groupRefresh : gives (.groupRefresh 1) start (fun t => view t == view start) = true := by decide +kernel
theorem test_groupRefresh_meets : (let s := noded (window 0 0 true)
    decide (s.opened = []) && (s.fetchG 0).isSome) = true := by decide +kernel
theorem test_groupRefresh_due : ∃ t, exec (.groupRefresh 0) { window 0 0 false with kiln :=
    { (window 0 0 false).kiln with refresh := some 0 } } = .next t := ⟨_, rfl⟩

/-- Every tamper input enabled, with a key slot, a KEK and a root entry to lose. -/
def guarded (v : Word) : State :=
  let s := (window 0 1 true).setPreg 91 0o036 v
  { s with
    kiln := { s.kiln with slots := [(3, { st := 1, ktype := 1, octets := [] })], kek := some [1] }
    opened := [(3, true)], clear := [(50, { w := 1, tag := false })] }
def lost (t : State) : Bool :=
  t.kiln.slots.isEmpty && t.kiln.kek.isNone && t.kiln.root.isEmpty && bits (t.preg 91 0o036) 28 34 == 0 && t.preg 91 0o040 == 1
def keeps (c : Instr) (s : State) : Bool := gives c s fun t => t.kiln.slots.length == 1 && t.kiln.kek.isSome
def wipes (c : Instr) : Bool := gives c (guarded 0o376) lost && keeps c (guarded 0)
theorem test_tamperMesh : (wipes (.tamperMesh 0) && wipes (.tamperMesh 3)) = true := by decide +kernel
theorem test_voltageDetector : (wipes (.voltageDetector false) && wipes (.voltageDetector true)) = true := by decide +kernel
theorem test_clockDetector : (wipes (.clockDetector true) && keeps (.clockDetector true)
    { guarded 0o376 with pins := { (guarded 0).pins with pwrGood := false } }) = true := by decide +kernel
theorem test_temperatureDetector : wipes .temperatureDetector = true := by decide +kernel
theorem test_zeroizeN : gives .zeroizeN (guarded 1) (fun t => lost t && t.kiln.tstop && t.sys == 8 && t.clear.isEmpty &&
      t.opened.isEmpty) = true ∧
    gives .zeroizeN (guarded 0) (fun t => lost t && !t.kiln.tstop && t.kiln.zLow) = true := by decide +kernel
theorem test_zeroizeNRelease : gives .zeroizeNRelease (after .zeroizeN start) (fun t => !t.kiln.zLow) = true := by decide +kernel
theorem test_healthTestFailure : gives .healthTestFailure start (fun t => !t.kiln.drbgOk && bit (t.preg 91 0o032) 31) = true := by
  decide +kernel
theorem test_meshPatternChange : gives .meshPatternChange start (fun t => t.kiln.mesh == start.free && t.free == start.free + 1) = true := by
  decide +kernel
theorem test_tampCtl : start.admits (.core 64) 91 0o036 0o6 = true ∧
    gives (.tampCtl (.core 64) 0o6) start (fun t => t.preg 91 0o036 == 0o6) = true ∧
    gives (.tampCtl (.core 64) 0o2) (start.setPreg 91 0o036 0o6) (fun t => t.preg 91 0o036 == 0o6 && bits (t.preg 91 4) 27 35 == 7) =
      true := by decide +kernel
/-- COMMIT of group WINDOW with the shadows given. -/
def windowing (b n r : Word) : State := ((start.setShadow 91 0o021 b).setShadow 91 0o022 n).setShadow 91 0o023 r
theorem test_window : (windowing 512 512 2048).admits (.core 64) 91 5 1 = true ∧
    gives (.window (.core 64)) (windowing 512 512 2048) (fun t => t.preg 91 0o021 == 512 && t.preg 91 0o022 == 512 &&
      t.preg 91 0o023 == 2048) = true := by decide +kernel
theorem test_window_codes : ([(100, 512, 2048, 4), (512, 511, 2048, 2), (512, 512, 800, 2), (512, 512, 1024, 0), (512, 512, 447, 0),
      (512, 512, 448, 2), (512, 512, 2 ^ 27, 2)].all fun (b, n, r, code) =>
    gives (.window (.core 64)) (windowing b n r) fun t => bits (t.preg 91 4) 27 35 == code) = true := by decide +kernel

/-! ### The Adjunct (19 R470) -/

/-- The Adjunct port is UP and slot 5 is there; core 0 holds a request or not. -/
def adjunct (r : Option AReq) : State :=
  let s := ((startWith fun k => { (k.setG 1 7).setG 3 9 with areq := r }).setPreg 99 0o020 (fld 29 29 1))
  { s with ports := [(8, { Port.reset with st := 5, up := true, lanes := 255 })] }
def asked (rsp : Option (Nat × Word × Word)) (late : Bool) : Option AReq := some { pc := at_ 0, bank := 1, rsp, late }
def axOp : LA := ⟨1, 3, 2, 0⟩
theorem test_ax : gives (.ax 0 1 5 axOp) (adjunct none) (fun t => (t.core 0).areq.isSome && (t.core 0).pc == at_ 0 &&
      ((t.port 8).tx.map fun f => [f.ftype.toNat, f.w1.toNat, f.w2.toNat]) == [[0o030, 7, 9]]) = true ∧
    gives (.ax 0 1 5 axOp) (adjunct (asked (some (0, 21, 22)) false)) (fun t => (t.core 0).g 2 == 21 && (t.core 0).g 3 == 22 &&
      bit (t.core 0).psw 1 && (t.core 0).pc == at_ 2) = true := by decide +kernel
theorem test_ax_absent : gives (.ax 0 0 5 axOp) (adjunct none) (fun t => (t.core 0).cause == mkCause 21 0 4) = true ∧
    gives (.ax 0 1 5 axOp) (adjunct (asked (some (3, 21, 22)) false)) (fun t => (t.core 0).g 2 == 3 && (t.core 0).g 3 == 0 &&
      !bit (t.core 0).psw 1) = true := by decide +kernel
def answerFlit : Flit := ⟨0o031, 0, 0, fld 10 15 0, 21, 22, 0, 0⟩
theorem test_arsp : gives (.arsp answerFlit) (adjunct (asked none false)) (fun t =>
      (((t.core 0).areq.bind AReq.rsp).map fun r => (r.1, r.2.1.toNat, r.2.2.toNat)) == some (0, 21, 22)) = true ∧
    gives (.arsp answerFlit) (adjunct none) (fun t => t.preg 99 0o023 == 1 && (t.port 8).recvSeq == 1) = true :=
  by decide +kernel
theorem test_arsp_accepted : ((adjunct (asked none false)).recvReplayed 8 answerFlit).1 = true ∧
    (start.recvReplayed 8 answerFlit).1 = false ∧
    gives (.arsp answerFlit) (adjunct (asked none true)) (fun t => t.preg 99 0o023 == 1) = true := by decide +kernel
theorem test_aint : gives (.aint { answerFlit with w0 := fld 10 15 3 ||| fld 33 35 2 }) (adjunct none) (fun t =>
      (t.core 3).pend != 0 && (t.core 0).pend == 0) = true ∧
    gives (.aint { answerFlit with w0 := fld 10 15 3, seq := 1 }) (adjunct none) (fun t => (t.core 3).pend == 0 &&
      (t.port 8).nakSent) = true := by decide +kernel
theorem test_adjunctTimeout : gives (.adjunctTimeout 0) (adjunct (asked none false)) (fun t => t.preg 99 0o022 == 1 &&
      ((t.core 0).areq.map AReq.late) == some true) = true ∧
    gives (.adjunctTimeout 0) start (fun t => view t == view start) = true := by decide +kernel

/-! ### Entries, boundaries and machine checks (09 R208-R221; 10 R231-R254; 18 R453) -/

/-- A core that can be entered: a stack for frames below HG7, vector 35 at word 70, vector 13 at word 26, and bank E's
frame in a pinned frame of its cluster. -/
def ready (f : Core → Core) : State :=
  let s := withMem [(70, at_ 5), (71, fld 24 27 4), (26, at_ 20), (27, fld 23 23 1 ||| fld 28 35 9), (16, at_ 30), (4, at_ 40)]
    (startWith fun k => f { k with
      regs := tset 0 k.regs 15 (mkPtr 0o4000 0), pc := at_ 9, esp := fld 0 31 (0o20000 / 256) ||| fld 32 32 1 })
  { s with mal := { s.mal with home := [(4, 1)] } }
theorem test_fullEntry_interrupt : gives (.fullEntry ⟨0, false⟩) (ready fun k => { k.setPsw 8 12 16 with pend := BitVec.ofNat 32 (2 ^ 28) })
    (fun t => let k := t.core 0
      k.pc == at_ 5 && k.cause == mkCause 35 0 0 && k.bank == 1 && bits k.psw 9 12 == 4 && bit k.psw 8 && k.pend == 0 &&
      k.depth == 2 && k.hg7 == mkPtr (0o4000 - 0o3300 / 16) 0 && k.prog == 0) = true := by decide +kernel
theorem test_fullEntry_none : gives (.fullEntry ⟨0, false⟩) (ready fun k => { k.setPsw 8 12 20 with pend := BitVec.ofNat 32 (2 ^ 28) })
    (fun t => (t.core 0).pc == at_ 9 && (t.core 0).depth == 1 && (t.core 0).pend != 0) = true := by decide +kernel
theorem test_fullEntry_check : gives (.fullEntry ⟨0, false⟩) (ready fun k => { k with mchk := [⟨1, 5⟩, ⟨3, 6⟩] }) (fun t => let k := t.core 0
      k.pc == at_ 40 && k.bank == 3 && k.cause == mkCause 2 1 5 && tget 0 k.regs 29 == at_ 9 && k.mchk == [⟨3, 6⟩] &&
      (t.rd 0o20000).w == at_ 9 && t.preg 0 0o041 == 1) = true := by decide +kernel

/-- Exception 13 of an instruction, with SUB 2 and DETAIL 3: a full entry; in bank E, Halt-check. -/
theorem test_full_entry : (match (stackWords 0 ((ready id).core 0).c0H (0o4000 - 0o3300 / 16) (List.replicate 12 0)).run (ready id) with
      | .ok _ _ => true
      | .error _ _ => false) = true ∧
    (let k := (trapped (ready id) 0 (plainExc 13 2 3)).core 0
     k.pc == at_ 20 && k.cause == mkCause 13 2 3 && k.depth == 2 && !bit k.psw 8 && k.holding && k.npc.isNone) = true := by
  decide +kernel
theorem test_refill_entry : (let k := (trapped (ready id) 0 { plainExc 8 0 0 with tlb := some (false, 0o777, 5, true) }).core 0
    k.pc == at_ 30 && k.bank == 2 && tget 0 k.regs 20 == mkCause 8 0 0 && tget 0 k.regs 21 == at_ 9 &&
    k.tlbTag == fld 0 31 0o777 && bits k.tlbIndex 1 12 == 5) = true := by decide +kernel
theorem test_halt_check : (let t := trapped (ready fun k => k.setPsw 18 19 3) 0 (plainExc 13 2 3)
    (t.core 0).run == .halted && t.creg 0 0o022 == fld 16 16 1 ||| fld 17 20 1 ||| fld 21 26 13 &&
    ((t.core 64).mchk.map fun m => (m.cls, m.detail)) == [(4, 0)]) = true := by decide +kernel

theorem test_holdEnd : gives (.holdEnd 0) (startWith fun k => { k with holding := true }) (fun t => !(t.core 0).holding) = true := by
  decide +kernel
/-- A breakpoint at parcel pointer at_ 9, an exception or a halt. -/
def brk (act : Nat) : State :=
  ((ready id).setPreg 0 0o042 (fld 0 31 4 ||| fld 32 32 1 ||| fld 33 33 1 ||| fld 34 34 act)).setPreg 95 0o043 (fld 0 0 1)
theorem test_breakpoint : ((brk 1).brkHit 0 && bit ((brk 1).preg 0 0o042) 34 && gives (.breakpoint ⟨0, false⟩) (brk 1) (fun t =>
      (t.core 0).cause == mkCause 23 1 0 && (t.core 0).depth == 2)) = true ∧
    gives (.breakpoint ⟨0, false⟩) (brk 0) (fun t => (t.core 0).dbgHalt && (t.core 0).pc == at_ 9) = true ∧
    gives (.breakpoint ⟨0, false⟩) start (fun t => view t == view start) = true := by decide +kernel
theorem test_undefinedInstruction : (match (ready id).reached 0 (undefinedIns 0 0) with
      | some v => undefinedParcels 0 0 && !undefinedParcels (2 ^ 14) 0 &&
          yields (do restClean 0; fetchParcel 0 (at_ 9) 0) v fun _ _ => true
      | none => false) = true ∧
    gives (.undefinedInstruction 0 0 5) (ready id) (fun t => (t.core 0).cause == mkCause 3 0 0 && (t.core 0).badins == 0) = true ∧
    gives (.undefinedInstruction 0 (BitVec.ofNat 18 (0o34 * 2 ^ 13)) (BitVec.ofNat 18 (0o30 * 2 ^ 10))) (ready id) (fun t =>
      (t.core 0).badins == BitVec.ofNat 36 (0o34 * 2 ^ 31 + 0o30 * 2 ^ 10)) = true := by decide +kernel
def checks (n : Nat) (t : State) : List (Nat × Nat) := (t.core n).mchk.map fun m => (m.cls, m.detail)
theorem test_machineCheck : gives (.machineCheck 0 1 7) start (fun t => checks 0 t == [(1, 7)]) = true ∧
    gives (.machineCheck 64 5 7) start (fun t => checks 64 t == [(5, 7)]) = true ∧
    gives (.machineCheck 0 2 7) start (fun t => checks 0 t == [(2, 0)]) = true := by decide +kernel
theorem test_machineCheck_parity : gives (.machineCheck 0 0 0) start (fun t => (t.core 0).csBad && checks 64 t == [(3, 0)] &&
      t.preg 97 0o103 == 1) = true ∧
    gives (.machineCheck 1 3 7) start (fun t => checks 1 t == []) = true := by decide +kernel

/-! ### Queues, doorbells, the directory (13 R309-R326, R335; 15 R387; 19 R461) -/

/-- Queue 5 as context c, queue 6 its ERRQ; memory free. -/
def withQ (c : QCtx) : State := (start.setQueue 6 { queue5 QCtx.reset with ring := fld 0 33 (0o50000 / 64) }).setQueue 5
  { queue5 c with link := fld 0 13 6 ||| fld 14 20 3 }
theorem test_doorbell : gives (.doorbell 3 5 0o44) ({ withQ QCtx.reset with que := { (withQ QCtx.reset).que with dbw := [(20, 0o11)] } })
      (fun t => (t.queue 5).tail == 2 && (t.rd 0o40004).w == 0o11 && (t.rd 0o40007).w == 0o44) = true ∧
    gives (.doorbell 4 5 0o44) (withQ QCtx.reset) (fun t => (t.queue 5).tail == 1 && t.preg 88 0o022 == 1) = true := by decide +kernel
theorem test_doorbell_diverts : gives (.doorbell 3 5 0o44) ({ withQ QCtx.reset with
      que := { (withQ QCtx.reset).que with dbw := [(21, fld 18 21 1)] } }) (fun t => (t.queue 5).tail == 1 && (t.queue 6).tail == 2 &&
        bits (t.rd 0o50005).w 18 21 == 5 && (t.core 64).pend.getMsbD 1) = true := by decide +kernel
theorem test_divert_discards : (let t := (withQ QCtx.reset).divert 6 3 [0, 0, 0, 0]
    !(withQ QCtx.reset).accepts 0 && t.preg 89 0o034 == 1) = true := by decide +kernel
/-- A host queue, with two tickets that the host has not retired. -/
def toHost : State := withQ { QCtx.reset with ctl := fld 3 4 2, head := 2, ret := 0 }
theorem test_retireWord : gives (.retireWord 3 5 2) toHost (fun t => (t.queue 5).ret == 2) = true ∧
    gives (.retireWord 3 5 3) toHost (fun t => (t.queue 5).ret == 0 && t.preg 88 0o022 == 1) = true := by decide +kernel

/-- An intake queue holds one ticket of bucket 0o11, whose entry of the directory is e. -/
def intake (e : Word) (n : Nat) : State :=
  let s := withMem [(0o40000, 0o11), (0o40003, 0o44)] (withQ { QCtx.reset with ctl := fld 3 4 1 })
  ((s.setDir 0o11 e).setQueue 7 { queue5 QCtx.reset with ring := fld 0 33 (0o60000 / 64), st := 2, tail := n }).setPreg 89 0o033 7
def routes (e : Word) (n : Nat) (p : State → Bool) : Bool :=
  (intake e n).halfOn 5 && gives (.intakeRouting 5) (intake e n) fun t => (t.queue 5).head == 1 && p t
theorem test_intakeRouting : routes (fld 5 18 6) 1 (fun t => (t.queue 6).tail == 2 && (t.rd 0o50004).w == 0o11) = true ∧
    gives (.intakeRouting 6) (intake 0 0) (fun t => view t == view (intake 0 0)) = true := by decide +kernel
theorem test_intakeRouting_parks : (routes (fld 19 20 2) 1 (fun t => bits (t.rd 0o50005).w 18 21 == 3) &&
      routes (fld 19 20 1) 1 (fun t => (t.queue 7).tail == 2 && (t.rd 0o60007).w == 0o44) &&
      gives (.intakeRouting 5) (intake (fld 19 20 1) 16) (fun t => (t.queue 5).head == 0)) = true := by decide +kernel
/-- The manager runs another version; 256 messages wait for device 9. -/
theorem test_intakeRouting_mismatch : (let s := intake (fld 5 18 6) 1
    let s1 := { s with tr := { s.tr with mgr := some 9, vers := [(9, 4)] } }
    s1.mismatched 0 && gives (.intakeRouting 5) s1 (fun t => bits (t.rd 0o50005).w 18 21 == 2)) = true := by decide +kernel
theorem test_intakeRouting_stays : (let s := intake (fld 0 4 9 ||| fld 5 18 6) 1
    let m : Msg := ⟨9, 0, 0, 0, .notice false⟩
    let s2 := { s with tr := { s.tr with unacked := List.replicate 256 (m, none) } }
    !s2.mismatched 9 && s2.linkFull 9 && gives (.intakeRouting 5) s2 (fun t => (t.queue 5).head == 0)) = true := by decide +kernel
/-- A message comes in on port 1, its flits numbered from 0. -/
def comes (m : Msg) : Arrival := ⟨1, m, (List.range (msgFlits m).length).map fun i => (0, 0, BitVec.ofNat 16 i)⟩
/-- Port 1 is UP. -/
def heard (s : State) : State := { s with ports := [(1, { Port.reset with st := 5, up := true, lanes := 255 })] }
/-- Port 1 accepts every flit of the message. -/
def hearing (s : State) (m : Msg) : Bool :=
  !badPiece m && (s.recvAllIn (hopClass m) 1 (arrivalFlits (comes m))).1 && decide (m.dst.toNat = s.own)
def shipped (q : BitVec 14) : Msg := ⟨0, 4, 0, 1, .ticket q ⟨0o11, fld 28 32 4, 0o33, 0o44⟩ []⟩
theorem test_shippedTicket : (hearing (heard (withQ QCtx.reset)) (shipped 5) && hearing (heard (withQ QCtx.reset)) (shipped 8)) = true ∧
    gives (.shippedTicket (comes (shipped 5))) (heard (withQ QCtx.reset)) (fun t => (t.queue 5).tail == 2 &&
      (t.rd 0o40005).w == fld 28 32 4 && tget 0 t.tr.recvSeq 4 == 1) = true ∧
    gives (.shippedTicket (comes (shipped 8))) (heard (withQ QCtx.reset)) (fun t => tget 0 t.tr.recvSeq 4 == 1 &&
      t.preg 89 0o034 == 1) = true := by
  decide +kernel
/-- A port that is not UP takes no flit of it. -/
theorem test_shippedTicket_unheard : gives (.shippedTicket (comes (shipped 5))) (withQ QCtx.reset) (fun t =>
    (t.queue 5).tail == 1 && tget 0 t.tr.recvSeq 4 == 0) = true := by decide +kernel
theorem test_ticketRackTimeout : gives (.ticketRackTimeout 5) (withQ { QCtx.reset with ctl := fld 5 5 1 }) (fun t =>
      (t.queue 5).deliver == 1) = true ∧
    gives (.ticketRackTimeout 5) (start.setQueue 5 { queue5 QCtx.reset with ctl := fld 5 5 1, deliver := 0 }) (fun t =>
      (t.queue 5).deliver == 1 && (t.queue 5).unracked == [0]) = true := by decide +kernel

/-- QSEL names queue 5, whose context is c. -/
def selected (c : QCtx) : State := (start.setQueue 5 c).setPreg 89 0o020 5
def queueCode (t : State) : Nat := bits (t.preg 89 4) 27 35
theorem test_qCtl : (selected (queue5 QCtx.reset)).admits (.core 64) 89 0o025 (fld 0 2 2) = true ∧
    gives (.qCtl (.core 64) (fld 0 2 2 ||| fld 20 31 9)) (selected (queue5 QCtx.reset)) (fun t => (t.queue 5).st == 2 &&
      (t.queue 5).dom == 9) = true ∧
    gives (.qCtl (.core 64) (fld 0 2 1 ||| fld 3 4 2 ||| fld 7 9 3)) (selected { queue5 QCtx.reset with st := 0 }) (fun t =>
      (t.queue 5).st == 1 && (t.queue 5).kind == 2 && (t.queue 5).clu == 3) = true := by decide +kernel
theorem test_qCtl_codes : ([(queue5 QCtx.reset, fld 3 4 3, 3), (queue5 QCtx.reset, fld 0 2 1 ||| fld 5 5 1, 5),
      ({ queue5 QCtx.reset with st := 3 }, fld 0 2 1, 0o010), ({ queue5 QCtx.reset with st := 4 }, fld 0 2 1, 0o010),
      (QCtx.reset, fld 0 2 1, 0o010)].all fun (c, v, code) => gives (.qCtl (.core 64) v) (selected c) fun t =>
        queueCode t == code && (t.queue 5).st == c.st) = true ∧
    gives (.qCtl (.core 64) (fld 0 2 1)) (selected { QCtx.reset with committed := true }) (fun t => (t.queue 5).st == 4 &&
      bit (t.preg 89 3) 34) = true := by decide +kernel
theorem test_qrel : start.admits (.core 64) 89 0o035 3 = true ∧
    gives (.qrel (.core 64) 3) (start.modCore 3 fun k => { k with serv := some (5, 0) }) (fun t => (t.core 3).serv.isNone &&
      (t.queue 5).released == [0]) = true ∧
    gives (.qrel (.core 64) 3) start (fun t => queueCode t == 0) = true ∧
    gives (.qrel (.core 64) 0) start (fun t => queueCode t == 0o010) = true := by decide +kernel
def shaped (st log : Nat) (r : Nat) : State := selected { QCtx.reset with
  st, shRing := fld 0 33 r, shShape := fld 31 35 log ||| fld 15 30 (2 ^ log - 1), tail := 7 }
theorem test_ring : (shaped 0 4 1).admits (.core 64) 89 5 1 = true ∧
    gives (.ring (.core 64)) (shaped 0 4 1) (fun t => (t.queue 5).ring == fld 0 33 1 && (t.queue 5).size == 16 && (t.queue 5).tail == 0 &&
      (t.queue 5).committed) = true := by decide +kernel
theorem test_ring_codes : ([(1, 4, 1, 5), (0, 3, 1, 2), (0, 17, 0, 2), (0, 16, 32, 0), (0, 16, 31, 4), (0, 5, 1, 4), (0, 5, 2, 0)].all
    fun (st, log, r, code) => gives (.ring (.core 64)) (shaped st log r) fun t => queueCode t == code) = true := by decide +kernel

/-- The manager of the cluster, alone on its fabric. -/
def managing : State := { start.setPreg 89 0o036 0o77 with straps := { start.straps with role := 1 } }
theorem test_dirEnt : managing.admits (.core 64) 89 0o037 (fld 5 18 6) = true ∧
    gives (.dirEnt (.core 64) (fld 5 18 6)) managing (fun t => t.dirEntry 0o77 == fld 5 18 6 && queueCode t == 0) = true ∧
    gives (.dirEnt (.core 64) (fld 5 18 6)) start (fun t => queueCode t == 0o010) = true ∧
    gives (.dirEnt (.core 64) (fld 5 18 6)) (managing.setDir 0o77 (fld 19 20 1)) (fun t => queueCode t == 5) = true := by decide +kernel
theorem test_directoryUpdate : gives (.directoryUpdate (comes ⟨0, 4, 0, 1, .dirUpdate 0o77 (fld 5 18 6)⟩)) (heard start) (fun t =>
    t.dirEntry 0o77 == fld 5 18 6 && t.dirEntry 0o76 == fld 19 20 2) = true := by decide +kernel
theorem test_wholeDirectory : gives (.wholeDirectory (comes ⟨0, 4, 0, 1, .directory true 0o5 true [(3, fld 5 18 6), (9, 0)]⟩)) (heard start) (fun t =>
    t.dirEntry 3 == fld 5 18 6 && t.dirEntry 9 == 0 && t.dirEntry 8 == fld 19 20 2 && t.tr.mgr == some 4 && t.versionOf 4 == some 5 &&
    t.tr.vmix) = true := by decide +kernel

/-! ### The Maltster (13 R328-R334; 17 R421) -/

def resting (t : State) : Bool := t.mal.plan.isEmpty && t.mal.running.isEmpty
/-- Frame 400 placed in cluster 1's slot 0 with heat 200 from cluster 0 and 8 from cluster 1; cluster 0 is present; Maltster on. -/
def placing (f : State → State) : State := f ({ start with mal := { start.mal with
  home := [(400, 513)], heat := [(3200, 200), (3201, 8)], plan := [], qheat := [(40, 9)] } })
/-- Moves of frames are decided at an epoch's end: PROMOTE 16, HYST 4, budget n. -/
def deciding (n : Nat) : State := placing fun s =>
  ((s.setPreg 90 0o021 (fld 12 19 16 ||| fld 20 27 4 ||| fld 28 35 n)).setPreg 90 0o020 (fld 32 32 1)).setPreg 90 0o023 512
theorem test_epochEnd : gives .epochEnd (deciding 3) (fun t => t.preg 90 0o043 == 1 && t.mal.heat == [(3200, 100), (3201, 4)] &&
      t.mal.qheat == [(40, 4)] && (t.mal.plan.map fun m => (m.kind, m.frame, m.src, m.dst)) == [(3, 400, 1, 0)]) = true ∧
    gives .epochEnd (deciding 0) (fun t => t.mal.plan.isEmpty) = true ∧
    gives .epochEnd { deciding 3 with pwr := { start.pwr with off := [.maltster] } } (fun t => t.preg 90 0o043 == 0) = true := by
  decide +kernel
def mv (kind f src dst v : Nat) : Move := ⟨kind, f, src, dst, 0, 0, v, 0⟩
def planned (p r : List Move) : State := placing fun s => { s with mal := { s.mal with plan := p, running := r } }
theorem test_frameMove : gives .frameMove (planned [mv 3 400 1 0 0] []) (fun t => t.mal.plan.isEmpty && t.mal.running.length == 1) = true ∧
    gives .frameMove (planned [] []) resting = true ∧
    gives .frameMove (planned [mv 3 400 1 0 7] [mv 2 7 0 8 0]) (fun t => t.mal.plan.length == 1) = true := by decide +kernel
theorem test_frameMove_drops : gives .frameMove ((planned [mv 3 400 1 0 0] []).setPreg 90 0o022 (fld 28 35 4)) (fun t =>
      t.mal.running.length == 1) = true ∧
    gives .frameMove (let s := (planned [mv 3 400 1 0 0] []).setPreg 90 0o022 (fld 28 35 4)
      { s with mal := { s.mal with fmoved := [(400, 1)] } }) (fun t => resting t && t.preg 90 0o047 == 1) = true := by decide +kernel
theorem test_homeChange : gives (.homeChange 400 true) (planned [] [mv 3 400 1 0 0]) (fun t => t.placed 400 == some 0 &&
      resting t && tget 0 t.mal.fmoved 400 == 1) = true ∧
    gives (.homeChange 400 true) (planned [] [mv 4 400 1 8 0]) (fun t => t.placed 400 == none && resting t) = true := by decide +kernel
theorem test_homeChange_fails : gives (.homeChange 400 false) (planned [] [mv 3 400 1 0 0]) (fun t => t.placed 400 == some 1 &&
      resting t) = true ∧
    gives (.homeChange 8 true) (planned [] [mv 3 400 1 0 0]) (fun t => t.mal.running.length == 1) = true := by decide +kernel
/-- ARG0 and ARG1. -/
def args (a b : Word) (s : State) : State := (s.setPreg 90 0o051 a).setPreg 90 0o052 b
def malCode (t : State) : Nat := bits (t.preg 90 4) 27 35
theorem test_place : start.admits (.core 64) 90 0o050 1 = true ∧
    gives (.place (.core 64)) (args 400 0 (placing id)) (fun t => t.mal.cmdOp == some 1 &&
      (t.mal.plan.map fun m => (m.kind, m.frame, m.src, m.dst)) == [(8, 400, 1, 0)]) = true ∧
    gives (.place (.core 64)) (args 7 0 (placing id)) (fun t => (t.mal.plan.map fun m => (m.kind, m.frame, m.src, m.dst)) ==
      [(8, 7, 8, 0)]) = true := by decide +kernel
theorem test_place_codes : (gives (.place (.core 64)) (args 400 1 (placing id)) (fun t => malCode t == 0o17) &&
      gives (.place (.core 64)) (args (2 ^ 28) 0 (placing id)) (fun t => malCode t == 2) &&
      gives (.place (.core 64)) (after (.place (.core 64)) (args 400 0 (placing id))) (fun t => malCode t == 5)) = true := by decide +kernel
theorem test_evict : start.admits (.core 64) 90 0o050 2 = true ∧
    gives (.evict (.core 64)) (args 400 0 (placing id)) (fun t => t.mal.cmdOp == some 2 &&
      (t.mal.plan.map fun m => (m.kind, m.frame, m.src, m.dst)) == [(9, 400, 1, 8)]) = true ∧
    gives (.evict (.core 64)) (args 8 0 (placing id)) (fun t => malCode t == 0o10) = true := by decide +kernel
/-- The shadows of a group. -/
def shadowed (p : Nat) (ws : List (Nat × Word)) (s : State) : State := ws.foldl (fun s e => s.setShadow p e.1 e.2) s
theorem test_thr : start.admits (.core 64) 90 5 1 = true ∧ ([(fld 12 19 1, fld 20 27 8 ||| fld 28 35 4, 0), (0, fld 20 27 8 ||| fld 28 35 4, 2),
      (fld 12 19 1, fld 20 27 7 ||| fld 28 35 4, 2), (fld 12 19 1, fld 20 27 8 ||| fld 28 35 3, 2)].all fun (a, b, code) =>
    gives (.thr (.core 64)) (shadowed 90 [(0o021, a), (0o022, b)] start) fun t => malCode t == code &&
      t.staged == if code = 0 then [(90, 1)] else []) = true := by decide +kernel
theorem test_evq : start.admits (.core 64) 90 5 2 = true ∧ ([(4, 0), (16, 0), (3, 2), (17, 2)].all fun (n, code) =>
    gives (.evq (.core 64)) (shadowed 90 [(0o044, 64), (0o045, fld 31 35 n)] start) fun t => malCode t == code &&
      t.preg 90 0o044 == if code = 0 then 64 else 0) = true ∧
    gives (.evq (.core 64)) (shadowed 90 [(0o045, fld 31 35 4)] (start.setPreg 90 0o020 (fld 32 32 1))) (fun t => malCode t == 5) =
      true := by decide +kernel
theorem test_commitApply : gives (.commitApply 90 1) (after (.thr (.core 64)) (shadowed 90 [(0o021, fld 12 19 9),
      (0o022, fld 20 27 8 ||| fld 28 35 4)] start)) (fun t => t.staged.isEmpty && t.preg 90 0o021 == fld 12 19 9) = true ∧
    gives (.commitApply 90 1) start (fun t => view t == view start) = true := by decide +kernel

/-! ### Bucket moves (13 R335-R338) -/

/-- The manager, which is both ends: queue 5 in RUN, queue 6 in HOLD and empty, PARKQ 7 in HOLD; bucket 3 is in queue 5. -/
def movingFrom (f : QCtx → QCtx) (b : Option BMove) : State :=
  let s := ((managing.setQueue 5 (f (queue5 QCtx.reset))).setQueue 6 { queue5 QCtx.reset with
    ring := fld 0 33 (0o50000 / 64), st := 2, tail := 0, deliver := 0 }).setQueue 7 { queue5 QCtx.reset with
    ring := fld 0 33 (0o60000 / 64), st := 2, tail := 0, deliver := 0 }
  let s := ((s.setPreg 89 0o033 7).setDir 3 (fld 5 18 5)).setMove b
  args (fld 5 18 5) (fld 5 18 6) s
def bm (stage : Nat) (f : List Nat) (failed : Bool) : Option BMove := some ⟨0, 5, 0, 6, 0, [0], stage, [], f, false, failed, 3⟩
def statOf (st op stage code : Nat) (t : State) : Bool :=
  t.preg 90 0o054 == fld 0 2 st ||| fld 3 5 op ||| fld 6 8 stage ||| fld 27 35 code
theorem test_bmove : (movingFrom id none).admits (.core 64) 90 0o050 3 = true ∧ (movingFrom id none).others = [] ∧
    gives (.bmove (.core 64)) (movingFrom id none) (fun t => t.que.bmove == bm 2 [0] false && (t.queue 5).st == 3 && statOf 1 3 2 0 t &&
      bits (t.dirEntry 3) 19 20 == 1) = true := by decide +kernel
theorem test_bmove_codes : (gives (.bmove (.core 64)) (args 0 (fld 5 18 5) (movingFrom id none)) (fun t => malCode t == 0o10) &&
      gives (.bmove (.core 64)) (movingFrom id (bm 2 [] false)) (fun t => malCode t == 5) &&
      gives (.bmove (.core 64)) (args (fld 0 4 4) (fld 5 18 6) (movingFrom id none)) (fun t => malCode t == 0o17)) = true := by
  decide +kernel
theorem test_fence : gives (.fence (comes ⟨0, 4, 0, 1, .fence 4 5⟩)) (heard (movingFrom id (bm 2 [0] false))) (fun t =>
    t.que.bmove == bm 2 [4, 0] false) = true ∧
    gives (.fence (comes ⟨0, 4, 0, 1, .fence 4 5⟩)) (heard { movingFrom id none with straps := { start.straps with role := 2 } }) (fun t =>
    t.que.bmove.map BMove.fences == some [4]) = true := by decide +kernel
theorem test_drain : gives .drain (movingFrom id (bm 2 [0] false)) (fun t => t.que.bmove == bm 3 [0] false) = true ∧
    gives .drain (movingFrom id (bm 2 [] false)) (fun t => t.que.bmove == bm 2 [] false) = true ∧
    gives .drain start (fun t => t.que.bmove == none) = true := by decide +kernel
theorem test_copy : gives (.copy true) (movingFrom id (bm 3 [0] false)) (fun t => t.que.bmove == bm 4 [0] false) = true ∧
    gives (.copy false) (movingFrom id (bm 3 [0] false)) (fun t => t.que.bmove == none && statOf 3 3 3 0o15 t &&
      t.dirEntry 3 == fld 5 18 5) = true := by decide +kernel
theorem test_copy_reserved : gives (.copy true) (withMem [(0o70000, fld 0 0 1)] (movingFrom (fun q => { q with
      flist := fld 0 33 (0o70000 / 64), flen := 1 }) (bm 3 [0] false))) (fun t => t.que.bmove == none && statOf 3 3 3 3 t) = true := by
  decide +kernel
theorem test_ship : gives (.ship true) (withMem [(0o40000, 0o11)] (movingFrom id (bm 4 [0] false))) (fun t =>
      t.que.bmove == bm 5 [0] false && (t.queue 5).st == 0 && (t.queue 6).tail == 1 && (t.rd 0o50000).w == 0o11 && statOf 1 3 5 0 t) =
      true := by decide +kernel
theorem test_ship_full : gives (.ship true) ((movingFrom id (bm 4 [0] false)).setQueue 6 { queue5 QCtx.reset with tail := 16 })
    (fun t => t.que.bmove == bm 4 [0] true && (t.queue 5).st == 2 && (t.queue 6).st == 2 && statOf 3 3 4 0o16 t) = true := by decide +kernel
theorem test_flipOut : gives .flipOut (movingFrom id (bm 5 [0] false)) (fun t => t.que.bmove == none && (t.queue 6).st == 1 &&
    t.dirEntry 3 == fld 5 18 6 && statOf 2 3 5 0 t) = true := by decide +kernel
theorem test_babort : (movingFrom id (bm 3 [0] false)).admits (.core 64) 90 0o050 4 = true ∧
    gives (.babort (.core 64)) (movingFrom id (bm 3 [0] false)) (fun t => t.que.bmove == none && statOf 2 4 3 0 t) = true ∧
    gives (.babort (.core 64)) (movingFrom id (bm 4 [0] false)) (fun t => malCode t == 0o10) = true ∧
    gives (.babort (.core 64)) start (fun t => malCode t == 0o10) = true := by decide +kernel
theorem test_bforce : (movingFrom id (bm 4 [0] true)).admits (.core 64) 90 0o050 5 = true ∧
    gives (.bforce (.core 64)) (args 0 0 (movingFrom id (bm 4 [0] true))) (fun t => t.que.bmove == none && statOf 2 5 4 0 t) = true ∧
    gives (.bforce (.core 64)) (args 1 0 (movingFrom id (bm 4 [0] true))) (fun t =>
      t.que.bmove == some ⟨0, 5, 0, 6, 0, [0], 4, [], [0], false, false, 5⟩ && (t.queue 5).st == 3 && statOf 1 5 4 0 t) = true ∧
    gives (.bforce (.core 64)) (args 1 0 (movingFrom id (bm 5 [0] true))) (fun t => t.que.bmove == none && (t.queue 6).st == 1 &&
      t.dirEntry 3 == fld 5 18 6 && statOf 2 5 5 0 t) = true ∧
    gives (.bforce (.core 64)) (movingFrom id (bm 4 [0] false)) (fun t => malCode t == 0o10) = true := by decide +kernel

/-- The worked example of chapter 13, with CAP 2, and heat 31 in place of its 29, which R330 would
evict first: cluster 5 full, the
defaults, epoch 6,999 ends with queue decisions on; the
event ring is at word 0o200000. -/
def oxleyFen : State :=
  let res (f h : Nat) : Nat × Nat := (8 * f + 5, h)
  let s := [(0o020, fld 32 34 7), (0o030, 2), (0o043, 6999), (0o044, fld 0 33 (0o200000 / 64)), (0o045, 4)].foldl
    (fun s e => s.setPreg 90 e.1 e.2) start
  let s := ((s.modCore 40 fun k => { k with run := .running }).setPreg 40 0o032 (fld 20 20 1)).setQueue 1207
    { queue5 QCtx.reset with ctl := fld 10 12 2 }
  let cand (f h : Nat) : Cand := { valid := true, frame := f, heats := [0, 0, 0, 0, 0, h, 0, 0] }
  { s with mal := { s.mal with
    home := [(0o3416040, 2561), (0o3416511, 2562)], heat := [res 0o3416040 30, res 0o3416511 31]
    cand := [(1, cand 0o3417226 40), (2, cand 0o3420114 35)], qheat := [(8 * 1207 + 2, 18), (8 * 1207 + 5, 30)]
    qmoved := [(1207, 6981)] } }
theorem test_epochEnd_oxleyFen : gives .epochEnd oxleyFen (fun t => (t.queue 1207).clu == 5 &&
    (t.mal.plan.map fun m => (m.kind, m.frame, m.src, m.dst, m.victim)) ==
      [(2, 0o3416040, 5, 8, 0), (1, 0o3417226, 8, 5, 0o3416040)] &&
    (t.rd 0o200000).w == 0o244500015530 && (t.rd 0o200001).w == 0o2267 && (t.rd 0o200002).w == 0o11036) = true := by decide +kernel
/-- Its EVICT and its PROMOTE as they end. -/
def oxleyMoves : State := { oxleyFen.setPreg 90 0o043 7000 with mal := { oxleyFen.mal with running :=
  [⟨2, 0o3416040, 5, 8, 40, 30, 0, 7000⟩, ⟨1, 0o3417226, 8, 5, 30, 40, 0o3416040, 7000⟩] } }
theorem test_homeChange_oxleyFen : gives (.homeChange 0o3416040 true) oxleyMoves (fun t =>
      [0, 1, 2, 3].map (fun i => (t.rd (0o200000 + i)).w) == [0o113000015530, 0o3416040, 0o24036, 0]) = true ∧
    gives (.homeChange 0o3417226 true) oxleyMoves (fun t =>
      [0, 1, 2, 3].map (fun i => (t.rd (0o200000 + i)).w) == [0o060500015530, 0o3417226, 0o17050, 0o3416040]) = true := by decide +kernel
/-- Table 17-10: steps 3 and 5. -/
theorem test_thr_table_17_10 : gives (.thr (.core 12)) (shadowed 90 [(0o021, 0o002010006040), (0o022, 0o4002)] start) (fun t =>
      t.preg 90 4 == 0o012014000002 && t.preg 90 3 == 1) = true ∧
    gives (.thr (.core 12)) (shadowed 90 [(0o021, 0o002010006040), (0o022, 0o4006)] start) (fun t => t.commitPends 90 &&
      t.pageRead 90 0o021 == 0o002010006040) = true := by decide +kernel

/-! ### Link ports (15 R365-R370, R389; 19 R469) -/

/-- Port p as x, start-up past step 5. -/
def onPort (p : Nat) (x : Port) : State := ({ start with sys := 6 } : State).setPort p x
def inState (st : Nat) : Port := { Port.reset with st, lanes := 255, up := decide (st = 5) }
def stOf (p : Nat) (t : State) : Nat := (t.port p).st
def portCode (p : Nat) (t : State) : Nat := bits (t.preg (80 + p) 4) 27 35
theorem test_portCtl : start.admits (.core 64) 80 0o021 1 = true ∧
    gives (.portCtl (.core 64) 0 1) (onPort 0 (inState 0)) (fun t => stOf 0 t == 1 && t.preg 80 0o021 == 1 && (t.port 0).credits.isEmpty) =
      true ∧
    gives (.portCtl (.core 64) 0 1) (onPort 0 (inState 7)) (fun t => stOf 0 t == 1) = true ∧
    gives (.portCtl (.core 64) 0 1) (onPort 0 (inState 5)) (fun t => stOf 0 t == 5) = true ∧
    gives (.portCtl (.core 64) 0 0) (onPort 0 (inState 5)) (fun t => stOf 0 t == 0) = true := by decide +kernel
theorem test_portCtl_codes : gives (.portCtl (.core 64) 1 1) start (fun t => portCode 1 t == 0o10) = true ∧
    gives (.portCtl (.core 64) 0 0) { start with twin := { start.twin with st := 2 } } (fun t => portCode 0 t == 0o10) = true := by
  decide +kernel
theorem test_farEndDetection : gives (.farEndDetection 3) (onPort 3 (inState 1)) (fun t => stOf 3 t == 2) = true ∧
    gives (.farEndDetection 8) (onPort 8 (inState 2)) (fun t => stOf 8 t == 2) = true := by decide +kernel
theorem test_clockRecovery : gives (.clockRecovery 3 0xF0) (onPort 3 (inState 2)) (fun t => stOf 3 t == 3 && (t.port 3).lanes == 0xF0) =
      true ∧
    gives (.clockRecovery 3 0x0F) (onPort 3 (inState 6)) (fun t => stOf 3 t == 6 && (t.port 3).lanes == 0x0F) = true ∧
    gives (.clockRecovery 3 0x0F) (onPort 3 (inState 5)) (fun t => (t.port 3).lanes == 255) = true := by decide +kernel
def flits (t : State) (p : Nat) : List (Nat × Nat × Nat) := (t.port p).tx.map fun f => (f.ftype.toNat, f.w0.toNat, f.seq.toNat)
theorem test_blockSync : gives (.blockSync 3) (onPort 3 { inState 3 with sendSeq := 9 }) (fun t => stOf 3 t == 4 && (t.port 3).paramSent &&
      flits t 3 == [(3, (fld 5 7 3 ||| fld 8 9 2).toNat, 9)]) = true ∧
    gives (.blockSync 3) (onPort 3 { inState 3 with lanes := 0xF0 }) (fun t => stOf 3 t == 1) = true ∧
    gives (.blockSync 3) ((onPort 3 { inState 6 with lanes := 0xF0 }).setPreg 83 0o021 2) (fun t => stOf 3 t == 6 &&
      (flits t 3).length == 1) = true ∧
    gives (.blockSync 3) (onPort 3 (inState 5)) (fun t => (flits t 3).length == 0) = true := by decide +kernel
def flit (w0 : Word) (seq : BitVec 16) : Flit := ⟨3, 7, 0, w0, 0, 0, 0, seq⟩
theorem test_blockSyncLoss : gives (.blockSyncLoss 3) (onPort 3 { inState 5 with replay := [flit 1 1] }) (fun t => stOf 3 t == 6 &&
      (t.port 3).replay.length == 1 && (t.port 3).retrains == [0]) = true ∧
    gives (.blockSyncLoss 3) (onPort 3 { inState 5 with replay := [flit 1 1], retrains := [0, 0] }) (fun t => stOf 3 t == 7 &&
      (t.port 3).replay.isEmpty) = true ∧
    gives (.blockSyncLoss 3) (onPort 3 (inState 4)) (fun t => stOf 3 t == 1) = true := by decide +kernel
def noJournal : PeerJournal := ⟨[], 0, 0⟩
theorem test_param : gives (.param 1 (flit (fld 0 4 2 ||| fld 5 7 1) 0) noJournal) (onPort 1 (inState 4)) (fun t => stOf 1 t == 5 &&
      (t.port 1).up && t.farEnd 1 == 2 && t.reachable 2 && !t.reachable 4) = true ∧
    gives (.param 1 (flit (fld 0 4 4) 0) noJournal) (onPort 1 (inState 4)) (fun t => stOf 1 t == 7 && t.farFault 1 == 1) = true ∧
    gives (.param 1 (flit (fld 0 4 2) 0) noJournal) (onPort 1 { inState 6 with paramSent := true }) (fun t => stOf 1 t == 5) = true ∧
    gives (.param 8 (flit (fld 0 3 5) 0) noJournal) (onPort 8 (inState 4)) (fun t => stOf 8 t == 5 &&
      bits (t.preg 99 0o020) 28 31 == 5) = true := by decide +kernel
/-- The steward's device wired wrongly: its own number, and port 0's far end. -/
theorem test_portFault : ([(1, 0, 0, 2), (0, 3, 0, 4), (0, 1, 0, 0), (4, 16, 0, 0), (4, 17, 0, 1), (6, 17, 0, 0), (6, 17, 1, 3)].all
    fun (p, d, role, fault) => managing.portFault p d role == fault) = true := by decide +kernel

/-! ### Flow control and retry (15 R367-R369) -/

def busyPort : Port := { inState 5 with credits := [(5, 9)], replay := [flit 1 7, flit 2 8, flit 3 9], sendSeq := 10 }
def returns (n : BitVec 5) (seq : BitVec 16) (w0 : Word) : Flit := ⟨0, 5, n, w0, 0, 0, 0, seq⟩
theorem test_idle : gives (.idle 1 (returns 4 0 0)) (onPort 1 busyPort) (fun t => (t.port 1).credits == [(5, 5)] && (flits t 1).isEmpty) =
      true ∧
    gives (.idle 1 (returns 0 3 0)) (onPort 1 busyPort) (fun t => (flits t 1).map (·.1) == [2] && (t.port 1).nakSent) = true ∧
    gives (.idle 1 (returns 4 0 0)) (onPort 1 (inState 6)) (fun t => (t.port 1).credits.isEmpty) = true := by decide +kernel
theorem test_ack : gives (.ack 1 (returns 0 0 (fld 20 35 8))) (onPort 1 busyPort) (fun t =>
    ((t.port 1).replay.map fun f => f.seq.toNat) == [9]) = true := by decide +kernel
theorem test_nak : gives (.nak 1 (returns 0 0 (fld 20 35 8))) (onPort 1 busyPort) (fun t =>
      ((flits t 1).map fun f => f.2.2) == [8, 9] && t.preg 81 0o025 == 1 && (t.port 1).nakSeen == 1) = true ∧
    gives (.nak 1 (returns 0 0 (fld 20 35 7))) (onPort 1 { busyPort with nakSeen := 7 }) (fun t => stOf 1 t == 6) = true := by
  decide +kernel
theorem test_flitCrcFailure : gives (.flitCrcFailure 1) (onPort 1 { busyPort with recvSeq := 5 }) (fun t =>
      (flits t 1).map (fun f => (f.1, f.2.1)) == [(2, 5)] && t.preg 81 0o024 == 1) = true ∧
    gives (.flitCrcFailure 1) (onPort 1 { busyPort with nakRun := 7 }) (fun t => stOf 1 t == 6) = true ∧
    gives (.flitCrcFailure 1) start (fun t => t.preg 81 0o024 == 1) = true := by decide +kernel
/-- Without the lanes of a width a retraining port tries again; a flit of no listed type is a protocol error. -/
theorem test_blockSync_narrow : gives (.blockSync 3) (onPort 3 { inState 6 with lanes := 0x0F }) (fun t => stOf 3 t == 6 &&
      !(t.port 3).paramSent && (t.port 3).retrains == [0]) = true ∧
    gives (.blockSync 3) (onPort 3 { inState 6 with lanes := 0x0F, retrains := [0, 0] }) (fun t => stOf 3 t == 7) = true := by decide +kernel
theorem test_badFlit : (badFlit 1 (⟨5, 0, 0, 0, 0, 0, 0, 0⟩) && badFlit 1 ⟨0, 6, 0, 0, 0, 0, 0, 0⟩ && !badFlit 1 ⟨0, 7, 0, 0, 0, 0, 0, 0⟩ &&
      badFlit 8 ⟨4, 0, 0, 0, 0, 0, 0, 0⟩ && badFlit 0 ⟨0o023, 0, 0, 0, 0, 0, 0, 0⟩) = true ∧
    gives (.idle 1 ⟨0, 6, 0, 0, 0, 0, 0, 0⟩) (onPort 1 busyPort) (fun t => stOf 1 t == 6) = true := by decide +kernel
theorem test_protocolError : gives (.protocolError 1 (flit 0 0)) (onPort 1 busyPort) (fun t => stOf 1 t == 6 && t.preg 81 0o024 == 1 &&
      (t.port 1).replay.length == 3) = true ∧
    gives (.protocolError 1 (flit 0 0)) start (fun t => t.preg 81 0o024 == 1 && stOf 1 t == 0) = true := by decide +kernel
theorem test_recvReplayed : (((onPort 1 busyPort).recvReplayed 1 (flit 0 0)).1 &&
      (((onPort 1 { busyPort with recvSeq := 65535 }).recvReplayed 1 (flit 0 65535)).2.port 1).recvSeq == 0 &&
      !((onPort 1 busyPort).recvReplayed 1 (flit 0 1)).1) = true := by decide +kernel
/-- The thirty-second accepted flit is acknowledged. -/
theorem test_recvReplayed_acks : flits ((onPort 1 { busyPort with sinceAck := 31 }).recvReplayed 1 (flit 0 0)).2 1 = [(1, 0, 10)] := by
  decide +kernel
/-- An idle flit without credits: its CRC worked out by hand from R367, and what lanes 0 and 7 carry of it. -/
theorem test_flit_crc : flitCrc (mkFlit 0 0 0 0 0) = 0x9FD2 ∧ flitLane (mkFlit 0 0 0 0 0) 0 = 0x00E000 ∧
    flitLane (mkFlit 0 0 0 0 0) 7 = 0x009FD2 := by decide +kernel

/-! ### The twin (15 R374-R386; 13 R326) -/

/-- A device with a twin in state st, holding or not, its port 0 UP to device 1. -/
def twinned (st : Nat) (hold : Bool) : State :=
  let s := (({ start with sys := 6 } : State).setPort 0 (inState 5)).setPreg 80 0o022 (fld 0 4 1)
  { s with straps := { s.straps with twin := true }, twin := { s.twin with st, hold } }
def tf (ft : BitVec 8) (w0 w1 w2 w3 : Word) (seq : BitVec 16) : Flit := ⟨ft, 7, 0, w0, w1, w2, w3, seq⟩
/-- A flit of the twin is the next in order, and does p; as a later one it does nothing but ask for the next. -/
def follows (c : Flit → Instr) (s : State) (w0 w1 w2 w3 : Word) (p : State → Bool) : Bool :=
  (s.recvReplayed 0 (tf 0 w0 w1 w2 w3 0)).1 && gives (c (tf 0 w0 w1 w2 w3 0)) s p && gives (c (tf 0 w0 w1 w2 w3 1)) s fun t =>
    t.cel.append == s.cel.append && t.twin.st == s.twin.st && (t.port 0).recvSeq == 0 && (t.port 0).nakSent
theorem test_racka : follows .racka { twinned 5 true with cel := { start.cel with unacked := [(0, 8), (0, 9)] } } 0 8 0 0 (fun t =>
      t.cel.unacked == [(0, 9)]) = true ∧
    follows .racka (twinned 5 false) 0 8 0 0 (fun t => (t.port 0).recvSeq == 1) = true := by decide +kernel
theorem test_arch : follows .arch (twinned 5 false) 0o33 0 0 0 (fun t => t.cel.archive == 0o33) = true ∧
    follows .arch (twinned 5 true) 0o33 0 0 0 (fun t => t.cel.archive == 0) = true := by decide +kernel
/-- The same with queue 5 as given. -/
def twinQ (hold : Bool) (c : QCtx) : State := (twinned 5 hold).setQueue 5 (queue5 c)
theorem test_newRet : follows .newRet (twinQ false QCtx.reset) (fld 4 17 5) 1 0 0 (fun t => (t.queue 5).ret == 1 && (t.queue 5).head == 1) =
      true ∧
    follows .newRet (twinQ false { QCtx.reset with head := 9 }) (fld 4 17 5) 3 0 0 (fun t => (t.queue 5).ret == 3 &&
      (t.queue 5).head == 9) = true := by decide +kernel
theorem test_qrackAcknowledgement : follows .qrackAcknowledgement ((twinned 5 true).setQueue 5 { queue5 QCtx.reset with tail := 6 })
    (fld 4 17 5) 4 0 0 (fun t => (t.queue 5).deliver == 4) = true := by decide +kernel
def listed : Prepared := { seq0 := 1, seq1 := 2, dom := 0, addrs := [1, 2, 3], new := [[]], settled := false }
theorem test_streamStart : follows .streamStart { twinned 3 false with cel := { start.cel with prepared := [listed] } } 0 0 0 0 (fun t =>
    t.cel.prepared.isEmpty) = true := by decide +kernel
theorem test_preparedLeg : follows .preparedLeg (twinned 3 false) (fld 4 7 1 ||| fld 8 12 2 ||| fld 28 35 1) (fld 0 31 0o4000) 7 8
    (fun t => (t.cel.prepared.map fun e => (e.seq0.toNat, e.seq1.toNat, e.addrs)) ==
      [(7, 8, [0, 0, 0, 2 ^ 32 + 0o4000, 2 ^ 32 + 0o4001, 2 ^ 32 + 0o4002])]) = true := by decide +kernel
theorem test_durableQueueContext : follows .durableQueueContext (twinQ false QCtx.reset) (fld 4 17 5) (fld 2 18 3 ||| fld 19 35 9)
    (fld 19 35 2) 0 (fun t => (t.queue 5).head == 3 && (t.queue 5).tail == 9 && (t.queue 5).ret == 2) = true := by decide +kernel
theorem test_streamEnd : follows .streamEnd (twinned 3 false) 0 0 0 0 (fun t => t.twin.st == 5 && bit (t.preg 96 0o032) 31) = true := by
  decide +kernel
theorem test_resynchronise : follows .resynchronise (twinned 5 true) 0 0 0 0 (fun t => t.twin.st == 2) = true := by decide +kernel
theorem test_ticketEntry : gives (.ticketEntry (tf 0 (fld 4 17 5) 3 0o11 0o22 0) (tf 0 (fld 4 17 5) 0 0o33 0o44 1)) (twinQ false QCtx.reset)
      (fun t => (t.queue 5).tail == 3 && (t.rd 0o40010).w == 0o11 && (t.rd 0o40013).w == 0o44 &&
        (flits t 0).map (·.1) == [0o023]) = true ∧
    gives (.ticketEntry (tf 0 (fld 4 17 5) 3 0o11 0o22 0) (tf 0 (fld 4 17 5) 0 0o33 0o44 7)) (twinQ false QCtx.reset)
      (fun t => (t.queue 5).tail == 1) = true := by decide +kernel
/-- A racked record of 6 words, kind 3, at the append position. -/
def racked (pos : Word) : Instr := .rackedRecord (tf 0o020 pos 6 (fld 0 15 9) 5 0)
  [tf 0o021 (fld 0 3 3) (fld 0 15 9) 5 0 1, tf 0o021 0 0 0 0 2]
theorem test_rackedRecord : wellFormed (racked 0) = true ∧
    gives (racked 0) (twinned 5 false) (fun t => t.cel.append == posAdv 0 3 && t.cel.term == 9 && t.cel.last1 == 5 &&
      (flits t 0).map (·.1) == [0o022]) = true ∧
    gives (racked (mkPos 0 7)) (twinned 5 false) (fun t => t.twin.st == 2 && t.cel.append == 0) = true := by decide +kernel

/-! ### Heartbeats, the hold and its commands -/

theorem test_nextTerm : ([(5, 3, 6), (3, 5, 6), (65535, 0, 1), (0, 65535, 1), (32767, 0, 32768)].all fun (a, b, n) =>
    ({ start with cel := { start.cel with term := a }, twin := { start.twin with seenTerm := b } } : State).nextTerm == n) = true := by
  decide +kernel
theorem test_settleTime : gives .settleTime { twinned 1 false with twin := { start.twin with st := 1, taking := true } } (fun t =>
      t.twin.hold && t.cel.term == 1 && t.preg 96 0o035 == 1) = true ∧
    gives .settleTime (twinned 1 false) (fun t => !t.twin.hold) = true := by decide +kernel
theorem test_handoverNotice : gives .handoverNotice (twinned 5 false) (fun t => t.twin.hold && t.cel.term == 1) = true ∧
    gives .handoverNotice (twinned 5 true) (fun t => t.cel.term == 0) = true := by decide +kernel
theorem test_detachNotice : gives .detachNotice (twinned 5 false) (fun t => t.twin.st == 7) = true ∧
    gives .detachNotice (twinned 4 false) (fun t => t.twin.st == 4) = true := by decide +kernel
theorem test_twWaitExpiry : gives .twWaitExpiry (((twinned 1 false).setPort 0 Port.reset).setPreg 96 0o021 1) (fun t => t.twin.waited &&
      t.twin.taking) = true ∧
    gives .twWaitExpiry (twinned 5 false) (fun t => !t.twin.waited) = true := by decide +kernel
theorem test_hbeat : gives (.hbeat (tf 4 (fld 0 0 1 ||| fld 20 35 7) 8 9 0 0)) (twinned 6 false) (fun t => t.twin.lineLow &&
      t.twin.st == 6 && t.preg 96 0o025 == 8 && t.preg 96 0o026 == 9 && t.twin.peerTerm == 7 && t.twin.seenTerm == 7) = true ∧
    gives (.hbeat (tf 4 0 8 9 0 0)) start (fun t => t.preg 96 0o025 == 0) = true := by decide +kernel
theorem test_heartbeatSend : gives .heartbeatSend { twinned 5 true with cel := { start.cel with term := 7, last1 := 3 } } (fun t =>
      ((t.port 0).tx.map fun f => (f.ftype.toNat, f.w0.toNat, f.w2.toNat)) == [(4, (fld 0 0 1 ||| fld 20 35 7).toNat, 3)]) = true ∧
    gives .heartbeatSend (twinned 1 true) (fun t => (flits t 0).isEmpty) = true := by decide +kernel
def missed (n : Nat) (hold : Bool) : State := { twinned 5 hold with twin := { start.twin with st := 5, hold, misses := n } }
theorem test_heartbeatMiss : gives .heartbeatMiss (missed 1 false) (fun t => t.twin.st == 5 && t.twin.misses == 2) = true ∧
    gives .heartbeatMiss (missed 2 false) (fun t => t.twin.st == 6 && t.twin.taking && t.preg 96 0o034 == 1) = true ∧
    gives .heartbeatMiss (missed 2 true) (fun t => t.twin.st == 6 && t.twin.hold) = true ∧
    gives .heartbeatMiss (twinned 6 false) (fun t => t.twin.misses == 0) = true := by decide +kernel
def twCode (t : State) : Nat := bits (t.preg 96 4) 27 35
/-- A twin command starts where s, is BUSY while one runs, and is refused with the code where u. -/
def orders (c : Instr) (op : Nat) (s u : State) (code : Nat) (p : State → Bool) : Bool :=
  s.admits (.core 64) 96 0o022 (wd op) && gives c s (fun t => t.twin.cmd == some op && t.preg 96 0o023 == fld 0 2 1 ||| fld 3 5 op && p t) &&
    gives c { s with twin := { s.twin with cmd := some 1 } } (fun t => twCode t == 5) && gives c u fun t => twCode t == code
theorem test_attach : orders (.attach (.core 64)) 1 (twinned 7 false) (twinned 5 false) 0o10 (fun t => t.twin.st == 2) = true ∧
    gives (.attach (.core 64)) start (fun t => twCode t == 0o17) = true := by decide +kernel
theorem test_detach : orders (.detach (.core 64)) 2 (twinned 5 true) (twinned 4 true) 0o10 (fun t => t.twin.st == 5) = true := by
  decide +kernel
theorem test_handover : orders (.handover (.core 64)) 3 (twinned 5 true) (twinned 5 false) 0o10 (fun t => t.twin.hold) = true := by
  decide +kernel
theorem test_twTake : orders (.twTake (.core 64)) 4 (twinned 6 false) (twinned 6 true) 7 (fun t => t.twin.taking && !t.twin.hold) = true ∧
    gives (.twTake (.core 64)) (twinned 5 false) (fun t => twCode t == 0o10) = true := by decide +kernel
theorem test_accept : orders (.accept (.core 64)) 5 (twinned 4 false) (twinned 4 true) 0o10 (fun t => t.twin.st == 3) = true := by
  decide +kernel
theorem test_resync : orders (.resync (.core 64)) 6 (twinned 4 false) (twinned 1 false) 0o10 (fun t => t.twin.st == 2 &&
    t.cel.prepared.isEmpty) = true := by decide +kernel
def running (op : Nat) (hold : Bool) (un : List (Word × Word)) : State :=
  { twinned 5 hold with twin := { start.twin with st := 5, hold, cmd := some op }, cel := { start.cel with unacked := un } }
def twEnds (c : Instr) (s : State) (w : Word) (p : State → Bool) : Bool :=
  gives c s fun t => t.twin.cmd.isNone && t.preg 96 0o023 == w && p t
theorem test_twinCommandCompletion : (twEnds (.twinCommandCompletion 0) (running 2 true []) (fld 0 2 2 ||| fld 3 5 2) (fun t => t.twin.st == 7) &&
      twEnds (.twinCommandCompletion 0) (running 3 true []) (fld 0 2 2 ||| fld 3 5 3) (fun t => !t.twin.hold && t.twin.lineLow) &&
      twEnds (.twinCommandCompletion 0o15) (running 4 false []) (fld 0 2 3 ||| fld 3 5 4 ||| fld 27 35 0o15) (fun t => !t.twin.taking)) = true ∧
    gives (.twinCommandCompletion 0) (running 3 true [(1, 2)]) (fun t => t.twin.hold && t.twin.cmd == some 3) = true ∧
    gives (.twinCommandCompletion 0) start (fun t => t.preg 96 0o023 == 0) = true := by decide +kernel

/-! ### Messages (15 R364, R372, R373) -/

/-- Device 0 with port 1 UP to device 2. -/
def ring2 : State := (onPort 1 (inState 5)).setPreg 81 0o022 (fld 0 4 2)
def notice (d src : BitVec 5) (seq : BitVec 14) : Msg := ⟨d, src, seq, 1, .fence 2 5⟩
def sent (t : State) (p : Nat) : List (Nat × Nat × Nat) := (t.port p).msgs.map fun m => (m.dst.toNat, m.seq.toNat, m.hops)
theorem test_messageRouting_on : gives (.messageRouting (comes (notice 6 2 4))) ring2 (fun t => sent t 1 == [(6, 4, 2)]) = true ∧
    gives (.messageRouting (comes (notice 4 2 4))) ring2 (fun t => t.tr.held.length == 1 && (sent t 1).isEmpty) = true := by decide +kernel
theorem test_messageRouting_here : gives (.messageRouting (comes (notice 0 2 0))) ring2 (fun t => tget 0 t.tr.recvSeq 2 == 1 &&
      sent t 1 == [(2, 0, 0)]) = true ∧
    gives (.messageRouting (comes (notice 0 2 16383))) ring2 (fun t => tget 0 t.tr.recvSeq 2 == 0 && (sent t 1).length == 1) = true ∧
    gives (.messageRouting (comes (notice 0 2 9))) ring2 (fun t => (sent t 1).isEmpty) = true := by decide +kernel
theorem test_sendMsg : (ring2.reachable 2 && (match ring2.sendMsg 2 (.notice false) none with
    | some t => t.tr.unacked.length == 1 && tget 0 t.tr.sendSeq 2 == 1 && sent t 1 == [(2, 0, 0)]
    | none => false)) = true := by decide +kernel
def kept : State := { ring2 with tr := { ring2.tr with unacked := [(notice 2 0 3, none), (notice 2 0 4, none), (notice 4 0 3, none)] } }
def left (t : State) : List (Nat × Nat) := t.tr.unacked.map fun e => (e.1.dst.toNat, e.1.seq.toNat)
theorem test_endToEndAcknowledgement : gives (.endToEndAcknowledgement (comes ⟨0, 2, 0, 1, .ack 3⟩)) kept (fun t => left t == [(2, 4), (4, 3)]) =
    true := by decide +kernel
theorem test_messageResend : gives (.messageResend 2) kept (fun t => sent t 1 == [(2, 3, 1), (2, 4, 1)]) = true := by decide +kernel
theorem test_unreachable : gives (.unreachable 2) kept (fun t => left t == [(4, 3)] && !t.reachable 2) = true ∧
    gives (.unreachable 0) kept (fun t => (left t).length == 3) = true := by decide +kernel

/-! ### Field update (16 R395-R412; 19 R464) -/

/-- Bytes of the store from an address on. -/
def onStore (bs : List (Nat × List Nat)) (s : State) : State :=
  bs.foldl (fun s e => s.putBytes e.1 (e.2.map (BitVec.ofNat 8))) s
/-- The session's header: 2 delta pieces of 13 bytes for an image of 9, whose digest is d; epoch 5, FLAGS as given. -/
def headed (d : List Nat) (flags : Nat) : List (Nat × List Nat) :=
  [(areaD + 4128768 + 6, [5, flags]), (areaD + 4128768 + 0x18, [0, 0, 0, 9, 0, 0, 0, 13, 0, 2]), (areaD + 4128768 + 0x24, d)]
def session (st : SteepState) (f : Steep → Steep) (bs : List (Nat × List Nat)) : State :=
  let s := onStore bs start
  { s with steep := f { s.steep with st, owner := 1, tables := [0] } }
def steepCode (t : State) : Nat := bits (t.preg 93 4) 27 35
def steepStatOf (st op code : Nat) (t : State) : Bool := t.preg 93 0o023 == fld 0 2 st ||| fld 3 5 op ||| fld 27 35 code
/-- No session, and its delta area cleared. -/
def endedOf (t : State) : Bool := t.steep.st == .idle && t.steep.have_.isEmpty && t.steep.tables.isEmpty && tget 0 t.store areaD == 0
theorem test_mbSubmit : gives (.mbSubmit 1010) start (fun t => t.mgmt.mbDone && t.mgmt.mbCode == 2) = true ∧
    gives (.mbSubmit 1010) { start with mgmt := { start.mgmt with mbDone := false } } (fun t => !t.mgmt.mbDone) = true := by decide +kernel
theorem test_submit : (((session .gather id (headed [] 0)).submit 1 2 []).1 == 2 && ((session .gather id (headed [] 0)).submit 2 0 []).1 == 0o014 &&
      ((session .ready id (headed [] 0)).submit 1 0 []).1 == 0o010 && ((session .gather id (headed [] 0)).submit 1 0 []).1 == 0o015 &&
      ((session .gather (fun x => { x with tables := [] }) (headed [] 0)).submit 1 0 []).1 == 0o017 &&
      ((session .gather (fun x => { x with spent := true }) []).submit 1 0 []).1 == 0o020) = true := by decide +kernel
/-- A piece whose digest its table holds: of two the first, then the last. -/
def tabled : List (Nat × List Nat) := (areaD + 4132864, sha384 []) :: (areaD + 4132864 + 48, sha384 []) :: headed [] 0
/-- With the Cellar in fault the stores answer ABSENT. -/
def storeless : State := { session .gather id (headed [] 0) with cel := { start.cel with st := .fault } }
theorem test_submit_storeless : ((storeless.submit 1 2 []).1 == 0o017 && !storeless.storeUp) = true ∧
    gives (.abort (.core 64)) storeless (fun t => steepCode t == 0o017) = true ∧ gives .build storeless (fun t => t.steep.st == .gather) = true :=
  by decide +kernel
theorem test_submit_keeps : (let r := (session .gather id tabled).submit 1 0 [];
      r.1 == 0 && r.2.steep.have_ == [0] && r.2.steep.st == .gather) = true ∧
    (let r := (session .gather (fun x => { x with have_ := [0] }) tabled).submit 1 1 [];
      r.1 == 0 && r.2.steep.have_ == [0, 1] && r.2.steep.st == .apply) = true ∧
    (let r := (session .gather (fun x => { x with have_ := [0] }) tabled).submit 1 0 [];
      r.1 == 0 && r.2.steep.st == .gather) = true := by decide +kernel
/-- A quarter of a piece that is none, from device 2. -/
def relayed (off n : Nat) : Msg := ⟨0, 2, 0, 1, .piece 1010 off (List.replicate n 0)⟩
theorem test_relayedPiece : gives (.relayedPiece (comes (relayed 3072 1024))) ring2 (fun t => (sent t 1).length == 2 &&
      left t == [(2, 0)]) = true ∧
    gives (.relayedPiece (comes (relayed 0 1024))) ring2 (fun t => (sent t 1).length == 1 && (left t).isEmpty) = true ∧
    (match exec (.relayedPiece (comes (relayed 0 9))) ring2 with
        | .fault .malformedCommand => true
        | _ => false) = true := by decide +kernel
/-- The delta stream writes 9 bytes. -/
def nine : List Nat := [1, 2, 3, 4, 5, 6, 7, 8, 9]
def stream (d : List Nat) : List (Nat × List Nat) := (areaD, [2, 0, 9] ++ nine ++ [0]) :: headed d 0
theorem test_build : gives .build (session .apply id (stream (sha384 nine))) (fun t => t.steep.st == .ready && t.steep.lenSteep == 9 &&
      t.bytes areaS 9 == nine) = true ∧
    gives .build (session .apply id (stream [])) (fun t => t.steep.st == .failed && t.steep.fail == 0o015) = true ∧
    gives .build (session .gather id (stream [])) (fun t => t.steep.st == .gather) = true := by decide +kernel
/-- A command where it runs, while another runs, and where it is refused. -/
def steeps (c : Instr) (op : Nat) (s u : State) (code : Nat) (p : State → Bool) : Bool :=
  s.admits (.core 64) 93 0o022 (wd op) && gives c s p &&
    gives c { s with steep := { s.steep with cmd := some 5 } } (fun t => steepCode t == 5) && gives c u fun t => steepCode t == code
theorem test_activate : steeps (.activate (.core 64)) 1 (session .ready id []) (session .gather id []) 0o010 (fun t => t.steep.pausing &&
    t.steep.cmd == some 1 && t.steep.sel == 1 && steepStatOf 1 1 0 t) = true := by decide +kernel
def pausing (rev : Bool) : State := session (if rev then .provisional else .ready) (fun x => { x with
  pausing := true, reverting := rev, cmd := some (if rev then 4 else 1), sel := 1, lenSteep := 9, confVer := 4, runVer := 7 })
  [(areaS, nine), (areaD, nine), (areaD + 4128768 + 0x14, [1, 2, 3, 4])]
theorem test_engineTableSwitch : gives .engineTableSwitch (pausing false) (fun t => t.steep.st == .provisional && !t.steep.pausing &&
      t.steep.runVer == 0x1020304 && t.steep.runFrom == 1 && steepStatOf 2 1 0 t) = true ∧
    gives .engineTableSwitch (pausing true) (fun t => endedOf t && t.steep.sel == 0 && t.steep.runVer == 4 && steepStatOf 2 4 0 t) = true ∧
    gives .engineTableSwitch start (fun t => steepStatOf 0 0 0 t) = true := by decide +kernel
theorem test_confirm : steeps (.confirm (.core 64)) 2 (session .provisional id []) (session .ready id []) 0o010 (fun t =>
    t.steep.st == .confirm && t.steep.cfm && !t.steep.epend && t.steep.cmd == some 2 && steepStatOf 1 2 0 t) = true := by decide +kernel
/-- A session that asks for an epoch advance. -/
theorem test_confirm_advance : (session .provisional id (headed [] 1)).header.flags = 1 := by decide +kernel
theorem test_abort : steeps (.abort (.core 64)) 3 (session .failed id [(areaD, nine)]) (session .provisional id []) 0o010 (fun t =>
    endedOf t && steepStatOf 2 3 0 t) = true := by decide +kernel
theorem test_abort_joined : gives (.abort .host) ((session .gather (fun x => { x with owner := 2, joined := 4 }) []).setPreg 95 0o037
    (2 ^ 36 - 1)) (fun t => steepCode t == 0o014) = true := by decide +kernel
theorem test_revert : steeps (.revert (.core 64)) 4 (session .provisional id []) (session .ready id []) 0o010 (fun t => t.steep.pausing &&
    t.steep.reverting && steepStatOf 1 4 0 t) = true := by decide +kernel
/-- The manager, with port 1 UP to device 2, in a session. -/
def leading (d : Word) : State :=
  let s := ring2.setPreg 93 0o054 d
  { s with straps := { s.straps with role := 1 }, steep := { s.steep with st := .ready, have_ := [0], tables := [0] } }
theorem test_relay : steeps (.relay (.core 64)) 5 (leading 2) start 0o010 (fun t => t.steep.cmd == some 5 && steepStatOf 1 5 0 t &&
      t.steep.relayed == [1024, 1025, 0] && left t == [(2, 0), (2, 1), (2, 2), (2, 3)]) = true ∧
    gives (.relay (.core 64)) (leading 4) (fun t => t.steep.cmd == none && steepStatOf 3 5 0o017 t) = true := by decide +kernel
theorem test_lapse : gives .lapse (session .gather (fun x => { x with idleUs := 30 * 86400000000 }) [(areaD, nine)]) endedOf = true ∧
    gives .lapse (session .gather (fun x => { x with idleUs := 29 * 86400000000 }) []) (fun t => t.steep.st == .gather) = true ∧
    gives .lapse (session .provisional (fun x => { x with idleUs := 30 * 86400000000 }) []) (fun t => t.steep.st == .provisional) = true := by decide +kernel
theorem test_steepCommandCompletion : gives (.steepCommandCompletion 0) (session .confirm (fun x => { x with
      cmd := some 2, cfm := true, sel := 1, lenSteep := 9 }) [(areaS, nine), (areaA, [9, 9]), (areaD, nine)]) (fun t => endedOf t &&
      t.bytes areaA 9 == nine && t.bytes areaB 9 == nine && tget 0 t.store areaS == 0 && t.steep.lenConf == 9 && t.steep.sel == 0 &&
      steepStatOf 2 2 0 t) = true ∧
    gives (.steepCommandCompletion 0o15) (session .gather (fun x => { x with cmd := some 5 }) []) (fun t => t.steep.cmd == none &&
      steepStatOf 3 5 0o15 t) = true ∧
    gives (.steepCommandCompletion 0) start (fun t => steepStatOf 0 0 0 t) = true := by decide +kernel

/-! ### Resets, start-up, the loss of power (18 R432-R449) -/

/-- What a reset spares and what it does not: the journal and KEK stay, keys go, core 0 is in reset. -/
def lived : State := { start with
  cel := { start.cel with st := .service, ring := [(5, 7)], archive := 3 }, dram := [(0o4000, ⟨1, false⟩)], sys := 6
  kiln := { start.kiln with kek := some [1], slots := [(3, ⟨1, 1, []⟩)] }, twin := { start.twin with hold := true } }
def spared (t : State) : Bool := t.cel.ring == [(5, 7)] && t.cel.archive == 3 && t.kiln.kek == some [1] && t.kiln.slots.isEmpty &&
  (t.core 0).run == .reset
def pair0 : Straps := ⟨6, 1, true, 3⟩
theorem test_powerOnReset : gives (.powerOnReset pair0 true true true) lived (fun t => spared t && t.straps == pair0 && t.dram.isEmpty &&
    (t.core 64).run == .running && !t.twin.hold && t.sys == 5 && t.twin.st == 1 && bit (t.preg 80 0o021) 35 &&
    bit (t.preg 81 0o021) 35 && (t.port 0).st == 1 && t.placed 383 == some 0) = true := by decide +kernel
theorem test_powerOnReset_spent : gives (.powerOnReset pair0 true false false) lived (fun t => spared t && t.steep.spent &&
    t.preg 97 0o022 == 5 && (t.port 0).st == 1 && (t.port 1).st == 0) = true := by decide +kernel
theorem test_porstN : gives .porstN lived (fun t => spared t && (t.core 64).run == .reset && t.pins.porstLow && t.dram.isEmpty) = true := by
  decide +kernel
theorem test_pwrGood : gives .pwrGood lived (fun t => spared t && (t.core 64).run == .reset && !t.pins.pwrGood && !t.twin.hold) = true := by
  decide +kernel
theorem test_warmrstN : gives .warmrstN lived (fun t => t.warmPend && t.cel.st == .drain && t.pins.warmLow) = true ∧
    gives .warmrstN { lived with pwr := { lived.pwr with fatalTherm := true } } (fun t => !t.warmPend && t.pins.warmLow) = true := by
  decide +kernel
theorem test_rstCmd : lived.admits (.core 64) 95 0o045 1 = true ∧ gives (.rstCmd (.core 64) 1) lived (fun t => t.warmPend) = true ∧
    gives (.rstCmd (.core 64) 2) lived (fun t => !t.warmPend && bits (t.preg 95 4) 27 35 == 3) = true := by decide +kernel
theorem test_warmReset : gives (.warmReset true true true) { lived with warmPend := true } (fun t => spared t && t.dram == lived.dram &&
      !t.warmPend && (t.core 64).run == .running && t.sys == 5) = true ∧
    gives (.warmReset true true true) lived (fun t => t.sys == 6) = true := by decide +kernel
def dimms (n gib : Nat) : DramPop := ⟨true, BitVec.ofNat 4 n, 2, BitVec.ofNat 12 gib, 5, 6, 7⟩
theorem test_dramTraining : gives (.dramTraining (dimms 2 64)) lived (fun t => t.installed == 2 ^ 38 && t.preg 72 0o022 == 5 &&
      t.preg 79 0o020 == fld 32 32 1 ||| fld 33 35 2) = true ∧
    gives (.dramTraining (dimms 2 64)) (lived.setPreg 94 0o062 2) (fun t => t.installed == 0 && t.preg 72 0o020 == fld 30 31 2 |||
      fld 33 35 4) = true ∧
    gives (.dramTraining (dimms 2 64)) start (fun t => t.installed == 2 ^ 30) = true := by decide +kernel
theorem test_pcieLinkTraining : gives (.pcieLinkTraining 5 16) lived (fun t => t.preg 88 0o020 == fld 24 27 5 ||| fld 28 32 16) = true ∧
    gives (.pcieLinkTraining 5 2) lived (fun t => t.preg 88 0o020 == 0) = true := by decide +kernel
theorem test_ready : gives .ready (({ lived with sys := 5 } : State).setPreg 72 0o020 (fld 32 32 1)) (fun t => t.sys == 6) = true ∧
    gives .ready { lived with sys := 5 } (fun t => t.sys == 5) = true := by decide +kernel
theorem test_svStart : gives (.svStart 9) lived (fun t => t.svStarted && (t.core 64).pc == mkPtr (9 * 2048) 0) = true ∧
    gives (.svStart 9) { lived with svStarted := true } (fun t => (t.core 64).pc == 0) = true := by decide +kernel
theorem test_perstN : gives (.perstN true) ({ lived with msixTab := [(0, 1)] }.setPreg 88 0o020 5) (fun t => t.pins.perstLow && t.msixTab.isEmpty &&
      t.preg 88 0o020 == 0) = true ∧
    gives (.perstN false) ({ lived with pins := { lived.pins with perstLow := true } }) (fun t => !t.pins.perstLow) = true := by
  decide +kernel
theorem test_pwrFailN : gives .pwrFailN lived (fun t => t.pins.pwrFailLow && t.cel.st == .drain && t.preg 97 0o025 == 1 &&
      bit (t.preg 97 0o020) 27 && tget 0 t.lgasp 0 == fld 0 5 1 ||| 1) = true ∧
    gives .pwrFailN { lived with pins := { lived.pins with pwrFailLow := true } } (fun t => t.preg 97 0o025 == 0) = true := by
  decide +kernel
theorem test_pwrFailNRelease : gives .pwrFailNRelease (after .pwrFailN lived) (fun t => !t.pins.pwrFailLow && t.cel.st == .service) = true :=
  by decide +kernel
theorem test_srLgasp : gives (.srLgasp (.core 64) (fld 6 6 1)) ({ lived with lgasp := [(272, 9)] }.setPreg 97 0o026
      (fld 0 0 1 ||| fld 1 1 1)) (fun t => tget 0 t.lgasp 272 == 0 && !bit (t.preg 97 0o026) 0) = true ∧
    gives (.srLgasp (.core 64) 0) { lived with lgasp := [(272, 9)] } (fun t => tget 0 t.lgasp 272 == 9) = true := by decide +kernel
def fatalOf (cause why : Nat) (t : State) : Bool := t.sys == 7 && !t.twin.hold && t.preg 97 0o022 == wd cause &&
  (t.core 64).run == .halted && (t.core 0).run == .reset && bits (tget 0 t.lgasp (272 * t.lgLast)) 0 5 == why
theorem test_thermtrip : gives .thermtrip lived (fun t => fatalOf 3 2 t && t.pins.thermtripLow) = true := by decide +kernel
theorem test_lockstepMismatch : gives .lockstepMismatch lived (fatalOf 1 3) = true ∧
    gives .lockstepMismatch { lived with sys := 7 } (fun t => t.twin.hold) = true := by decide +kernel

/-! ### Control of the cores (09 R221, R229; 17 R426, R427; 18 R439) -/

def cpCode (p : Nat) (t : State) : Nat := bits (t.preg p 4) 27 35
theorem test_reset : start.admits (.core 64) 0 0o021 2 = true ∧
    gives (.reset (.core 64) 0 2) (start2 5 7) (fun t => (t.core 0).run == .reset && (t.core 0).g 1 == 0) = true ∧
    gives (.reset (.core 64) 1 0) start (fun t => (t.core 1).releasing) = true ∧
    gives (.reset (.core 64) 0 1) start (fun t => cpCode 0 t == 0o10) = true := by decide +kernel
theorem test_pitch : start.admits (.core 64) 1 0o021 3 = true ∧
    gives (.pitch (.core 64) 1) start (fun t => (t.core 1).pitching && (t.core 1).run == .reset) = true ∧
    gives (.pitch (.core 64) 0) start (fun t => cpCode 0 t == 0o10) = true := by decide +kernel
theorem test_pitchCompletion : gives (.pitchCompletion 0) (startWith fun k => { k.setPsw 18 19 3 with
      pitching := true, csBad := true, run := .waiting }) (fun t => !(t.core 0).pitching && !(t.core 0).csBad &&
        (t.core 0).run == .running && (t.core 0).pc == at_ 1) = true ∧
    gives (.pitchCompletion 0) (startWith fun k => { k with csBad := true }) (fun t => (t.core 0).csBad) = true := by decide +kernel
def releasing : State := withMem [(0, at_ 30)] { start.modCore 1 fun k => { k with releasing := true } with sys := 6 }
/-- Its control store is sound, and its release waits no more. -/
theorem test_coreRelease : gives (.coreRelease 1) releasing (fun t => (t.core 1).run == .running && (t.core 1).pc == at_ 30) = true ∧
    gives (.coreRelease 2) releasing (fun t => (t.core 2).run == .reset) = true ∧
    gives (.coreRelease 1) { releasing with sys := 7 } (fun t => (t.core 1).run == .reset) = true := by decide +kernel
theorem test_ici : start.admits (.core 64) 5 0o034 1 = true ∧ gives (.ici (.core 64) 5) start (fun t => (t.core 5).pend.getMsbD 3) =
    true := by decide +kernel
/-- A new task area, whose C0 and ring state are read, and whose dirty accumulators go to the old one. -/
def switching : State :=
  let s := (startWith fun k => { k with tdrt := 4, dsr := 0o55 }).setPreg 0 0o025 (fld 0 30 1)
  withMem [(0o2000 + 7, fld 0 3 4 ||| fld 4 7 2 ||| fld 8 11 3)]
    { s with dram := [(0o2000 + 192, ⟨(domainToken 5 0 false).a, true⟩), (0o2000 + 193, ⟨0, true⟩)] }
theorem test_taskArea : start.admits (.core 64) 0 0o025 (fld 0 30 2) = true ∧
    gives (.taskArea (.core 64) 0 (fld 0 30 2)) switching (fun t => t.creg 0 0o025 == fld 0 30 2 && (t.core 0).tabs == 15 &&
      (t.core 0).tdrt == 0 && (t.core 0).c0T == domainToken 5 0 false && (t.core 0).tRing == ⟨4, 3, 2⟩ && (t.rd (512 + 232)).w == 0o55) = true ∧
    gives (.taskArea (.core 64) 0 0) (startWith fun k => { k with depth := 2 }) (fun t => cpCode 0 t == 0o10) = true := by decide +kernel
theorem test_tgroup : start.admits (.core 64) 0 0o026 (fld 24 27 9 ||| fld 32 35 4) = true ∧
    gives (.tgroup (.core 64) 0 (fld 24 27 9 ||| fld 32 35 4)) (withMem [(512 + 232, fld 0 4 9 ||| 0o55)] switching) (fun t => (t.core 0).tabs == 9 &&
      (t.core 0).dsr == fld 0 4 9) = true ∧
    gives (.tgroup (.core 64) 0 (fld 24 27 9 ||| fld 32 35 1)) switching (fun t => (t.core 0).tabs == 8) = true := by decide +kernel

/-! ### Power domains, clocks and DRAM timing (18 R440-R442, R454; 19 R457) -/

theorem test_clPwr : start.admits (.core 64) 94 0o020 0o77770 = true ∧
    gives (.clPwr (.core 64) 0 0o77770) start (fun t => cpCode 94 t == 5 && t.domOn (.core 1)) = true ∧
    gives (.clPwr (.core 64) 0 0o137770) start (fun t => cpCode 94 t == 0 && !t.domOn (.core 1) && t.preg 94 0o020 == 0o137770) = true := by
  decide +kernel
theorem test_clPwr_wakes : let s := { start with pwr := { start.pwr with off := [.core 1] } }
    gives (.clPwr (.core 64) 0 0o177770) s (fun t => !t.domOn (.core 1) && t.pwr.waking == [.core 1]) = true := by decide +kernel
theorem test_ioPwr : start.admits (.core 64) 94 0o030 0o37377700 = true ∧
    gives (.ioPwr (.core 64) 0o17777700) (start.setPreg 72 0o020 0o12) (fun t => !t.domOn (.dram 0) && t.preg 72 0o020 == 0o13) = true ∧
    gives (.ioPwr (.core 64) 0o37737700) start (fun t => cpCode 94 t == 5) = true ∧
    gives (.ioPwr (.core 64) 0o37737700) { start with pins := { start.pins with perstLow := true } } (fun t => !t.domOn .pcie) = true := by
  decide +kernel
theorem test_domainWake : let s := { start with pwr := { start.pwr with off := [.cellar, .dram 2], waking := [.cellar, .dram 2] } }
    gives (.domainWake .cellar) s (fun t => t.domOn .cellar && t.cel.st == .scan && t.pwr.waking == [.dram 2]) = true ∧
    gives (.domainWake (.dram 2)) (s.setPreg 74 0o020 0o13) (fun t => t.domOn (.dram 2) && t.preg 74 0o020 == 0o12) = true ∧
    gives (.domainWake .maltster) s (fun t => t.pwr.off.length == 2) = true := by decide +kernel

/-- Cluster 3's rail at 860 mV as measured, and CL_FREQ3's shadow at m (18, worked example). -/
def rail3 (m : Nat) : State := ({ start with pwr := { start.pwr with sampled := true, rails := [(0, 860), (1, 860), (2, 860), (3, 860)] } }).setShadow
  94 0o045 (wd m)
theorem test_clFreq_range : (rail3 7).admits (.core 64) 94 5 4 = true ∧
    gives (.clFreq (.core 64) 3) (rail3 7) (fun t => cpCode 94 t == 2 && t.staged.isEmpty) = true := by decide +kernel
/-- 850 mV is enough for 28 (840 mV) and too little for 29 (855 mV). -/
theorem test_clFreq_rail : (rail3 28).freqCode 3 28 = 0 ∧ (rail3 29).freqCode 3 29 = 2 := by
  unfold State.freqCode topMult
  generalize Config.gradeE = g
  cases g <;> decide +kernel
theorem test_frequencySwitch : let s := (rail3 28).stage 94 4
    gives (.frequencySwitch 3) s (fun t => t.multOf 3 == 28 && t.staged.isEmpty && t.multOf 2 == 8) = true := by decide +kernel
theorem test_frequencySwitch_waits : gives (.frequencySwitch 3) { (rail3 28).stage 94 4 with cel :=
      { admitted.cel with posts := admitted.cel.posts.map fun p => { p with core := 25, stage := .durable } } } (fun t =>
      t.multOf 3 == 8 && t.staged == [(94, 4)]) = true := by decide +kernel
def paired2 : State := (start.setPreg 74 0o021 (fld 16 19 2)).setShadow 94 0o062 2
theorem test_dramClk : paired2.admits (.core 64) 94 5 9 = true ∧
    gives (.dramClk (.core 64)) paired2 (fun t => cpCode 94 t == 2) = true ∧
    gives (.dramClk (.core 64)) (paired2.setPreg 74 0o021 (fld 16 19 1)) (fun t => t.staged == [(94, 9)]) = true ∧
    gives (.dramClk (.core 64)) (paired2.setShadow 94 0o062 3) (fun t => cpCode 94 t == 3) = true := by decide +kernel
theorem test_adjClk : start.admits (.core 64) 94 5 10 = true ∧
    gives (.adjClk (.core 64)) (start.setShadow 94 0o063 1) (fun t => t.staged == [(94, 10)] && t.preg 94 0o063 == 0) = true := by decide +kernel
/-- SPD gives tRC 20, the other limits 0. -/
def spd20 : State := { start with spd := { start.spd with t1 := fld 24 35 20, t2 := fld 12 19 6, t3 := fld 0 15 100 } }
theorem test_coreTiming : spd20.admits (.core 64) 73 5 1 = true ∧
    gives (.coreTiming (.core 64) 1) (spd20.setShadow 73 0o022 (fld 24 35 19)) (fun t => cpCode 73 t == 2) = true ∧
    gives (.coreTiming (.core 64) 1) (spd20.setShadow 73 0o022 (fld 24 35 20)) (fun t => t.staged == [(73, 1)]) = true := by decide +kernel
theorem test_turnTiming : spd20.admits (.core 64) 73 5 2 = true ∧
    gives (.turnTiming (.core 64) 1) (spd20.setShadow 73 0o023 (fld 12 19 5)) (fun t => cpCode 73 t == 2) = true ∧
    gives (.turnTiming (.core 64) 1) (spd20.setShadow 73 0o023 (fld 12 19 6)) (fun t => t.staged == [(73, 2)]) = true := by decide +kernel
theorem test_refTiming : spd20.admits (.core 64) 73 5 3 = true ∧
    gives (.refTiming (.core 64) 1) (spd20.setShadow 73 0o024 (fld 0 15 99)) (fun t => cpCode 73 t == 2) = true ∧
    gives (.refTiming (.core 64) 1) (spd20.setShadow 73 0o024 (fld 0 15 100)) (fun t => t.staged == [(73, 3)]) = true := by decide +kernel
theorem test_scrubTiming : spd20.admits (.core 64) 73 5 4 = true ∧
    gives (.scrubTiming (.core 64) 1) (spd20.setShadow 73 0o025 1001) (fun t => cpCode 73 t == 2) = true ∧
    gives (.scrubTiming (.core 64) 1) (spd20.setShadow 73 0o025 1000) (fun t => t.staged == [(73, 4)]) = true := by decide +kernel
theorem test_commitApply_timing : gives (.commitApply 73 1) ((spd20.setShadow 73 0o022 (fld 24 35 20)).stage 73 1) (fun t => t.staged.isEmpty &&
    t.preg 73 0o022 == fld 24 35 20) = true := by decide +kernel

/-! ### The patrol, rails, heat, timers (18 R444-R446, R451; 19 R457) -/

def patrolled : State := start.setPreg 73 0o020 2
theorem test_patrolScrub : gives (.patrolScrub 0o101 .uncorrectable) patrolled (fun t => t.preg 73 0o027 == 1 && t.preg 73 0o030 == 0o101 &&
      t.preg 97 0o102 == 1) = true ∧
    gives (.patrolScrub 0o101 .uncorrectable) start (fun t => t.preg 73 0o027 == 0) = true ∧
    gives (.patrolScrub 0o101 .corrected) patrolled (fun t => t.preg 73 0o026 == 1 && t.preg 97 0o073 == 1) = true ∧
    gives (.patrolScrub (2 ^ 26) .uncorrectable) start (fun t => t.preg 72 0o027 == 0) = true ∧
    gives (.patrolScrub 0o101 .uncorrectable) { patrolled with mal := { start.mal with home := [(0, 1)] } } (fun t => t.preg 73 0o027 == 0) =
      true := by decide +kernel
def level : List Nat := [800, 800, 800, 800, 800, 800, 800, 800]
def sagging : List Nat := [800, 649, 799, 800, 800, 800, 800, 800]
theorem test_voltageSample : gives (.voltageSample sagging) start (fun t => t.pwr.overRuns == [0] && t.pwr.fenced.isEmpty && t.railMv 1 == 649) =
      true ∧
    gives (.voltageSample sagging) (after (.voltageSample sagging) start) (fun t => t.pwr.fenced == [1] && (t.core 64).mchk.length == 1 &&
      (t.core 0).run == .running) = true ∧
    gives (.voltageSample [800, 800, 800, 800, 500, 800, 800, 800]) (after (.voltageSample [800, 800, 800, 800, 500, 800, 800, 800]) start)
      (fun t => t.pwr.fenced == [4]) = true ∧
    gives (.voltageSample [800, 650, 800, 800, 800, 800, 800, 800]) (after (.voltageSample sagging) start) (fun t => t.pwr.fenced.isEmpty) =
      true := by decide +kernel
/-- Cluster 1 fenced, the rails at mv. -/
def fencedOff (mv : List Nat) : State := { start with pwr := { start.pwr with
  sampled := true, rails := (List.range 8).zip mv, fenced := [1] } }
theorem test_cluUnfence : (fencedOff level).admits (.core 64) 65 0o023 1 = true ∧
    gives (.cluUnfence (.core 64) 1 1) (fencedOff level) (fun t => t.pwr.fenced.isEmpty) = true ∧
    gives (.cluUnfence (.core 64) 1 1) (fencedOff sagging) (fun t => t.pwr.fenced == [1] && cpCode 65 t == 0o010) = true ∧
    gives (.cluUnfence (.core 64) 1 0) (fencedOff level) (fun t => t.pwr.fenced == [1]) = true := by decide +kernel
def warm : List Int := [70, 40, 40, 40, 40, 40, 40, 40]
/-- TLIM at 90, caps of 20. -/
def capped : State := { start with
  pregs := [(94 * 256 + 0o064, 90)], pwr := { start.pwr with cap := (List.range 8).map fun c => (c, 20) } }
theorem test_gradientStep : gives (.gradientStep [71, 40, 40, 40, 40, 40, 40, 40]) capped (fun t => t.pwr.grad == [0] && tget 32 t.pwr.cap 0 == 19 &&
    tget 32 t.pwr.cap 1 == 20 && bit (t.preg 94 0o065) 34 && bit (t.preg 64 0o020) 34) = true := by
  delta gives exec execGradientStep State.setCap State.clkCap topMult
  generalize Config.gradeE = g
  cases g <;> decide +kernel
theorem test_throttleStep : gives (.throttleStep [90, 40, 40, 40, 40, 40, 40, 40]) capped (fun t => t.pins.prochotOut && tget 32 t.pwr.cap 7 == 18) =
      true ∧ gives (.throttleStep [86, 40, 40, 40, 40, 40, 40, 40]) capped (fun t => !t.pins.prochotOut && tget 32 t.pwr.cap 7 == 20) = true ∧
    gives (.throttleStep [84, 40, 40, 40, 40, 40, 40, 40]) capped (fun t => tget 32 t.pwr.cap 7 == 21) = true := by
  delta gives exec execThrottleStep State.setCap State.clkCap topMult
  generalize Config.gradeE = g
  cases g <;> decide +kernel
theorem test_prochotN : gives (.prochotN true) capped (fun t => t.pins.prochotLow && t.pins.prochotOut && tget 32 t.pwr.cap 7 == 20) = true ∧
    gives (.prochotN false) capped (fun t => !t.pins.prochotLow && !t.pins.prochotOut) = true := by decide +kernel
/-- Timer 2 of interval 7, periodic or not, its interrupt to core 0, its count at n. -/
def timing (per : Nat) (n : Word) : State := ((start.setPreg 98 0o030 7).setPreg 98 0o031 n).setPreg 98 0o032 (fld 27 27 1 ||| fld 28 28 per)
theorem test_timerExpiry : gives (.timerExpiry 2) (timing 1 3) (fun t => t.preg 98 0o031 == 7 && (t.core 0).pend.getMsbD 2) = true ∧
    gives (.timerExpiry 2) (timing 0 3) (fun t => t.preg 98 0o031 == 0 && (t.core 0).pend.getMsbD 2) = true ∧
    gives (.timerExpiry 2) (timing 0 0) (fun t => (t.core 0).pend == 0) = true := by decide +kernel
theorem test_tmrCtl : gives (.pageWrite (.core 64) 98 0o032 (fld 27 27 1)) (start.setPreg 98 0o030 7) (fun t => t.preg 98 0o031 == 7) = true := by
  decide +kernel
theorem test_wdogCtl : start.admits (.core 64) 98 0o052 (fld 20 27 3 ||| 1) = true ∧
    gives (.wdogCtl (.core 64) (fld 20 27 3 ||| 1)) start (fun t => t.pwr.wdogLeft == 3000 && bit (t.preg 98 0o052) 35) = true ∧
    gives (.wdogCtl (.core 64) 1) start (fun t => cpCode 98 t == 2) = true ∧
    gives (.wdogCtl (.core 64) (fld 20 27 3)) (start.setPreg 98 0o052 (fld 20 27 3 ||| 1)) (fun t => cpCode 98 t == 7) = true ∧
    gives (.wdogCtl (.core 64) (fld 20 27 4 ||| 3)) (start.setPreg 98 0o052 (fld 20 27 3 ||| 3)) (fun t =>
      t.preg 98 0o052 == fld 20 27 4 ||| 1) = true := by decide +kernel
theorem test_wdogKick : start.admits (.core 64) 98 0o053 1 = true ∧
    gives (.wdogKick (.core 64) 1) (start.setPreg 98 0o052 (fld 20 27 3 ||| 1)) (fun t => t.pwr.wdogLeft == 3000) = true ∧
    gives (.wdogKick (.core 64) 0) (start.setPreg 98 0o052 (fld 20 27 3 ||| 1)) (fun t => t.pwr.wdogLeft == 0) = true := by decide +kernel
theorem test_watchdog : gives .watchdog (lived.setPreg 98 0o052 (fld 20 27 3 ||| 1)) (fun t => t.warmPend && bit (t.preg 98 0o052) 34 && t.pwr.watch) =
      true ∧ gives .watchdog lived (fun t => !t.warmPend) = true := by decide +kernel
/-- The next step, which p holds after. -/
def ticks (s : State) (p : State → Bool) : Bool :=
  match step s with
  | .next t => p t
  | _ => false
theorem test_tick : ticks (timing 1 3) (fun t => t.pwr.tb == start.pwr.tb + 1 && t.preg 98 0o031 == 2) = true ∧
    ticks (timing 1 1) (fun t => t.preg 98 0o031 == 7 && (t.core 0).pend.getMsbD 2) = true ∧
    ticks { timing 1 3 with pins := { start.pins with pwrGood := false } } (fun t => t.pwr.tb == start.pwr.tb && t.preg 98 0o031 == 3) = true := by
  decide +kernel

/-! ### The host (19 R459-R466) -/

/-- Host and port may write every page; queue 5 belongs to function 3; channel 1 has a ring at 0o4000 of 16 descriptors. -/
def hosted : State := ({ start.setQueue 5 { QCtx.reset with link := fld 14 20 3 } with
  sys := 6, pins := { start.pins with perstLow := false, pwrGood := true } } : State).setPreg 95 0o037 (fld 4 35 (2 ^ 32 - 1))
theorem test_dmaPtr : let v := fld 0 4 4 ||| fld 21 35 16
    hosted.admits (.core 64) 88 0o027 v = true ∧
    gives (.dmaPtr (.core 64) 1 v) hosted (fun t => t.preg 88 0o027 == v) = true ∧
    gives (.dmaPtr (.core 64) 1 (v + 1)) hosted (fun t => cpCode 88 t == 2) = true ∧
    gives (.dmaPtr (.core 64) 1 (fld 0 4 3)) hosted (fun t => cpCode 88 t == 2) = true ∧
    gives (.dmaPtr (.core 64) 1 (fld 0 4 5 ||| 3)) (hosted.setPreg 88 0o027 (fld 0 4 4 ||| 1)) (fun t => cpCode 88 t == 5) = true := by
  decide +kernel
/-- A descriptor of channel 1: COUNT units of layout lay at 0o6000, out of the device or into it. -/
def channel (out : Bool) (lay count : Nat) (mem : List (Nat × Word)) : State :=
  let s := withMem ([(0o4000, fld 0 0 out.toNat ||| fld 1 2 lay ||| fld 3 9 2 ||| fld 15 35 count), (0o4001, 0o6000), (0o4002, 1), (0o4003, 8)] ++
    mem) hosted
  (s.setPreg 88 0o026 (fld 0 33 (0o4000 / 64))).setPreg 88 0o027 (fld 0 4 4 ||| fld 21 35 1)
/-- Word 3 of the descriptor and the ring's HEAD afterwards. -/
def dmaEnd (n code : Nat) (t : State) : Bool := (t.rd 0o4003).w == fld 0 0 1 ||| fld 6 26 (wd n).toNat ||| fld 27 35 code && t.dmaHead 1 == 1
def octets (l : List Nat) : List Octet := l.map (BitVec.ofNat 8)
theorem test_dma_in : gives (.dmaDescriptor 1 (octets [1, 0, 0, 0, 0, 0, 0, 0, 2, 0, 0, 0, 0xF0, 0, 0, 0]) 16) (channel false 1 2 []) (fun t =>
    dmaEnd 2 0 t && (t.rd 0o6000).w == 1 && (t.rd 0o6001).w == 2) = true := by decide +kernel
theorem test_dma_octets : gives (.dmaDescriptor 1 (octets [65, 66, 67]) 2) (channel false 2 3 []) (fun t => dmaEnd 2 0o017 t &&
    (t.rd 0o6000).w == 65 * 2 ^ 27 + 66 * 2 ^ 18) = true := by decide +kernel
theorem test_dma_out : gives (.dmaDescriptor 1 [] 16) (channel true 1 2 [(0o6000, 0o777), (0o6001, 2 ^ 35)]) (fun t => dmaEnd 2 0 t &&
    t.dmaOut == [(2, 2 ^ 32 + 8, octets [0xFF, 1, 0, 0, 0, 0, 0, 0, 0, 0, 0, 0, 8, 0, 0, 0])]) = true := by decide +kernel
theorem test_dma_odd : gives (.dmaDescriptor 1 [] 9) (channel false 0 2 []) (dmaEnd 0 3) = true ∧
    gives (.dmaDescriptor 1 [] 9) hosted (fun t => t.dmaHead 1 == 0) = true := by decide +kernel
/-- Words 0o123456701234 and 1 packed: most significant bit first (19 R466). -/
theorem test_packed : packWords [0o123456701234, 1] = octets [0x29, 0xCB, 0xB8, 0x29, 0xC0, 0, 0, 0, 1] ∧
    (⟨false, 0, 0, 0, 8, 0, true⟩ : Desc).unitIn (packWords [0o123456701234, 1]) 0 = 0o123456701234 := by decide +kernel
theorem test_aperture : let s := (withMem [(2 ^ 27 + 5, 9)] hosted).setPreg 88 0o021 (fld 23 34 1 ||| 1)
    gives (.aperture .load 5 0) s (fun t => t.hostOut == 9) = true ∧
    gives (.aperture .store 5 7) s (fun t => (t.rd (2 ^ 27 + 5)).w == 7) = true ∧
    gives (.aperture .part 5 7) s (fun t => (t.rd (2 ^ 27 + 5)).w == 9 && t.preg 88 0o022 == 1) = true ∧
    gives (.aperture .store 5 (2 ^ 36)) s (fun t => (t.rd (2 ^ 27 + 5)).w == 9 && t.preg 88 0o022 == 1) = true ∧
    gives (.aperture .load 5 0) (s.setPreg 88 0o021 (fld 23 34 0o7777 ||| 1)) (fun t => t.hostOut == 0 && t.preg 88 0o022 == 1) = true := by
  decide +kernel
theorem test_hostDb : gives (.hostDb 2 5) hosted (fun t => (t.core 2).pend.getMsbD 31 && (t.core 2).pend.getMsbD 29 &&
    !(t.core 2).pend.getMsbD 30) = true := by decide +kernel
theorem test_hostWrite_slot : gives (.hostWrite 3 (64 * 5 + 8) (.write 77) 8) hosted (fun t => t.dbWord 5 1 == 77) = true ∧
    gives (.hostWrite 2 (64 * 5 + 8) (.write 77) 8) hosted (fun t => t.dbWord 5 1 == 0 && t.preg 88 0o022 == 1) = true ∧
    gives (.hostWrite 3 (64 * 5 + 8) (.write 77) 4) hosted (fun t => t.dbWord 5 1 == 0 && t.preg 88 0o022 == 1) = true := by decide +kernel
/-- Page 98's TMR0_INT is word 0o22 of its 2048 bytes. -/
theorem test_hostWrite_page : let slot := 0x100000 + 98 * 2048 + 0o22 * 8
    gives (.hostWrite 0 slot (.write 7) 8) hosted (fun t => t.preg 98 0o022 == 7) = true ∧
    gives (.hostWrite 0 slot (.write 7) 4) hosted (fun t => t.preg 98 0o022 == 0 && cpCode 98 t == 4) = true ∧
    gives (.hostWrite 0 slot (.write 7) 8) start (fun t => t.preg 98 0o022 == 0 && cpCode 98 t == 1) = true ∧
    gives (.hostWrite 0 slot (.write (2 ^ 36)) 8) start (fun t => t.preg 98 0o022 == 0 && cpCode 98 t == 1) = true ∧
    gives (.hostWrite 4 slot (.write 7) 8) hosted (fun t => t.preg 98 0o022 == 0 && t.preg 88 0o022 == 1) = true := by decide +kernel
/-- Reads of the same two places, and of one that holds nothing. -/
theorem test_host_read : gives (.hostWrite 0 (0x100000 + 98 * 2048 + 0o22 * 8) .read 8) (hosted.setPreg 98 0o022 7) (fun t => t.hostOut == 7) = true ∧
    gives (.hostWrite 3 (64 * 5 + 8) .read 8) (after (.hostWrite 3 (64 * 5 + 8) (.write 77) 8) hosted) (fun t => t.hostOut == 77) = true ∧
    gives (.hostWrite 2 (64 * 5 + 8) .read 8) (after (.hostWrite 3 (64 * 5 + 8) (.write 77) 8) hosted) (fun t => t.hostOut == 0) = true := by
  decide +kernel

/-! ### The SMBus port (19 R467) -/

def pointed (p o : Nat) : State := { hosted with mgmt := { start.mgmt with page := p, off := o } }
theorem test_setWindowPointer : gives (.setWindowPointer 98 0o22 true) hosted (fun t => t.mgmt.page == 98 && t.mgmt.off == 0o22) = true ∧
    gives (.setWindowPointer 98 0o22 false) hosted (fun t => t.mgmt.page == 0 && t.mgmt.result == 0o015) = true := by decide +kernel
theorem test_windowRead : gives .windowRead ((pointed 98 0o22).setPreg 98 0o22 0x123456789) (fun t =>
    t.mgmt.out == octets [1, 0x23, 0x45, 0x67, 0x89] && t.mgmt.off == 0o23) = true ∧
    gives .windowRead (pointed 4 255) (fun t => t.mgmt.page == 5 && t.mgmt.off == 0) = true := by decide +kernel
theorem test_windowWrite : gives (.windowWrite (octets [1, 0x23, 0x45, 0x67, 0x89]) true) (pointed 98 0o22) (fun t =>
      t.preg 98 0o22 == 0x123456789 && t.mgmt.result == 0 && t.mgmt.off == 0o23) = true ∧
    gives (.windowWrite (octets [0, 0, 0, 0, 0]) true) (pointed 98 0o22) (fun t => t.mgmt.result == 2 && cpCode 98 t == 2) = true ∧
    gives (.windowWrite (octets [0, 0, 0, 0, 9]) false) (pointed 98 0o22) (fun t => t.preg 98 0o22 == 0 && t.mgmt.result == 0o015) = true := by
  decide +kernel
theorem test_readResult : gives .readResult { hosted with mgmt := { start.mgmt with result := 5 } } (fun t => t.mgmt.out == [5]) = true := by
  decide +kernel
theorem test_pieceBufferWrite : gives (.pieceBufferWrite 4094 (octets [7, 8, 9]) true) hosted (fun t => t.steep.buf == [(8192 + 4094, 7),
      (8192 + 4095, 8)]) = true ∧
    gives (.pieceBufferWrite 4094 (octets [7, 8, 9]) false) hosted (fun t => t.steep.buf.isEmpty && t.mgmt.result == 0o015) = true := by
  decide +kernel
theorem test_smbus_aon : gives (.smbusSubmit 1 true) { hosted with pins := { hosted.pins with pwrGood := false } } (fun t =>
      t.mgmt.result == 0o017) = true := by decide +kernel
theorem test_smbusSubmit : gives (.smbusSubmit 1 true) hosted (fun t => t.mgmt.result == 0o010) = true ∧
    gives (.smbusSubmit 1 false) hosted (fun t => t.mgmt.result == 0o015) = true := by decide +kernel
theorem test_alertResponse : gives .alertResponse (hosted.setPreg 97 0o020 1) (fun t => t.mgmt.out.length == 1) = true ∧
    gives .alertResponse hosted (fun t => t.mgmt.out.isEmpty) = true ∧
    gives .readResult { hosted with pins := { hosted.pins with porstLow := true }, mgmt := { start.mgmt with result := 5 } } (fun t =>
      t.mgmt.out.isEmpty) = true := by decide +kernel

/-! ### JTAG and debug (18 R452, R453; 19 R468) -/

def lowReset : State := { start with pins := { start.pins with porstLow := true } }
def spentNow : State := { start with steep := { start.steep with spent := true } }
def irOf (t : State) : List Nat := [t.mgmt.ir.toNat, t.mgmt.drBits]
theorem test_idcode : gives .idcode spentNow (fun t => irOf t == [1, 32] && t.mgmt.dr == 0x20E50B4B) = true := by decide +kernel
theorem test_bypass : gives .bypass start (fun t => irOf t == [0xFF, 1]) = true ∧ gives .bypass spentNow (fun t => irOf t == irOf spentNow) = true := by
  decide +kernel
theorem test_samplePreload : gives .samplePreload start (fun t => irOf t == [2, 4812]) = true ∧
    gives .samplePreload spentNow (fun t => irOf t == irOf spentNow) = true := by decide +kernel
theorem test_drive : gives .extest lowReset (fun t => irOf t == [3, 4812]) = true ∧ gives .extestPulse lowReset (fun t => irOf t == [4, 4812]) = true ∧
    gives .extestTrain lowReset (fun t => irOf t == [5, 4812]) = true ∧ gives .clamp lowReset (fun t => irOf t == [6, 1]) = true ∧
    gives .highz lowReset (fun t => irOf t == [7, 1]) = true := by decide +kernel
theorem test_drive_refused : gives .extest start (fun t => irOf t == irOf start) = true ∧ gives .extestPulse start (fun t => irOf t == irOf start) = true ∧
    gives .extestTrain start (fun t => irOf t == irOf start) = true ∧ gives .clamp start (fun t => irOf t == irOf start) = true ∧
    gives .highz start (fun t => irOf t == irOf start) = true := by decide +kernel
theorem test_dbgSel : gives (.dbgSel 7) start (fun t => t.mgmt.sel == 7 && irOf t == [0x20, 8]) = true := by decide +kernel
/-- Debug of core 0 is on. -/
def debugged (f : Core → Core) : State := (startWith f).setPreg 95 0o043 (fld 0 0 1)
def haltedNow : State := debugged fun k => { (k.setG 1 0o123) with dbgHalt := true, pc := at_ 6, targets := [at_ 7, at_ 8] }
def shown (op : Nat) (v : Word) (t : State) : Bool := irOf t == [0x21, 40] && t.mgmt.dr == op * 2 ^ 36 + v.toNat
theorem test_halt : gives .halt (debugged fun k => { k with run := .waiting }) (fun t => (t.core 0).dbgHalt && (t.core 0).run == .running &&
      shown 1 0 t) = true ∧ gives .halt start (fun t => !(t.core 0).dbgHalt) = true := by decide +kernel
theorem test_step : gives .step haltedNow (fun t => !(t.core 0).dbgHalt && (t.core 0).dbgStep && shown 2 0 t) = true ∧
    gives .step start (fun t => !(t.core 0).dbgStep) = true := by decide +kernel
theorem test_resume : gives .resume haltedNow (fun t => !(t.core 0).dbgHalt && !(t.core 0).dbgStep && shown 3 0 t) = true := by decide +kernel
theorem test_readRegister : gives (.readRegister (.g 1)) haltedNow (shown 4 0o123) = true ∧ gives (.readRegister .pc) haltedNow (shown 4 (at_ 6)) = true ∧
    gives (.readRegister (.g 1)) (debugged fun k => k.setG 1 5) (fun t => irOf t == irOf start) = true := by decide +kernel
theorem test_writeRegister : gives (.writeRegister (.g 2) 9) haltedNow (fun t => (t.core 0).g 2 == 9 && shown 5 9 t) = true ∧
    gives (.writeRegister (.v 3 1) 9) haltedNow (fun t => vWords ((t.core 0).vreg 3) == [0, 9, 0, 0]) = true ∧
    gives (.writeRegister (.da 1 7) 9) haltedNow (fun t => (accWords ((t.core 0).acc 1)).getD 7 0 == 9) = true ∧
    gives (.writeRegister (.c 2 true) 9) haltedNow (fun t => ((t.core 0).tok 2).b == 9 && !((t.core 0).tok 2).tag) = true ∧
    gives (.writeRegister (.c 0 true) 9) haltedNow (fun t => ((t.core 0).tok 0).tag) = true ∧
    gives (.writeRegister .pc (at_ 9)) haltedNow (fun t => (t.core 0).pc == at_ 9) = true ∧
    gives (.writeRegister (.g 2) 9) start (fun t => (t.core 0).g 2 == 0) = true := by decide +kernel
theorem test_readMemory : gives (.readMemory (mkPtr 0o4000 0)) (withMem [(0o4000, 0o66)] haltedNow) (shown 6 0o66) = true := by decide +kernel
theorem test_writeMemory : gives (.writeMemory (mkPtr 0o4000 0) 0o66) haltedNow (fun t => shown 7 0o66 t && (t.core 0).sb.length == 1) = true := by
  decide +kernel
theorem test_readTrace : gives .readTrace haltedNow (fun t => shown 8 (at_ 7) t && t.mgmt.trace == 1) = true ∧
    gives .readTrace { haltedNow with mgmt := { start.mgmt with trace := 1 } } (shown 8 (at_ 8)) = true := by decide +kernel
theorem test_dbgCtl : let s := haltedNow.setPreg 0 0o042 (fld 33 33 1)
    s.admits (.core 64) 95 0o043 0 = true ∧
    gives (.dbgCtl (.core 64) false 0) s (fun t => !(t.core 0).dbgHalt && !bit (t.preg 0 0o042) 33 && t.preg 95 0o043 == 0) = true ∧
    gives (.dbgCtl (.core 64) true (fld 0 0 1)) s (fun t => (t.core 0).dbgHalt && t.debuggable 36) = true := by decide +kernel
theorem test_brk : haltedNow.admits (.core 64) 0 0o042 (fld 33 33 1) = true ∧
    gives (.brk (.core 64) 0 (fld 33 33 1)) haltedNow (fun t => t.preg 0 0o042 == fld 33 33 1) = true ∧
    gives (.brk (.core 64) 1 (fld 33 33 1)) haltedNow (fun t => t.preg 1 0o042 == 0 && cpCode 1 t == 0o010) = true := by decide +kernel

/-! ### Writes of the control pages (17 R416-R424, R474) -/

theorem test_pageWrite_codes : gives (.pageWrite .host 98 0o22 7) start (fun t => t.preg 98 4 == fld 0 7 0o22 ||| fld 11 17 65 ||| fld 27 35 1 &&
      bit (t.preg 98 3) 35) = true ∧
    gives (.pageWrite (.core 64) 98 0o22 7) (start.setPreg 98 6 (fld 0 0 1 ||| fld 23 23 1 ||| fld 24 35 1)) (fun t => cpCode 98 t == 7) = true ∧
    gives (.pageWrite (.core 64) 88 0o21 1) { start with pwr := { start.pwr with off := [.pcie] } } (fun t => cpCode 88 t == 0o017) = true ∧
    gives (.pageWrite (.core 64) 98 0o100 1) start (fun t => cpCode 98 t == 3) = true ∧
    gives (.pageWrite (.core 64) 98 0o53 2) start (fun t => cpCode 98 t == 3) = true := by decide +kernel
theorem test_pageWrite_status : start.admits (.core 64) 98 3 1 = true ∧
    gives (.pageWrite (.core 64) 98 3 1) (start.setPreg 98 3 3) (fun t => t.preg 98 3 == 2) = true := by decide +kernel
theorem test_pageWrite_shadow : start.admits (.core 64) 72 0o022 9 = true ∧
    gives (.pageWrite (.core 64) 72 0o022 9) start (fun t => t.shadowReg 72 0o022 == 9 && t.preg 72 0o022 == 0) = true := by decide +kernel
theorem test_lock : start.admits (.core 0) 98 6 (fld 0 0 1) = true ∧
    gives (.lock (.core 0) 98 (fld 0 0 1)) start (fun t => bit (t.preg 98 6) 0 && bits (t.preg 98 6) 23 35 == (start.core 0).domTok.dom) = true ∧
    gives (.lock .smbus 98 (fld 0 0 1)) hosted (fun t => t.preg 98 6 == fld 0 0 1 ||| fld 23 23 1 ||| 2) = true ∧
    gives (.lock (.core 64) 98 0) (start.setPreg 98 6 (fld 0 0 1 ||| fld 23 23 1 ||| 2)) (fun t => t.preg 98 6 == 0) = true := by decide +kernel
theorem test_mode : start.admits (.core 64) 72 7 1 = true ∧
    gives (.mode (.core 64) 72 1) start (fun t => t.direct 72) = true ∧
    gives (.mode (.core 64) 98 1) start (fun t => cpCode 98 t == 3) = true ∧
    gives (.mode (.core 64) 72 1) { start with staged := [(72, 1)] } (fun t => cpCode 72 t == 5) = true ∧
    gives (.mode (.core 64) 72 0) ((start.setPreg 72 7 1).setPreg 72 0o024 8) (fun t => !t.direct 72 && t.shadowReg 72 0o024 == 8) = true := by
  decide +kernel

/-! ### A step, reset, and frames (03 R74-R76; 09 R203; 17 R418; 18 R433) -/

theorem test_step_front : let s := { start with pending := [.dbgSel 7, .dbgSel 9] }
    ticks s (fun t => t.mgmt.sel == 7 && decide (t.pending = [.dbgSel 9])) = true := by decide +kernel
theorem test_step_keeps : let s := { start with pending := [.dbgSel 7], dram := [(5, ⟨1, false⟩)] }
    s.memWf = true ∧ ticks s State.memWf = true ∧ ({ s with dram := [(5, ⟨0, false⟩)] } : State).memWf = false := by decide +kernel
theorem test_reset_form : State.reset.memWf = true ∧ State.reset.pending.isEmpty = true := by decide +kernel
theorem test_reset_steps : ticks State.reset (fun t => t.sys == 1 && t.pending.isEmpty) = true := by decide +kernel
theorem test_reset_pages : ((State.reset.preg 0 0o021 == 2) && (State.reset.preg 89 0o022 == State.reset.preg 90 6) &&
    (State.reset.core 5).psw == 0o000750200000 && bits (State.reset.dirEntry 9) 19 20 == 2) = true := by decide +kernel
/-- In bank T, the checks leave the registers and PSW. -/
theorem test_checks : meets ((start2 5 7).modCore 0 fun k => k.setPsw 18 19 0) (alu3Ins 0o01 0 0o04 2 (.sr rr)) (fun s1 =>
    decide ((((start2 5 7).modCore 0 fun k => k.setPsw 18 19 0).core 0).bank ≠ 1) && (s1.core 0).regs == ((start2 5 7).core 0).regs &&
      (s1.core 0).resting == false) = true := by decide +kernel
/-- Bank H at depth 2, nothing saved: the first use of groups D and V. -/
def firstUse : State := ready fun k => { (k.setAcc 1 (accOf (nibsOf 71 77).1)).setV 2 9 with
  depth := 2, dsr := fld 0 4 13, frames := [⟨false, false, false, false, false⟩] }
theorem test_first_use : ((firstUse.core 0).unsaved 4 == 4 && (firstUse.core 0).unsaved 6 == 6 && (firstUse.core 0).sb.isEmpty &&
      (firstUse.core 0).idD && (firstUse.core 0).c0H.system && !(firstUse.core 0).resting && !firstUse.ktWritten && firstUse.opened.isEmpty &&
      decide (ptrWord (firstUse.core 0).hg7 + 108 ≤ firstUse.installed)) = true ∧
    yields (lazySave 0 6) firstUse (fun _ t => (t.rd (0o4000 + 12 + 8)).w == (accWords ((firstUse.core 0).acc 1)).getD 0 0 &&
      (t.rd (0o4000 + 44 + 11)).w == 9 && bits (t.rd 0o4006).w 32 35 == 6 && bit (t.rd 0o4007).w 32 && bits (t.rd 0o4005).w 34 35 == 3 &&
      (t.core 0).mark.ds && (t.core 0).mark.vs) = true := by decide +kernel
theorem test_first_use_issues : (match firstUse.reached 0 (insSD 0 (dd 0) true false) with
      | some v => !v.saved 0 (insSD 0 (dd 0) true false) && yields (prologue 0 (insSD 0 (dd 0) true false)) v fun _ s1 =>
          yields (lazySave 0 4) s1 fun _ _ => true
      | none => false) = true ∧
    gives (.dadd 0 (dd 0)) firstUse (fun t => (t.core 0).mark.ds && (t.core 0).pc == at_ 10) = true := by decide +kernel
/-- Core 0's addition leaves core 1, and goes on after one parcel. -/
theorem test_completion : let t := finish (start2 5 7) 0 1 .seq
    (t.preg 0 0o037 == 1 && (t.core 0).regs == ((start2 5 7).core 0).regs && (t.core 0).pc == parcelAfter ((start2 5 7).core 0).pc 1) = true := by
  decide +kernel
theorem test_decodeTableWord : decodeTableWord 16 0 = none ∧ (start.withFetchWord 16 0).pending.isEmpty = true := by decide +kernel

/-! ### Commands that stand for no event of the manual -/

theorem test_wellFormed_memory : wellFormed (.ld 0 (.sm ⟨1, 2, 3, 1⟩)) = false ∧ wellFormed (.st 0 (.sm ⟨1, 2, 3, 0⟩)) = false ∧
    wellFormed (.ldc 0 (.sm ⟨1, 2, 3, 1⟩)) = false ∧ wellFormed (.stc 0 (.sm ⟨1, 2, 3, 0⟩)) = false ∧
    wellFormed (.ld 0 (.sm ⟨1, 2, 3, 0⟩)) = true ∧ wellFormed (.st 0 (.sm ⟨1, 2, 3, 1⟩)) = true := by decide +kernel
theorem test_wellFormed_machineCheck : wellFormed (.machineCheck 0 4 0) = false ∧ wellFormed (.machineCheck 64 4 0) = true := by decide +kernel
theorem test_wellFormed_undefined : wellFormed (.undefinedInstruction 0 (BitVec.ofNat 18 (2 ^ 13 + 2)) 0) = false := by decide +kernel
theorem test_wellFormed_samples : wellFormed (.voltageSample [1]) = false ∧ wellFormed (.gradientStep [1]) = false ∧
    wellFormed (.throttleStep []) = false ∧ wellFormed (.voltageSample level) = true := by decide +kernel
theorem test_wellFormed_record : wellFormed (.rackedRecord ⟨0o020, 0, 0, 0, 5, 0, 0, 0⟩ []) = false ∧
    wellFormed (.rackedRecord ⟨0o020, 0, 0, 0, 0, 0, 0, 0⟩ []) = true := by decide +kernel
theorem test_wellFormed_port : wellFormed (.windowWrite [1] true) = false ∧ wellFormed (.pieceBufferWrite 0 [] true) = false ∧
    wellFormed (.pieceBufferWrite 65536 [1] true) = false ∧ wellFormed (.pieceBufferWrite 0 (List.replicate 129 0) true) = false ∧
    wellFormed (.smbusSubmit 65536 true) = false := by decide +kernel
def routed (hops : Nat) (b : MsgBody) : Arrival := comes ⟨1, 2, 0, hops, b⟩
theorem test_wellFormed_kinds : wellFormed (.shippedTicket (routed 1 (.ack 0))) = false ∧ wellFormed (.directoryUpdate (routed 1 (.ack 0))) = false ∧
    wellFormed (.wholeDirectory (routed 1 (.ack 0))) = false ∧ wellFormed (.fence (routed 1 (.ack 0))) = false ∧
    wellFormed (.endToEndAcknowledgement (routed 1 (.fence 0 0))) = false ∧ wellFormed (.relayedPiece (routed 1 (.ack 0))) = false ∧
    wellFormed (.endToEndAcknowledgement (routed 4 (.ack 0))) = true ∧
    wellFormed (.endToEndAcknowledgement { routed 4 (.ack 0) with links := [] }) = false ∧
    wellFormed (.idle 0 ⟨1, 0, 0, 0, 0, 0, 0, 0⟩) = false ∧ wellFormed (.protocolError 0 ⟨1, 0, 0, 0, 0, 0, 0, 0⟩) = false := by decide +kernel
theorem test_wellFormed_bodies : ([.ticket 0 ⟨0, 0, 0, 0⟩ (List.replicate 251 0), .directory true 0 false [(65536, 0)], .frameLine 0 128 [],
      .frameLine 0 0 [], .stage 8 0 0 [], .stage 0 0 0 [32], .stageEnd 8 0, .stageEnd 0 512, .piece 65536 0 (List.replicate 1024 0), .piece 0 0 [], .piece 0 5 (List.replicate 1024 0), .piece 0 4096 (List.replicate 1024 0),
      .cluster false [(32, 0)], .moveNote 6 false 0 0 [], .moveNote 0 false 0 0 [32], .journal ⟨List.replicate 81 (0, 0, 0), 0, 0⟩,
      .pieceEnd 65536 0, .pieceEnd 0 512].all fun b => !wellFormed (.messageRouting (routed 1 b))) = true ∧
    wellFormed (.messageRouting (routed 5 (.ack 0))) = false := by decide +kernel
theorem test_wellFormed_host : wellFormed (.hostWrite 65 0 (.write 0) 8) = false ∧ wellFormed (.hostWrite 0 0 (.write 0) 0) = false ∧
    wellFormed (.hostWrite 0 0 (.write 0) 9) = false ∧ wellFormed (.doorbell 65 0 0) = false ∧ wellFormed (.retireWord 65 0 0) = false := by decide +kernel
/-- A sample of a length that stands for no event stops by name. -/
theorem test_malformed_stops : (match exec (.voltageSample [1]) start with
    | .fault .malformedCommand => true
    | _ => false) = true := by decide +kernel

end Sys2Proof.Tests
end

section
/-! PROOFS. The statements about the binary integer instructions (04 R78-R85; 03 R54): chained sums and logic, products
and quotients, shifts. The first parts say once what the bit operations and result functions of Bits.lean and Flags.lean
come to as bit-vector arithmetic, and what the bodies shared by several instructions answer. -/

namespace Sys2Proof.Machine

/-! ### How an instruction that touches only its core ends -/

/-- The command of an instruction whose body ends in sequence answers the completed state. -/
theorem issue_completes {c : CoreId} {s s1 s2 : State} {i : Ins} {body : M Flow} (h : Issues s c.val i s1)
    (hb : body.run s1 = .ok .seq s2) : issue c i body s = .next (finish s2 c.val i.len .seq) :=
  congrArg Host.Outcome.next (issue_ok h hb)

/-- The command of an instruction whose body changes its own core by f. -/
theorem issue_coreDone {c : CoreId} {s s1 : State} {i : Ins} {body : M Flow} {f : Core → Core}
    (h : Issues s c.val i s1) (hb : body.run s1 = .ok .seq (s1.modCore c.val f)) :
    issue c i body s = .next (coreDone s1 c.val i.len f) :=
  issue_completes h hb

/-- The same where the body first reads its core. -/
theorem issue_read_coreDone {c : CoreId} {s s1 : State} {i : Ins} {body : Core → M Flow} {f : Core → Core}
    (h : Issues s c.val i s1) (hb : (body (s1.core c.val)).run s1 = .ok .seq (s1.modCore c.val f)) :
    issue c i (getC c.val >>= body) s = .next (coreDone s1 c.val i.len f) :=
  issue_coreDone h ((run_bind_ok (getC_run c.val s1)).trans hb)

/-- The same where the body is one change of the core, told by any f that agrees with it on what the core holds. -/
theorem issue_modC {c : CoreId} {s s1 : State} {i : Ins} {f g : Core → Core} (h : Issues s c.val i s1)
    (hg : g (s1.core c.val) = f (s1.core c.val)) :
    issue c i (do modC c.val g; return .seq) s = .next (coreDone s1 c.val i.len f) :=
  issue_coreDone h (congrArg (fun k => EStateM.Result.ok Flow.seq (s1.setCore c.val k)) hg)

/-- The command of an instruction whose body raises answers the state in which the exception is taken. -/
theorem issue_traps {c : CoreId} {s s1 s2 : State} {i : Ins} {body : M Flow} {x : Exc} (h : Issues s c.val i s1)
    (hb : body.run s1 = .error (.trap x) s2) : issue c i body s = .next (trapped s2 c.val x) :=
  congrArg Host.Outcome.next (issue_trap h hb)

/-! ### Bits of a word, counted from the left (00 R2), as bits of a bit vector -/

theorem bit_eq_getLsbD (w : Word) (i : Nat) : bit w i = w.getLsbD (35 - i) := by
  simp [bit, bits, BitVec.getLsbD, Nat.testBit_eq_decide_div_mod_eq]

theorem bit_zero_eq_msb (w : Word) : bit w 0 = w.msb := by
  rw [bit_eq_getLsbD, BitVec.msb_eq_getLsbD_last]

theorem bits_low_byte (w : Word) : bits w 28 35 = w.toNat % 256 := by
  simp [bits]

theorem setBits_high_half (w : Word) (v : Nat) : setBits w 0 17 v = wd (v % 2 ^ 18 * 2 ^ 18 + w.toNat % 2 ^ 18) := by
  have hw := w.isLt
  simp only [setBits, bits]
  congr 1
  omega

/-! ### Sums and differences with a carry in (04 R78, R79) -/

theorem aluAdd_r_toNat (a b : Word) (cin : Bool) :
    (aluAdd a b cin).r.toNat = (a.toNat + b.toNat + cin.toNat) % 2 ^ 36 := by
  simp [aluAdd, wd]

theorem aluAdd_r (a b : Word) (cin : Bool) : (aluAdd a b cin).r = a + b + (if cin then 1 else 0) := by
  cases cin <;> exact BitVec.eq_of_toNat_eq (by simp [aluAdd_r_toNat])

theorem toInt_not (b : Word) : (~~~b).toInt = -b.toInt - 1 := by
  have hb := b.isLt
  simp only [BitVec.toInt_eq_toNat_cond, BitVec.toNat_not]
  omega

/-- The sign rule for overflow says that the sum leaves the signed range. -/
theorem aluAdd_v (a b : Word) (cin : Bool) :
    (aluAdd a b cin).v = decide ((aluAdd a b cin).r.toInt ≠ a.toInt + b.toInt + cin.toNat) := by
  have hr := aluAdd_r_toNat a b cin
  have hc := Bool.toNat_le cin
  show ((a.msb == b.msb) && ((aluAdd a b cin).r.msb != a.msb)) = _
  rw [Bool.eq_iff_iff]
  simp only [BitVec.msb_eq_decide, BitVec.toInt_eq_toNat_cond, hr, Bool.and_eq_true, beq_iff_eq, bne_iff_ne, ne_eq,
    decide_eq_decide, decide_eq_true_eq]
  omega

theorem aluSub_r (a b : Word) (cin : Bool) : (aluSub a b cin).r = a - b - (if cin then 0 else 1) := by
  rw [aluSub, aluAdd_r, BitVec.not_eq_neg_add]
  cases cin with
  | false => show a + (-b - 1) + 0 = a - b - 1; ring
  | true => show a + (-b - 1) + 1 = a - b - 0; ring

/-- The borrow is the carry's complement. -/
theorem toNat_add_toNat_not (cin : Bool) : cin.toNat + (!cin).toNat = 1 := by
  cases cin <;> rfl

theorem aluSub_v (a b : Word) (cin : Bool) :
    (aluSub a b cin).v = decide ((aluSub a b cin).r.toInt ≠ a.toInt - b.toInt - (!cin).toNat) := by
  have hsum : a.toInt + (~~~b).toInt + cin.toNat = a.toInt - b.toInt - (!cin).toNat := by
    have hc := toNat_add_toNat_not cin
    rw [toInt_not]
    omega
  rw [aluSub, aluAdd_v, hsum]

theorem aluSub_c (a b : Word) (cin : Bool) : (aluSub a b cin).c = decide (b.toNat + (!cin).toNat ≤ a.toNat) := by
  have hb := b.isLt
  show decide (2 ^ 36 ≤ a.toNat + (~~~b).toNat + cin.toNat) = _
  have hc := toNat_add_toNat_not cin
  rw [BitVec.toNat_not, decide_eq_decide]
  omega

/-! ### LI.H's reserved bits (03 R54) -/

theorem liH_reserved_iff (imm : BitVec 22) : nat imm / 2 ^ 18 ≠ 0 ↔ 2 ^ 18 ≤ imm.toNat := by
  simp only [nat]
  omega

/-- The parcels of a two-operand form are as many as its format has. -/
theorem alu2Ins_len (maj min minL : Nat) (o : Alu2) : (alu2Ins maj min minL o).len = alu2Len o := by
  cases o <;> rfl

/-- The command of a two-operand form whose body changes its own core by f. -/
theorem issue_alu2 {c : CoreId} {s s1 : State} {maj min minL : Nat} {o : Alu2} {body : M Flow} {f : Core → Core}
    (h : Issues s c.val (alu2Ins maj min minL o) s1) (hb : body.run s1 = .ok .seq (s1.modCore c.val f)) :
    issue c (alu2Ins maj min minL o) body s = .next (coreDone s1 c.val (alu2Len o) f) := by
  rw [issue_coreDone h hb, alu2Ins_len]

/-- Settles O2: each body answers the core's new state outright; what is left is that the adder's outputs with the carry
in are the sum and difference of the statement. -/
theorem chainLogicAndMoveResults : Obligations.ChainLogicAndMoveResults := by
  unfold Obligations.ChainLogicAndMoveResults
  intro c s s1
  refine ⟨?addc, ?subc, ?and, ?or, ?xor, ?not, ?tst, ?mov, ?liShort, ?liLong, ?liHigh⟩
  case addc =>
    intro o h
    dsimp only
    rw [← aluAdd_r, ← aluAdd_v]
    exact issue_coreDone h rfl
  case subc =>
    intro o h
    dsimp only
    rw [← aluSub_r, ← aluSub_v, ← aluSub_c]
    exact issue_coreDone h rfl
  case and => exact fun o h => issue_alu2 h rfl
  case or => exact fun o h => issue_alu2 h rfl
  case xor => exact fun o h => issue_alu2 h rfl
  case not => exact fun o h => issue_coreDone h rfl
  case tst =>
    intro o h
    dsimp only
    rw [← alu2Ins_len 0o02 4 7 o]
    exact issue_modC h rfl
  case mov => exact fun o h => issue_modC h rfl
  case liShort => exact fun o h => issue_modC h rfl
  case liLong => exact fun o h => issue_modC h rfl
  case liHigh =>
    intro o h
    simp only [← liH_reserved_iff] at h
    refine issue_modC h (congrArg _ ?_)
    rw [setBits_high_half, Nat.mod_mod]
    rfl

/-! ### Products (04 R81) -/

/-- An addition, subtraction or product that does not trap writes RD and all four flags. -/
theorem finishAdd_run {n rd : Nat} {a : Alu} {traps : Bool} {s : State}
    (h : (a.v && (traps || bit (s.core n).seenPsw 16)) = false) :
    (finishAdd n rd a traps).run s = .ok .seq (s.modCore n fun k => (k.setG rd a.r).aluFlags a) := by
  unfold finishAdd
  rw [run_bind_ok (getC_run n s), h]
  rfl

theorem wdInt_mul (a b : Word) : wdInt (a.toInt * b.toInt) = a * b := by
  rw [wdInt, BitVec.ofInt_mul, BitVec.ofInt_toInt, BitVec.ofInt_toInt]

/-- A pair of registers and the flags of a product or quotient: C clears. -/
def putPair (rd : Nat) (hi lo : Word) (n z v : Bool) (k : Core) : Core :=
  ((k.setG rd hi).setG (rd + 1) lo).setFlags (some n) (some z) (some v) (some false)

/-- The high word of a 72-bit product has its sign. -/
theorem high_word_msb (p : BitVec 72) : (wd (p.toNat / 2 ^ 36)).msb = p.msb := by
  have hp := p.isLt
  simp only [BitVec.msb_eq_decide, wd, BitVec.toNat_ofNat, decide_eq_decide]
  omega

theorem finishWide_run (n rd : Nat) (p : BitVec 72) (s : State) :
    (finishWide n rd p).run s =
      .ok .seq (s.modCore n (putPair rd (wd (p.toNat / 2 ^ 36)) (wd p.toNat) p.msb (decide (p = 0)) false)) := by
  rw [← high_word_msb]
  rfl

/-- A signed product written to a pair. -/
theorem finishWide_ofInt_run (n rd : Nat) {p : Int} (lo : -2 ^ 70 ≤ p) (hi : p ≤ 2 ^ 70) (s : State) :
    (finishWide n rd (BitVec.ofInt 72 p)).run s = .ok .seq
      (s.modCore n (putPair rd (wdInt (p / 2 ^ 36)) (wdInt p) (decide (p < 0)) (decide (p = 0)) false)) := by
  have hp : (BitVec.ofInt 72 p).toNat = (p % 2 ^ 72).toNat := by simp
  have hhigh : wd ((BitVec.ofInt 72 p).toNat / 2 ^ 36) = wdInt (p / 2 ^ 36) := by
    apply BitVec.eq_of_toNat_eq
    simp only [hp, wd, wdInt, BitVec.toNat_ofNat, BitVec.toNat_ofInt]
    omega
  have hlow : wd (BitVec.ofInt 72 p).toNat = wdInt p := by
    apply BitVec.eq_of_toNat_eq
    simp only [hp, wd, wdInt, BitVec.toNat_ofNat, BitVec.toNat_ofInt]
    omega
  have hneg : (BitVec.ofInt 72 p).msb = decide (p < 0) := by
    rw [BitVec.msb_eq_decide, hp, decide_eq_decide]
    omega
  have hzero : BitVec.ofInt 72 p = 0 ↔ p = 0 := by
    rw [← BitVec.toNat_inj, hp]
    show (p % 2 ^ 72).toNat = 0 ↔ p = 0
    omega
  rw [finishWide_run, hhigh, hlow, hneg]
  simp only [hzero]

/-- An unsigned product written to a pair. -/
theorem finishWide_ofNat_run (n rd : Nat) {p : Nat} (hi : p < 2 ^ 72) (s : State) :
    (finishWide n rd (BitVec.ofNat 72 p)).run s = .ok .seq
      (s.modCore n (putPair rd (wd (p / 2 ^ 36)) (wd p) (decide (2 ^ 71 ≤ p)) (decide (p = 0)) false)) := by
  have hp : (BitVec.ofNat 72 p).toNat = p := Nat.mod_eq_of_lt hi
  have hzero : BitVec.ofNat 72 p = 0 ↔ p = 0 := by
    rw [← BitVec.toNat_inj, hp]
    rfl
  rw [finishWide_run, BitVec.msb_eq_decide, hp]
  simp only [hzero]

/-! ### Quotients (04 R82) -/

/-- A quotient is asked for of a zero divisor: FSR.IDZ. -/
def noteIdz (k : Core) : Core := { k with fsr := setBit k.fsr 21 true }

theorem divOut_by_zero (signed : Bool) (a : Word) : divOut signed a 0 = (a, 0, true) := rfl

/-- The one signed quotient that does not fit wraps to the dividend, as the general formula says. -/
theorem divOut_signed {a b : Word} (hb : b ≠ 0) : divOut true a b =
    (wdInt (a.toInt.tdiv b.toInt), wdInt (a.toInt.tmod b.toInt), decide (a.toInt = -(2 ^ 35) ∧ b.toInt = -1)) := by
  unfold divOut
  rw [if_neg hb, if_pos rfl]
  split
  · next hbig =>
    obtain ⟨ha, hb⟩ := hbig
    have hmin : a = wdInt (-(2 ^ 35)) := by rw [← ha, wdInt, BitVec.ofInt_toInt]
    rw [ha, hb, hmin]
    rfl
  · next hfits => rw [decide_eq_false hfits]

theorem divOut_unsigned {a b : Word} (hb : b ≠ 0) :
    divOut false a b = (wd (a.toNat / b.toNat), wd (a.toNat % b.toNat), false) := by
  unfold divOut
  rw [if_neg hb]
  rfl

/-- A division by another number than zero writes the pair and the flags. -/
theorem divide_run_of_ne_zero {n : Nat} {signed : Bool} {o : SR} {s : State} {q r : Word} {v : Bool}
    (hb : (s.core n).g o.rs.toNat ≠ 0)
    (hd : divOut signed ((s.core n).g o.rd.toNat) ((s.core n).g o.rs.toNat) = (q, r, v)) :
    (divide n signed o).run s =
      .ok .seq (s.modCore n (putPair o.rd.toNat q r q.msb (decide (q = 0)) v)) := by
  unfold divide
  rw [run_bind_ok (getC_run n s)]
  simp only [nat, hd, if_neg hb]
  rfl

/-- With no Divide check asked for, the dividend is the quotient, after FSR.IDZ (04 R82). -/
theorem divide_run_zero_quiet {n : Nat} {signed : Bool} {o : SR} {s : State} (hb : (s.core n).g o.rs.toNat = 0)
    (hq : bit (s.core n).seenPsw 15 = false) :
    (divide n signed o).run s =
      let a := (s.core n).g o.rd.toNat
      .ok .seq ((s.modCore n noteIdz).modCore n (putPair o.rd.toNat a 0 a.msb (decide (a = 0)) true)) := by
  unfold divide
  rw [run_bind_ok (getC_run n s)]
  simp only [nat, hb, divOut_by_zero, if_true, hq]
  rfl

/-- With Divide check asked for, FSR.IDZ is all that changes before it (04 R82). -/
theorem divide_run_zero_trap {n : Nat} {signed : Bool} {o : SR} {s : State} (hb : (s.core n).g o.rs.toNat = 0)
    (ht : bit (s.core n).seenPsw 15 = true) :
    (divide n signed o).run s = .error (.trap (plainExc 16 0 0)) (s.modCore n noteIdz) := by
  unfold divide
  rw [run_bind_ok (getC_run n s)]
  simp only [nat, hb, if_true, ht]
  rfl

/-- Settles O3: the body of each instruction is run by its lemma above; the 72-bit product of two words is in range, and
the zero divisor is one case for both divisions. -/
theorem multiplyAndDivideResults : Obligations.MultiplyAndDivideResults := by
  unfold Obligations.MultiplyAndDivideResults
  intro c s s1 o
  refine ⟨?mul, ?mulw, ?mulwu, ?div, ?divu, ?zeroQuiet, ?zeroTrap⟩
  case mul =>
    intro h
    dsimp only
    rw [← wdInt_mul]
    intro hq
    rw [Bool.and_comm] at hq
    exact issue_read_coreDone h (finishAdd_run hq)
  case mulw =>
    exact fun h => issue_read_coreDone h
      (finishWide_ofInt_run _ _ BitVec.le_toInt_mul_toInt BitVec.toInt_mul_toInt_le s1)
  case mulwu => exact fun h => issue_read_coreDone h (finishWide_ofNat_run _ _ BitVec.toNat_mul_toNat_lt s1)
  case div => exact fun h hb => issue_coreDone h (divide_run_of_ne_zero hb (divOut_signed hb))
  case divu => exact fun h hb => issue_coreDone h (divide_run_of_ne_zero hb (divOut_unsigned hb))
  case zeroQuiet =>
    exact fun hb hq => ⟨fun h => issue_completes h (divide_run_zero_quiet hb hq),
      fun h => issue_completes h (divide_run_zero_quiet hb hq)⟩
  case zeroTrap =>
    exact fun hb ht => ⟨fun h => issue_traps h (divide_run_zero_trap hb ht),
      fun h => issue_traps h (divide_run_zero_trap hb ht)⟩

/-! ### Shifts and rotates (04 R85, Table 04-3) -/

theorem shiftOut_shl (x : Word) (n : Nat) : shiftOut 0 x n =
    (x <<< n, if n = 0 then none else some (decide (n ≤ 35) && x.getLsbD (36 - n))) := by
  rcases Nat.eq_zero_or_pos n with rfl | hpos
  · simp [shiftOut]
  · by_cases hn : n ≤ 35
    · have hi : 35 - (n - 1) = 36 - n := by omega
      simp [shiftOut, hpos.ne', hn, bit_eq_getLsbD, hi]
    · simp [shiftOut, hpos.ne', hn, BitVec.shiftLeft_eq_zero (show 36 ≤ n by omega)]

theorem shiftOut_shr (x : Word) (n : Nat) : shiftOut 1 x n =
    (x >>> n, if n = 0 then none else some (x.getLsbD (n - 1) && decide (n ≤ 35))) := by
  rcases Nat.eq_zero_or_pos n with rfl | hpos
  · simp [shiftOut]
  · by_cases hn : n ≤ 35
    · have hi : 35 - (36 - n) = n - 1 := by omega
      simp [shiftOut, hpos.ne', hn, bit_eq_getLsbD, hi]
    · simp [shiftOut, hpos.ne', hn, BitVec.ushiftRight_eq_zero (show 36 ≤ n by omega)]

/-- An arithmetic shift by 35 or more leaves the sign in every bit. -/
theorem getLsbD_sshiftRight_of_ge (x : Word) {n i : Nat} (hn : 35 ≤ n) (hi : i < 36) :
    (x.sshiftRight n).getLsbD i = x.msb := by
  rw [BitVec.getLsbD_sshiftRight]
  split
  · have hlast : n + i = 35 := by omega
    simp [hlast, hi, BitVec.msb_eq_getLsbD_last]
  · simp [hi]

theorem sshiftRight_of_ge (x : Word) {n : Nat} (hn : 35 ≤ n) : x.sshiftRight n = x.sshiftRight 35 :=
  BitVec.eq_of_getLsbD_eq fun _ hi => by
    rw [getLsbD_sshiftRight_of_ge x hn hi, getLsbD_sshiftRight_of_ge x le_rfl hi]

theorem shiftOut_sha (x : Word) (n : Nat) : shiftOut 2 x n =
    (x.sshiftRight n, if n = 0 then none else some (if n ≤ 35 then x.getLsbD (n - 1) else x.msb)) := by
  rcases Nat.eq_zero_or_pos n with rfl | hpos
  · simp [shiftOut]
  · by_cases hn : n ≤ 35
    · have hi : 35 - (36 - n) = n - 1 := by omega
      simp [shiftOut, hpos.ne', hn, bit_eq_getLsbD, hi]
    · simp [shiftOut, hpos.ne', hn, bit_zero_eq_msb, sshiftRight_of_ge x (show 35 ≤ n by omega)]

theorem rotateLeft_zero (x : Word) : x.rotateLeft 0 = x :=
  BitVec.eq_of_getLsbD_eq fun _ hi => by simp [hi]

theorem shiftOut_rot (x : Word) (n : Nat) : shiftOut 3 x n =
    (x.rotateLeft (n % 36), if n % 36 = 0 then none else some ((x.rotateLeft (n % 36)).getLsbD 0)) := by
  by_cases hturn : n % 36 = 0
  · simp [shiftOut, hturn, rotateLeft_zero]
  · have hn : n ≠ 0 := by rintro rfl; exact hturn rfl
    simp [shiftOut, hturn, hn, bit_eq_getLsbD]

/-- The register a shift works on, and its count. -/
def shiftRd : ShiftForm → Nat
  | .sr o => o.rd.toNat
  | .sh o => o.rd.toNat
def shiftCount (k : Core) : ShiftForm → Nat
  | .sr o => (k.g o.rs.toNat).toNat % 256
  | .sh o => o.cnt.toNat

/-- A shift's result and C written, with the other flags (04 R85). -/
def putShift (rd : Nat) (out : Word × Option Bool) (k : Core) : Core :=
  (k.setG rd out.1).setFlags (some out.1.msb) (some (decide (out.1 = 0))) (some false) out.2

theorem shift_run (n kind : Nat) (o : ShiftForm) (s : State) :
    (shift n kind o).run s = .ok .seq (s.modCore n
      (putShift (shiftRd o) (shiftOut kind ((s.core n).g (shiftRd o)) (shiftCount (s.core n) o)))) := by
  cases o with
  | sr o =>
    simp only [shiftCount, ← bits_low_byte]
    rfl
  | sh o => rfl

theorem shiftIns_len (kind : Nat) (o : ShiftForm) : (shiftIns kind o).len = 1 := by
  cases o <;> rfl

/-- The four shifts complete alike: whatever result and C the kind has, RD and the flags receive them. -/
theorem issue_shift {c : CoreId} {kind : Nat} {o : ShiftForm} {s s1 : State} {out : Word × Option Bool}
    (h : Issues s c.val (shiftIns kind o) s1)
    (hout : shiftOut kind ((s1.core c.val).g (shiftRd o)) (shiftCount (s1.core c.val) o) = out) :
    issue c (shiftIns kind o) (shift c.val kind o) s = .next (coreDone s1 c.val 1 (putShift (shiftRd o) out)) := by
  rw [issue_coreDone h (shift_run c.val kind o s1), shiftIns_len, hout]

/-- Settles O4: each kind's result and C are those of the statement. -/
theorem shiftAndRotateResults : Obligations.ShiftAndRotateResults := by
  unfold Obligations.ShiftAndRotateResults
  intro c s s1 o
  refine ⟨?shl, ?shr, ?sha, ?rot⟩
  case shl =>
    intro h
    have hdone := issue_shift h (shiftOut_shl _ _)
    exact hdone
  case shr =>
    intro h
    have hdone := issue_shift h (shiftOut_shr _ _)
    exact hdone
  case sha =>
    intro h
    have hdone := issue_shift h (shiftOut_sha _ _)
    exact hdone
  case rot =>
    intro h
    have hdone := issue_shift h (shiftOut_rot _ _)
    exact hdone

end Sys2Proof.Machine
end

section
/-! PROOFS. Tamper response and the Kiln's window (14 R341, R358-R363). The parts follow the zeroize: what of the state the
detectors and the write-backs of a tamper stop leave alone, what a zeroize makes of the Kiln, and the two registers that a
write of the Kiln page reaches here. -/

namespace Sys2Proof.Machine

/-! ### What a tamper response rests on -/

/-- What decides a tamper response, and what no write-back of a line changes: the pins, the twin, TAMP_CTL, the key slots and
the tamper stop (14 R359-R362). -/
structure TamperView where
  pins : Pins
  twin : Twin
  tampCtl : Word
  slots : Tab KeySlot
  tstop : Bool

def State.tamperView (s : State) : TamperView where
  pins := s.pins
  twin := s.twin
  tampCtl := s.preg pgKiln 0o036
  slots := s.kiln.slots
  tstop := s.kiln.tstop

/-- The same, and of a Kiln without keys all that it holds: it opens and seals no line, so that its node cache, its roots and
its refresh stand still (14 R345, R362). -/
def State.keylessView (s : State) : TamperView × Option Kiln :=
  (s.tamperView, if s.kiln.slots = [] then some s.kiln else none)

theorem tamperView_of_keylessView {s t : State} (h : t.keylessView = s.keylessView) : t.tamperView = s.tamperView :=
  congrArg Prod.fst h

theorem tamperView_fields {s : State} {v : TamperView} (h : s.tamperView = v) :
    s.pins = v.pins ∧ s.twin = v.twin ∧ s.preg pgKiln 0o036 = v.tampCtl ∧ s.kiln.slots = v.slots ∧ s.kiln.tstop = v.tstop := by
  subst h
  exact ⟨rfl, rfl, rfl, rfl, rfl⟩

theorem kiln_of_keylessView {s t : State} (h : t.keylessView = s.keylessView) (hs : s.kiln.slots = []) : t.kiln = s.kiln := by
  have ht : t.kiln.slots = [] := (congrArg TamperView.slots (tamperView_of_keylessView h)).trans hs
  have hk := congrArg Prod.snd h
  simpa [State.keylessView, hs, ht] using hk

/-- Where the Kiln stays as it is, nothing else needs to be said of it. -/
theorem keylessView_of_kiln {s t : State} (h : t.tamperView = s.tamperView) (hk : t.kiln = s.kiln) :
    t.keylessView = s.keylessView := by
  simp [State.keylessView, h, hk]

/-- Of a Kiln that holds a key only the slots count. -/
theorem keylessView_of_keyed {s t : State} (h : t.tamperView = s.tamperView) (hs : s.kiln.slots ≠ []) :
    t.keylessView = s.keylessView := by
  have ht : t.kiln.slots ≠ [] := (congrArg TamperView.slots h).trans_ne hs
  simp [State.keylessView, h, hs, ht]

theorem slots_ne_nil_of_loaded {s : State} {n : Nat} (h : s.slotEmpty n ≠ true) : s.kiln.slots ≠ [] := by
  intro hs
  exact h (by simp [State.slotEmpty, State.slotOf, hs, KeySlot.empty])

/-- A run of changes that each leave a part of the state leaves it. -/
theorem foldl_leaves {α β : Type} (v : State → α) {f : State → β → State} (hf : ∀ s b, v (f s b) = v s) (bs : List β)
    (s : State) : v (bs.foldl f s) = v s := by
  induction bs generalizing s with
  | nil => rfl
  | cons b bs ih => exact (ih _).trans (hf s b)

/-! ### Updates that leave the Kiln -/

@[simp] theorem keylessView_modCore (s : State) (n : Nat) (f : Core → Core) : (s.modCore n f).keylessView = s.keylessView := rfl
@[simp] theorem keylessView_modCel (s : State) (f : Cellar → Cellar) : (s.modCel f).keylessView = s.keylessView := rfl
@[simp] theorem keylessView_setQueue (s : State) (q : Nat) (c : QCtx) : (s.setQueue q c).keylessView = s.keylessView := rfl
@[simp] theorem keylessView_pendInt (s : State) (n v : Nat) : (s.pendInt n v).keylessView = s.keylessView := rfl
@[simp] theorem keylessView_unlock (s : State) (h : Holder) : (s.unlock h).keylessView = s.keylessView := rfl
@[simp] theorem keylessView_dropOpen (s : State) (line : Nat) : (s.dropOpen line).keylessView = s.keylessView := rfl

/-- Every control page register but TAMP_CTL may change. -/
theorem keylessView_setPreg (s : State) {p o : Nat} (w : Word) (h : 91 * 256 + 0o036 ≠ p * 256 + o) :
    (s.setPreg p o w).keylessView = s.keylessView := by
  have hp : (s.setPreg p o w).preg pgKiln 0o036 = s.preg pgKiln 0o036 := preg_setPreg_other s w (by omega)
  exact keylessView_of_kiln (by simp [State.tamperView, hp]) rfl

theorem keylessView_setPregF (s : State) {p o : Nat} (a b v : Nat) (h : 91 * 256 + 0o036 ≠ p * 256 + o) :
    (s.setPregF p o a b v).keylessView = s.keylessView := keylessView_setPreg s _ h

theorem keylessView_bump (s : State) {p o : Nat} (n : Nat) (h : 91 * 256 + 0o036 ≠ p * 256 + o) :
    (s.bump p o n).keylessView = s.keylessView := keylessView_setPreg s _ h

theorem keylessView_orPreg (s : State) {p o : Nat} (w : Word) (h : 91 * 256 + 0o036 ≠ p * 256 + o) :
    (s.orPreg p o w).keylessView = s.keylessView := keylessView_setPreg s _ h

@[simp] theorem keylessView_log (s : State) (kind src sub arg : Nat) :
    (s.log kind src sub arg).keylessView = s.keylessView := by
  unfold State.log
  dsimp only
  rw [keylessView_orPreg _ _ (by decide), keylessView_bump _ _ (by decide),
    keylessView_setPreg _ _ (by dsimp only [pgSticky]; omega), keylessView_setPreg _ _ (by dsimp only [pgSticky]; omega)]

@[simp] theorem keylessView_mcheck (s : State) (n cls detail : Nat) : (s.mcheck n cls detail).keylessView = s.keylessView := by
  unfold State.mcheck
  dsimp only
  rw [keylessView_modCore]
  split
  · rw [keylessView_bump _ _ (by decide), keylessView_log]
  · exact keylessView_log _ _ _ _ _

@[simp] theorem keylessView_engineUe (s : State) (src : Nat) : (s.engineUe src).keylessView = s.keylessView :=
  (keylessView_bump _ _ (by decide)).trans (keylessView_mcheck _ _ _ _)

@[simp] theorem keylessView_storeLost (s : State) (n : Nat) : (s.storeLost n).keylessView = s.keylessView :=
  (keylessView_mcheck _ _ _ _).trans ((keylessView_bump _ _ (by decide)).trans (keylessView_log _ _ _ _ _))

@[simp] theorem keylessView_kev (s : State) (b : Nat) : (s.kev b).keylessView = s.keylessView := by
  have ho := keylessView_orPreg s (p := pgKiln) (o := 0o032) (fld b b 1) (by decide)
  unfold State.kev
  dsimp only
  split
  · exact ho
  · exact ho

@[simp] theorem keylessView_macFail (s : State) : s.macFail.keylessView = s.keylessView := keylessView_bump _ _ (by decide)

@[simp] theorem keylessView_countLine (s : State) (n f : Nat) : (s.countLine n f).keylessView = s.keylessView := by
  unfold State.countLine
  dsimp only
  repeat' split
  all_goals rfl

@[simp] theorem keylessView_wakeDram (s : State) (pa : Nat) : (s.wakeDram pa).keylessView = s.keylessView := by
  unfold State.wakeDram
  dsimp only
  split
  · exact keylessView_setPregF _ _ _ _ (by omega)
  · rfl

@[simp] theorem keylessView_invalidate (s : State) (n line : Nat) : (s.invalidate n line).keylessView = s.keylessView := by
  unfold State.invalidate
  refine foldl_leaves _ (fun s e => ?_) _ _
  split <;> rfl

/-! ### Words of DRAM and key records -/

@[simp] theorem keylessView_wr (s : State) (pa : Nat) (c : Cell) : (s.wr pa c).keylessView = s.keylessView := by
  unfold State.wr
  split <;> rfl

@[simp] theorem keylessView_setRawW (s : State) (pa : Nat) (w : Word) : (s.setRawW pa w).keylessView = s.keylessView := rfl

@[simp] theorem keylessView_strSet (s : State) (base start len v : Nat) :
    (s.strSet base start len v).keylessView = s.keylessView :=
  foldl_leaves State.keylessView (fun s _ => keylessView_setRawW s _ _) _ _

@[simp] theorem keylessView_takeOpen (s : State) (line : Nat) (dirty : Bool) :
    (s.takeOpen line dirty).keylessView = s.keylessView := by
  unfold State.takeOpen
  split <;> rfl

@[simp] theorem keylessView_kcWriteBack (s : State) (f : Nat) (kr : Word) :
    (s.kcWriteBack f kr).keylessView = s.keylessView := by
  unfold State.kcWriteBack
  dsimp only
  split
  · exact keylessView_wr _ _ _
  · rfl

@[simp] theorem keylessView_kcPut (s : State) (cl f : Nat) (kr : Word) : (s.kcPut cl f kr).keylessView = s.keylessView := by
  unfold State.kcPut
  dsimp only
  split
  · rfl
  · split
    · exact keylessView_kcWriteBack _ _ _
    · rfl

@[simp] theorem keylessView_engineKey (s : State) (pa : Nat) : (s.engineKey pa).2.keylessView = s.keylessView := by
  unfold State.engineKey
  dsimp only
  split
  · rfl
  · split
    · exact keylessView_kcPut _ _ _ _
    · split
      · dsimp only
        split
        · rfl
        · exact keylessView_kcPut _ _ _ _
      · exact keylessView_mcheck _ _ _ _

@[simp] theorem keylessView_discardLine (s : State) (line sl : Nat) : (s.discardLine line sl).keylessView = s.keylessView := by
  unfold State.discardLine
  dsimp only
  rw [keylessView_bump _ _ (by decide), keylessView_log, keylessView_kev, keylessView_dropOpen]

/-! ### The counter tree: what a Kiln with keys changes of itself

The roots, the node cache and the refresh change here, the key slots do not. -/

@[simp] theorem tamperView_putG (s : State) (n : GNode) : (s.putG n).tamperView = s.tamperView := rfl
@[simp] theorem tamperView_putF (s : State) (n : FNode) : (s.putF n).tamperView = s.tamperView := rfl

@[simp] theorem tamperView_setRawW (s : State) (pa : Nat) (w : Word) : (s.setRawW pa w).tamperView = s.tamperView := rfl

@[simp] theorem tamperView_strSet (s : State) (base start len v : Nat) :
    (s.strSet base start len v).tamperView = s.tamperView :=
  tamperView_of_keylessView (keylessView_strSet _ _ _ _ _)

@[simp] theorem tamperView_needRefresh (s : State) (g : Nat) : (s.needRefresh g).tamperView = s.tamperView := by
  unfold State.needRefresh
  split
  · rfl
  · exact (tamperView_of_keylessView (keylessView_kev _ _)).trans rfl

@[simp] theorem tamperView_macFail_engineUe (s : State) : (s.macFail.engineUe pgKiln).tamperView = s.tamperView :=
  tamperView_of_keylessView ((keylessView_engineUe _ _).trans (keylessView_macFail s))

@[simp] theorem tamperView_writeG (s : State) (n : GNode) : (s.writeG n).tamperView = s.tamperView := by
  unfold State.writeG
  dsimp only
  split
  · rw [tamperView_needRefresh, tamperView_putG]
  · rw [foldl_leaves State.tamperView (fun s _ => tamperView_setRawW s _ _), tamperView_strSet, tamperView_strSet,
      foldl_leaves State.tamperView (fun _ _ => tamperView_strSet _ _ _ _ _)]
    rfl

@[simp] theorem tamperView_roomG (s : State) (g : Nat) : (s.roomG g).tamperView = s.tamperView := by
  unfold State.roomG
  split
  · rfl
  · split
    · dsimp only
      split
      · exact tamperView_writeG _ _
      · rfl
    · rfl

theorem tamperView_fetchG {s t : State} {g : Nat} (h : s.fetchG g = some t) : t.tamperView = s.tamperView := by
  unfold State.fetchG at h
  split at h
  · cases h; rfl
  · dsimp only at h
    split at h
    · cases h
      exact tamperView_roomG s g
    · cases h

@[simp] theorem tamperView_writeF (s : State) (n : FNode) : (s.writeF n).tamperView = s.tamperView := by
  unfold State.writeF
  split
  · exact tamperView_macFail_engineUe s
  · next hg =>
    rw [← tamperView_fetchG hg]
    dsimp only
    split
    · rw [tamperView_needRefresh, tamperView_putF]
    · rw [tamperView_strSet, tamperView_strSet, tamperView_strSet]
      split <;> rfl

@[simp] theorem tamperView_roomF (s : State) (f : Nat) : (s.roomF f).tamperView = s.tamperView := by
  unfold State.roomF
  split
  · rfl
  · split
    · dsimp only
      split
      · exact tamperView_writeF _ _
      · rfl
    · rfl

theorem tamperView_fetchF {s t : State} {f : Nat} (h : s.fetchF f = some t) : t.tamperView = s.tamperView := by
  unfold State.fetchF at h
  split at h
  · cases h
  · next hg =>
    rw [← tamperView_fetchG hg]
    split at h
    · cases h; rfl
    · dsimp only at h
      split at h
      · cases h
        exact tamperView_roomF _ f
      · cases h

@[simp] theorem tamperView_zeroMins (s : State) (f maj : Nat) : (s.zeroMins f maj).tamperView = s.tamperView := by
  unfold State.zeroMins State.clearMins
  rw [foldl_leaves State.tamperView (fun _ _ => tamperView_strSet _ _ _ _ _), tamperView_putF, tamperView_roomF]

@[simp] theorem tamperView_remac (s : State) (f j sl : Nat) : (s.remac f j sl).tamperView = s.tamperView :=
  tamperView_strSet _ _ _ _ _

theorem tamperView_advanceMin {s t : State} {f j sl : Nat} (h : s.advanceMin f j sl = some t) :
    t.tamperView = s.tamperView := by
  unfold State.advanceMin at h
  dsimp only at h
  split at h
  · cases h
    exact tamperView_strSet _ _ _ _ _
  · split at h
    · cases h
      rw [tamperView_strSet, foldl_leaves State.tamperView (fun _ _ => tamperView_remac _ _ _ _), tamperView_zeroMins]
    · cases h

@[simp] theorem tamperView_sealLine (s : State) (line sl : Nat) (cells : List Cell) :
    (s.sealLine line sl cells).tamperView = s.tamperView := by
  unfold State.sealLine
  dsimp only
  rw [tamperView_remac]
  split <;> rfl

/-! ### Sealed lines: a Kiln without keys stands still -/

/-- A line is opened under a loaded slot alone. -/
theorem keylessView_kilnOpen {s t : State} {line sl : Nat}
    (h : s.kilnOpen line sl = .opened t ∨ s.kilnOpen line sl = .checkFailed t) : t.keylessView = s.keylessView := by
  unfold State.kilnOpen at h
  dsimp only at h
  split at h
  · rcases h with h | h <;> cases h
  · next hk =>
    have keyed : s.kiln.slots ≠ [] := slots_ne_nil_of_loaded (n := sl) fun he => hk (.inr he)
    split at h
    · rcases h with h | h <;> cases h
      exact keylessView_macFail s
    · next hf =>
      refine keylessView_of_keyed ?_ keyed
      rw [← tamperView_fetchF hf]
      split at h
      · rcases h with h | h <;> cases h
        rfl
      · rcases h with h | h <;> cases h
        exact tamperView_of_keylessView (keylessView_macFail _)

/-- A dirty line is sealed under a loaded slot alone; else it is discarded (14 R362). -/
@[simp] theorem keylessView_kilnWrite (s : State) (line : Nat) (keep : Bool) :
    (s.kilnWrite line keep).keylessView = s.keylessView := by
  unfold State.kilnWrite
  split
  · rfl
  · split <;> rfl
  · dsimp only
    split
    · exact foldl_leaves State.keylessView (fun _ _ => keylessView_wr _ _ _) _ _
    · split
      · exact keylessView_discardLine _ _ _
      · next hk =>
        have keyed : s.kiln.slots ≠ [] := slots_ne_nil_of_loaded fun he => hk (.inl he)
        split
        · rw [keylessView_discardLine, keylessView_engineUe, keylessView_macFail]
        · next hf =>
          refine keylessView_of_keyed ?_ keyed
          rw [← tamperView_fetchF hf]
          split
          · exact tamperView_needRefresh _ _
          · next ha =>
            rw [← tamperView_advanceMin ha, tamperView_sealLine]
            split <;> rfl

theorem keylessView_openFor {s t : State} {pa sl : Nat} {b : Bool} (h : s.openFor pa sl = some (b, t)) :
    t.keylessView = s.keylessView := by
  unfold State.openFor at h
  split at h
  · cases h; rfl
  · split at h
    · cases h
      exact keylessView_takeOpen _ _ _
    · split at h
      · next ho =>
        cases h
        exact keylessView_kilnOpen (.inl ho)
      · cases h
      · next ho =>
        cases h
        exact keylessView_kilnOpen (.inr ho)

@[simp] theorem keylessView_leave (s : State) (line : Nat) : (s.leave line).keylessView = s.keylessView := by
  unfold State.leave
  split
  · rfl
  · exact keylessView_kilnWrite _ _ _

@[simp] theorem keylessView_dcEvict (s : State) (n : Nat) (line : Nat × Bool) :
    (s.dcEvict n line).keylessView = s.keylessView := by
  have ends : ∀ u : State, State.keylessView (if u.heldElsewhere n line.1 then u
      else (if line.2 ∧ u.inWindow (line.1 / 128) = true ∧ u.sealFor (line.1 / 128) ≠ 0 then u.takeOpen line.1 true
        else u).kilnClose line.1) = u.keylessView := by
    intro u
    split
    · rfl
    · refine (keylessView_kilnWrite _ _ _).trans ?_
      split
      · exact keylessView_takeOpen _ _ _
      · rfl
  unfold State.dcEvict
  refine (ends _).trans ?_
  split
  · exact keylessView_countLine _ _ _
  · rfl

@[simp] theorem keylessView_dcPut (s : State) (n line : Nat) (dirty : Bool) :
    (s.dcPut n line dirty).keylessView = s.keylessView := by
  have counted : State.keylessView (if (s.core n).dcache.any (fun l => l.1 == line) then s else s.countLine n (line / 128)) =
      s.keylessView := by
    split
    · rfl
    · exact keylessView_countLine _ _ _
  unfold State.dcPut
  dsimp only
  rw [← counted]
  split
  · rfl
  · exact keylessView_dcEvict _ _ _

@[simp] theorem keylessView_writeThrough (s : State) (line : Nat) : (s.writeThrough line).keylessView = s.keylessView := by
  unfold State.writeThrough
  split
  · rfl
  · exact keylessView_kilnWrite _ _ _

@[simp] theorem keylessView_storeWord (s : State) (n : Nat) (p : Phys) (mask : BitVec 4) (w : Word) (tag : Bool) :
    (s.storeWord n p mask w tag).keylessView = s.keylessView := by
  unfold State.storeWord
  split
  · rfl
  · split
    · next ho => rw [keylessView_storeLost, keylessView_openFor ho]
    · exact keylessView_discardLine _ _ _
    · next ho =>
      dsimp only
      rw [← keylessView_openFor ho]
      split
      · simp
      · split <;> simp

@[simp] theorem keylessView_flushStores (s : State) (n : Nat) : (s.flushStores n).keylessView = s.keylessView :=
  foldl_leaves State.keylessView (fun _ _ => keylessView_storeWord _ _ _ _ _ _) _ _

@[simp] theorem keylessView_flushDcache (s : State) (n : Nat) : (s.flushDcache n).keylessView = s.keylessView :=
  foldl_leaves State.keylessView (fun _ _ => keylessView_dcEvict _ _ _) _ _

@[simp] theorem keylessView_engineWrite (s : State) (pa : Nat) (w : Word) :
    (s.engineWrite pa w).keylessView = s.keylessView := by
  have hk := keylessView_engineKey s pa
  unfold State.engineWrite State.engineCell
  split
  · rfl
  · split
    · next he =>
      rw [he] at hk
      exact hk
    · next he =>
      rw [he] at hk
      split
      · next ho => simp [keylessView_openFor ho, hk]
      · next ho => simp [keylessView_openFor ho, hk]
      · simpa using hk

/-! ### Postings, tickets and the reset of a core -/

@[simp] theorem keylessView_sendFlits (s : State) (p : Nat) (fs : List Flit) :
    (s.sendFlits p fs).keylessView = s.keylessView := by
  unfold State.sendFlits State.sendClass State.sentPort
  dsimp only
  split
  · exact keylessView_bump _ _ (by omega)
  · rfl

@[simp] theorem keylessView_rackRecord (s : State) (pos : Word) : (s.rackRecord pos).keylessView = s.keylessView := by
  unfold State.rackRecord
  dsimp only
  rw [keylessView_modCel, keylessView_sendFlits]

@[simp] theorem keylessView_retire (s : State) (n len : Nat) (flow : Flow) :
    (s.retire n len flow).keylessView = s.keylessView := by
  unfold State.retire
  dsimp only
  split
  · exact keylessView_bump _ _ (by omega)
  · rfl

@[simp] theorem keylessView_applyBalances (s : State) (addrs : List Nat) (new : List Word) :
    (s.applyBalances addrs new).keylessView = s.keylessView :=
  foldl_leaves State.keylessView (fun _ _ => keylessView_engineWrite _ _ _) _ _

@[simp] theorem keylessView_finishPosting (s : State) (p : Posting) (lone : Bool) :
    (s.finishPosting p lone).keylessView = s.keylessView := by
  unfold State.finishPosting
  dsimp only
  rw [keylessView_retire, keylessView_modCore]
  split
  · rw [keylessView_unlock, keylessView_applyBalances, keylessView_modCel]
  · rfl
  · split
    · rw [keylessView_unlock, keylessView_modCel, keylessView_applyBalances, keylessView_modCel]
    · rfl
  · rfl

@[simp] theorem keylessView_recordDurable (s : State) : s.recordDurable.keylessView = s.keylessView := by
  have racked : ∀ (c : Cellar) (b : Bool) (pos : Word),
      State.keylessView (if b then State.rackRecord { s with cel := c } pos else { s with cel := c }) = s.keylessView := by
    intro c b pos
    cases b
    · rfl
    · exact keylessView_rackRecord _ _
  unfold State.recordDurable
  split
  · rfl
  · dsimp only
    generalize Cellar.checkpoint _ _ = c
    split
    · exact racked _ _ _
    · split
      · split
        · exact racked _ _ _
        · exact (keylessView_finishPosting _ _ _).trans (racked _ _ _)
      · exact racked _ _ _

@[simp] theorem keylessView_abandonPosting (s : State) (n : Nat) : (s.abandonPosting n).keylessView = s.keylessView := by
  unfold State.abandonPosting
  split
  · split <;> rfl
  · rfl

@[simp] theorem keylessView_completeCommitted (s : State) (n : Nat) : (s.completeCommitted n).keylessView = s.keylessView := by
  unfold State.completeCommitted
  split
  · split
    · dsimp only
      split <;> simp [foldl_leaves State.keylessView]
    · exact keylessView_abandonPosting _ _
  · rfl

@[simp] theorem keylessView_signal (s : State) (q : Nat) : (s.signal q).keylessView = s.keylessView := by
  unfold State.signal
  split <;> rfl

@[simp] theorem keylessView_releaseTicket (s : State) (n : Nat) : (s.releaseTicket n).keylessView = s.keylessView := by
  unfold State.releaseTicket
  split
  · rfl
  · simp

@[simp] theorem keylessView_resetCore (s : State) (n : Nat) : (s.resetCore n).keylessView = s.keylessView := by
  unfold State.resetCore
  dsimp only
  rw [keylessView_setPreg _ _ (by omega), keylessView_setPreg _ _ (by omega)]
  simp

/-! ### Frame moves that a zeroize abandons -/

@[simp] theorem keylessView_malEvent (s : State) (epoch ty from_ to_ obj other heat victim : Nat) :
    (s.malEvent epoch ty from_ to_ obj other heat victim).keylessView = s.keylessView := by
  unfold State.malEvent
  dsimp only
  split
  · exact keylessView_bump _ _ (by decide)
  · split
    · rw [keylessView_pendInt, keylessView_setPregF _ _ _ _ (by decide),
        foldl_leaves State.keylessView (fun _ _ => keylessView_engineWrite _ _ _)]
    · rw [keylessView_setPregF _ _ _ _ (by decide),
        foldl_leaves State.keylessView (fun _ _ => keylessView_engineWrite _ _ _)]

@[simp] theorem keylessView_malStat (s : State) (stat op stage code : Nat) :
    (s.malStat stat op stage code).keylessView = s.keylessView := by
  have told := keylessView_setPreg s (p := pgMal) (o := 0o054)
    (fld 0 2 stat ||| fld 3 5 op ||| fld 6 8 stage ||| fld 27 35 code) (by decide)
  unfold State.malStat
  dsimp only
  split
  · rw [keylessView_pendInt, told]
  · exact told

@[simp] theorem keylessView_endCommand (s : State) (m : Move) (code : Nat) :
    (s.endCommand m code).keylessView = s.keylessView := by
  unfold State.endCommand
  split
  · exact keylessView_malStat _ _ _ _ _
  · rfl

@[simp] theorem keylessView_abandonSealedMoves (s : State) : s.abandonSealedMoves.keylessView = s.keylessView :=
  foldl_leaves State.keylessView (fun _ _ => (keylessView_endCommand _ _ _).trans (keylessView_malEvent _ _ _ _ _ _ _ _ _)) _ _

/-! ### A zeroize in its parts -/

/-- The Kiln's command and the frame moves that need its keys end (14 R348, R362). -/
def State.endKilnWork (s : State) : State :=
  let s := match s.kiln.cmd with
    | some (op, _, _) => s.kcstat 3 op kAbsent
    | none => s
  s.abandonSealedMoves

/-- The Kiln emptied, K_TREE drawn anew from i on (14 Table 14-8). -/
def Kiln.emptied (k : Kiln) (i : Nat) : Kiln :=
  { k with
    slots := [], kek := none, ktree := freeOctets i 32, root := [], fnodes := [], gnodes := [], cmd := none, refresh := none
    requests := 0 }

/-- The registers and the log tell of a zeroize, and the enables clear (14 R360, R363). -/
def State.noteZeroize (s : State) (b : Nat) : State :=
  ((((s.orPreg pgKiln 0o037 (fld b b 1)).bump pgKiln 0o040 1).setPregF pgKiln 0o036 28 34 0).kev 33).log 5 pgKiln 0 0

/-- The state of a zeroize in which RESP decides over the tamper stop. -/
def State.purged (s : State) (b : Nat) : State :=
  let a := s.endKilnWork
  State.noteZeroize
    { ({ a with free := a.free + 32 } : State).loseSlots (fun n => n != 0) with kiln := a.kiln.emptied a.free } b

theorem zeroize_eq (s : State) (b : Nat) : s.zeroize b =
    if bit ((s.purged b).preg pgKiln 0o036) 35 && (s.purged b).pins.pwrGood && !(s.purged b).kiln.tstop then
      (s.purged b).tamperStop
    else s.purged b := rfl

@[simp] theorem keylessView_endKilnWork (s : State) : s.endKilnWork.keylessView = s.keylessView := by
  unfold State.endKilnWork
  dsimp only
  rw [keylessView_abandonSealedMoves]
  split
  · exact keylessView_setPreg _ _ (by decide)
  · rfl

/-- The enables clear, RESP stays. -/
def clearEnables (w : Word) : Word := setBits w 28 34 0

theorem bits_clearEnables (w : Word) : bits (clearEnables w) 28 34 = 0 := by
  have hw := w.isLt
  simp only [clearEnables, setBits, bits, wd, BitVec.toNat_ofNat]
  omega

theorem bit_clearEnables_resp (w : Word) : bit (clearEnables w) 35 = bit w 35 := by
  have hw := w.isLt
  simp only [clearEnables, bit, setBits, bits, wd, BitVec.toNat_ofNat]
  exact decide_eq_decide.2 (by omega)

/-- The event and the log entry change no more than the three registers did. -/
theorem keylessView_noteZeroize (s : State) (b : Nat) : (s.noteZeroize b).keylessView =
    (((s.orPreg pgKiln 0o037 (fld b b 1)).bump pgKiln 0o040 1).setPregF pgKiln 0o036 28 34 0).keylessView := by
  unfold State.noteZeroize
  rw [keylessView_log, keylessView_kev]

theorem tamperView_noteZeroize (s : State) (b : Nat) :
    (s.noteZeroize b).tamperView = { s.tamperView with tampCtl := clearEnables (s.preg pgKiln 0o036) } := by
  have counted : ((s.orPreg pgKiln 0o037 (fld b b 1)).bump pgKiln 0o040 1).tamperView = s.tamperView :=
    tamperView_of_keylessView ((keylessView_bump _ _ (by decide)).trans (keylessView_orPreg _ _ (by decide)))
  have hctl := congrArg TamperView.tampCtl counted
  rw [tamperView_of_keylessView (keylessView_noteZeroize s b), ← counted]
  simp only [State.tamperView, State.setPregF, preg_setPreg_same, clearEnables] at hctl ⊢
  rw [hctl]
  rfl

theorem kiln_noteZeroize {s : State} (b : Nat) (h : s.kiln.slots = []) : (s.noteZeroize b).kiln = s.kiln := by
  have hk := kiln_of_keylessView (keylessView_noteZeroize s b) h
  exact hk

theorem kiln_purged (s : State) (b : Nat) :
    (s.purged b).kiln = s.endKilnWork.kiln.emptied s.endKilnWork.free := kiln_noteZeroize b rfl

theorem tamperView_purged (s : State) (b : Nat) :
    (s.purged b).tamperView = { s.tamperView with slots := [], tampCtl := clearEnables (s.preg pgKiln 0o036) } := by
  have worked := tamperView_of_keylessView (keylessView_endKilnWork s)
  have hctl : s.endKilnWork.preg pgKiln 0o036 = s.preg pgKiln 0o036 := congrArg TamperView.tampCtl worked
  rw [← worked, ← hctl]
  exact tamperView_noteZeroize _ b

/-! ### The tamper stop -/

/-- Cores reset and copies cleared change nothing of the Kiln. -/
theorem keylessView_clearCopies_resets (s : State) (ns : List Nat) :
    (ns.foldl (fun s n => s.resetCore n) s).clearCopies.keylessView = s.keylessView :=
  (show State.keylessView (State.clearCopies _) = _ from rfl).trans
    (foldl_leaves State.keylessView (fun _ _ => keylessView_resetCore _ _) ns s)

theorem tamperView_tamperStop (s : State) :
    s.tamperStop.tamperView = { s.tamperView with twin := { s.twin with hold := false }, tstop := true } := by
  unfold State.tamperStop
  generalize List.range 64 = ns
  exact congrArg (fun v : TamperView => { v with tstop := true })
    (tamperView_of_keylessView (keylessView_clearCopies_resets s.releaseHold ns))

theorem kiln_tamperStop {s : State} (h : s.kiln.slots = []) : s.tamperStop.kiln = { s.kiln with tstop := true } := by
  unfold State.tamperStop
  generalize List.range 64 = ns
  exact congrArg (fun k : Kiln => { k with tstop := true })
    (kiln_of_keylessView (keylessView_clearCopies_resets s.releaseHold ns) h)

/-- What a tamper stop shows: no copy in clear is left, and the twin's hold is gone (14 R360). -/
theorem tamperStop_leaves (s : State) : s.tamperStop.sys = 8 ∧ s.tamperStop.kiln.tstop = true ∧ s.tamperStop.clear = [] ∧
    s.tamperStop.opened = [] ∧ s.tamperStop.twin.hold = false := by
  obtain ⟨-, htwin, -, -, htstop⟩ := tamperView_fields (tamperView_tamperStop s)
  have cleared : s.tamperStop.sys = 8 ∧ s.tamperStop.clear = [] ∧ s.tamperStop.opened = [] := by
    unfold State.tamperStop
    generalize List.range 64 = ns
    exact ⟨rfl, rfl, rfl⟩
  obtain ⟨hsys, hclear, hopened⟩ := cleared
  exact ⟨hsys, htstop, hclear, hopened, congrArg Twin.hold htwin⟩

/-! ### What a zeroize leaves (14 R360, R361) -/

/-- No key, no root, no node and no work of the Kiln is left, and no enable of TAMP_CTL. -/
def State.Zeroized (t : State) : Prop :=
  t.kiln.slots = [] ∧ t.kiln.kek = none ∧ t.kiln.root = [] ∧ t.kiln.fnodes = [] ∧ t.kiln.gnodes = [] ∧ t.kiln.cmd = none ∧
    t.kiln.refresh = none ∧ bits (t.preg 91 0o036) 28 34 = 0

theorem purged_zeroized (s : State) (b : Nat) : (s.purged b).Zeroized := by
  obtain ⟨-, -, hctl, -, -⟩ := tamperView_fields (tamperView_purged s b)
  unfold State.Zeroized
  rw [kiln_purged, hctl]
  exact ⟨rfl, rfl, rfl, rfl, rfl, rfl, rfl, bits_clearEnables _⟩

theorem tamperStop_zeroized {s : State} (h : s.Zeroized) : s.tamperStop.Zeroized := by
  obtain ⟨-, -, hctl, -, -⟩ := tamperView_fields (tamperView_tamperStop s)
  have hk := kiln_tamperStop h.1
  unfold State.Zeroized
  rw [hk, hctl]
  exact h

theorem zeroize_zeroized (s : State) (b : Nat) : (s.zeroize b).Zeroized := by
  rw [zeroize_eq]
  split
  · exact tamperStop_zeroized (purged_zeroized s b)
  · exact purged_zeroized s b

theorem zeroize_pins (s : State) (b : Nat) : (s.zeroize b).pins = s.pins := by
  obtain ⟨hpurged, -⟩ := tamperView_fields (tamperView_purged s b)
  obtain ⟨hstop, -⟩ := tamperView_fields (tamperView_tamperStop (s.purged b))
  dsimp only [State.tamperView] at hpurged hstop
  rw [zeroize_eq]
  split
  · rw [hstop, hpurged]
  · exact hpurged

/-- With main power on and RESP set, a zeroize ends in tamper stop. -/
theorem zeroize_stops {s : State} (b : Nat) (hresp : bit (s.preg 91 0o036) 35 = true) (hpwr : s.pins.pwrGood = true)
    (hstop : s.kiln.tstop = false) : s.zeroize b = (s.purged b).tamperStop := by
  obtain ⟨hp, -, hctl, -, ht⟩ := tamperView_fields (tamperView_purged s b)
  rw [zeroize_eq, if_pos]
  rw [hp, ht, hctl]
  simp [State.tamperView, bit_clearEnables_resp, hresp, hpwr, hstop]

/-! ### Inputs under an enable (14 R359) -/

theorem tamperInput_fires {s : State} {b : Nat} {watched : Bool} (hon : bit (s.preg 91 0o036) b = true) (hw : watched = true) :
    s.tamperInput b watched = s.zeroize b := by
  simp [State.tamperInput, hon, hw]

theorem tamperInput_idle {s : State} {b : Nat} {watched : Bool} (h : bit (s.preg 91 0o036) b = false ∨ watched = false) :
    s.tamperInput b watched = s := by
  rcases h with h | h <;> simp [State.tamperInput, h]

theorem tamperInput_pins (s : State) (b : Nat) (watched : Bool) : (s.tamperInput b watched).pins = s.pins := by
  unfold State.tamperInput
  split
  · exact zeroize_pins s b
  · rfl

/-- A command that is its input under an enable zeroizes where the enable is set and the input watched, and else does
nothing. -/
theorem fires_of_tamperInput {s : State} {b : Nat} {watched : Bool} {c : Instr}
    (hc : exec c s = .next (s.tamperInput b watched)) :
    (bit (s.preg 91 0o036) b = true → watched = true →
      (∃ t, exec c s = .next t ∧ t.Zeroized) ∧ exec c s = .next (s.zeroize b)) ∧
    ((bit (s.preg 91 0o036) b = false ∨ watched = false) → exec c s = .next s) := by
  constructor
  · intro hon hw
    rw [hc, tamperInput_fires hon hw]
    exact ⟨⟨_, rfl, zeroize_zeroized s b⟩, rfl⟩
  · intro h
    rw [hc, tamperInput_idle h]

theorem exec_voltageDetector (v : Bool) (s : State) : exec (.voltageDetector v) s =
    .next (if v && !s.pins.pwrGood then (s.tamperInput 32 (v || s.pins.pwrGood)).loseBattery
      else s.tamperInput 32 (v || s.pins.pwrGood)) := by
  show execVoltageDetector v s = _
  unfold execVoltageDetector
  dsimp only
  rw [tamperInput_pins]

/-- With main power on, and for VDD_AON, the voltage detector is an input like the others. -/
theorem exec_voltageDetector_powered {v : Bool} {s : State} (h : v = false ∨ s.pins.pwrGood = true) :
    exec (.voltageDetector v) s = .next (s.tamperInput 32 (v || s.pins.pwrGood)) := by
  rw [exec_voltageDetector, if_neg]
  rcases h with h | h <;> simp [h]

/-- Without main power VBAT_TAMPER is watched still, and the battery is lost (14 R351; log entry 51). -/
theorem exec_voltageDetector_battery {s : State} (h : s.pins.pwrGood = false) :
    exec (.voltageDetector true) s = .next (s.tamperInput 32 true).loseBattery := by
  rw [exec_voltageDetector, if_pos (by simp [h])]
  rfl

/-! ### Writes of the Kiln page (14 R341, R363; 17 R421, R474) -/

/-- A write that the page admits is answered by the rules of its register. -/
theorem pageAnswer_of_admits {s : State} {w : Writer} {p off : Nat} {v : Word} {r : Reg} (hr : regAt p off = some r)
    (h : s.admits w p off v = true) : s.pageAnswer w p off v = s.wrReg w p off r v := by
  simp only [State.admits, hr, Bool.and_eq_true, Bool.not_eq_true', Bool.or_eq_true, decide_eq_true_eq] at h
  obtain ⟨⟨⟨⟨hmay, hlock⟩, hdark⟩, hhalf⟩, hwritable, hreserved⟩ := h
  have hon : ¬((s.pageDark p off = true ∧ off ≠ 3) ∨ s.halfAbsent p off = true) := by
    rintro (⟨hd, h3⟩ | hd)
    · rcases hdark with hoff | hoff
      · rw [hoff] at hd
        cases hd
      · exact h3 hoff
    · rw [hhalf] at hd
      cases hd
  unfold State.pageAnswer
  rw [if_neg (by simp [hmay]), if_neg (by simp [hlock]), if_neg hon]
  simp [hr, hwritable, hreserved]

/-- The write of an admitted word leaves the effect its register answers, or the record of its code. -/
theorem wrPage_of_admits {s t : State} {w : Writer} {p off code : Nat} {v : Word} {r : Reg} (hr : regAt p off = some r)
    (h : s.admits w p off v = true) (ha : s.wrReg w p off r v = (code, t)) :
    s.wrPage w p off v = if code = 0 then t else t.reject w p off code := by
  rw [wrPage_eq, pageAnswer_of_admits hr h, ha]

/-- COMMIT of group WINDOW comes to the window's own rules where no commit of the page stands in its way. -/
theorem commit_window {s : State} (hd : s.direct 91 = false) (hs : s.staged = []) : s.commit 91 1 = s.commitWindow := by
  have hg : ((groupRegs 91).any fun e => e.2 == 1) = true := by decide
  simp [State.commit, hg, hd, hs]

/-- The code of a COMMIT of group WINDOW on its shadows: BUSY before the rules of the values. -/
def State.windowAnswer (s : State) : Nat :=
  if s.anyFormatted then 5
  else s.windowCode (s.shadowReg 91 0o021).toNat (s.shadowReg 91 0o022).toNat (s.shadowReg 91 0o023).toNat

theorem commitWindow_eq (s : State) : s.commitWindow = (s.windowAnswer, if s.windowAnswer = 0 then
    ((s.setPreg 91 0o021 (s.shadowReg 91 0o021)).setPreg 91 0o022 (s.shadowReg 91 0o022)).setPreg 91 0o023
      (s.shadowReg 91 0o023) else s) := by
  unfold State.commitWindow State.windowAnswer
  dsimp only
  split
  · rfl
  · split
    · next h => rw [h]; rfl
    · next h => rw [if_neg h]

theorem exec_window {s : State} {w : Writer} (ha : s.admits w 91 5 1 = true) (hd : s.direct 91 = false) (hs : s.staged = []) :
    exec (.window w) s = .next (if s.windowAnswer = 0 then
      ((s.setPreg 91 0o021 (s.shadowReg 91 0o021)).setPreg 91 0o022 (s.shadowReg 91 0o022)).setPreg 91 0o023
        (s.shadowReg 91 0o023) else s.reject w 91 5 s.windowAnswer) := by
  have hw := wrPage_of_admits (r := _) rfl ha ((commit_window hd hs).trans (commitWindow_eq s))
  refine congrArg Host.Outcome.next (hw.trans ?_)
  split <;> rfl

/-- A write that clears a set enable of TAMP_CTL is refused. -/
theorem wrTampCtl_clearing {s : State} {v : Word}
    (h : ∃ i, 28 ≤ i ∧ i ≤ 34 ∧ bit (s.preg 91 0o036) i = true ∧ bit v i = false) : s.wrTampCtl v = (7, s) := by
  obtain ⟨i, hlo, hhi, hset, hclear⟩ := h
  unfold State.wrTampCtl
  rw [if_pos]
  refine List.any_eq_true.2 ⟨i - 28, List.mem_range.2 (by omega), ?_⟩
  rw [Nat.add_sub_cancel' hlo, hset, hclear]
  rfl

/-- Any other write is taken whole. -/
theorem wrTampCtl_keeping {s : State} {v : Word}
    (h : ∀ i, 28 ≤ i → i ≤ 34 → bit (s.preg 91 0o036) i = true → bit v i = true) :
    s.wrTampCtl v = (0, s.setPreg 91 0o036 v) := by
  unfold State.wrTampCtl
  rw [if_neg]
  intro hany
  obtain ⟨j, hj, hbad⟩ := List.any_eq_true.1 hany
  simp only [Bool.and_eq_true, Bool.not_eq_true'] at hbad
  have hkept := h (28 + j) (by omega) (by have := List.mem_range.1 hj; omega) hbad.1
  rw [hbad.2] at hkept
  cases hkept

theorem exec_tampCtl {s t : State} {w : Writer} {v : Word} {code : Nat} (h : s.admits w 91 0o036 v = true)
    (ha : s.wrTampCtl v = (code, t)) :
    exec (.tampCtl w v) s = .next (if code = 0 then t else t.reject w 91 0o036 code) :=
  congrArg Host.Outcome.next (wrPage_of_admits (r := _) rfl h ha)

/-- Settles O32: every detector is an input under its enable, a zeroize leaves an empty Kiln that the tamper stop's
write-backs cannot fill again, and the two writes are answered by the window's rules and by those of TAMP_CTL. -/
theorem tamperResponseResults : Obligations.TamperResponseResults := by
  unfold Obligations.TamperResponseResults
  refine ⟨fun s => ⟨fun p => ?mesh, fun v hv => ?voltage, ?battery, fun v => ?clock, ?temperature, ?zpin, rfl, rfl, rfl, ?stop⟩,
    fun w s => ⟨fun ha hd hs => ?window, fun v hv => ⟨fun h => ?clearing, fun h => ?keeping⟩⟩⟩
  case mesh => exact fires_of_tamperInput rfl
  case voltage => exact fires_of_tamperInput (exec_voltageDetector_powered hv)
  case battery =>
    intro hp
    rw [exec_voltageDetector_battery hp]
    simp [State.tamperInput, State.loseBattery]
  case clock => exact fires_of_tamperInput rfl
  case temperature => exact fires_of_tamperInput rfl
  case zpin => exact ⟨_, rfl, zeroize_zeroized _ 35⟩
  case stop =>
    intro hresp hpwr hstop
    have stops := zeroize_stops (s := { s with kiln := { s.kiln with zLow := true } }) 35 hresp hpwr hstop
    obtain ⟨hsys, htstop, hclear, hopened, hhold⟩ := tamperStop_leaves _
    exact ⟨_, congrArg Host.Outcome.next stops, hsys, htstop, hclear, hopened, hhold⟩
  case window => exact exec_window ha hd hs
  case clearing => exact exec_tampCtl hv (wrTampCtl_clearing h)
  case keeping => exact exec_tampCtl hv (wrTampCtl_keeping h)

end Sys2Proof.Machine
end
